-- ==== Sys2Proof/Word.lean ====
section
/-! DEFINITION. The byte and byte strings. Everything the manual counts is a Nat or an Int (00_scope.md 4.4: exact
integer arithmetic); only what it treats as bits is a bit vector. -/

namespace Sys2Proof

/-- One byte of a packet, a block or a parameter field. -/
abbrev Byte := BitVec 8

/-- A byte string, first byte first. -/
abbrev Bytes := List Byte

end Sys2Proof
end

