-- ==== Sys2Proof/Syntax.lean ====
section
/-! DEFINITION. The commands: one constructor of `Instr` for each row of spec/opcode_table.json, with what the event
brings. `dt` is the part time, in µs, since the command before it (LOG 1). A directive brings its tag and its parameter
field (R174); its code is fixed by the row (Table 11-4). -/

namespace Sys2Proof

/-- One sample record of the IMU, in the order read (R1). -/
structure SampleRecord where
  seq : BitVec 8
  gx : BitVec 16
  gy : BitVec 16
  gz : BitVec 16
  ax : BitVec 16
  ay : BitVec 16
  az : BitVec 16
deriving DecidableEq, Repr

/-- The stream of a clip packet the host sends (R65). -/
inductive ClipStream where
  | video
  | audio
deriving DecidableEq, Repr

/-- The six measurements of a power update (R143), in mV, mA and 0.5 °C. -/
structure Measurements where
  vin : Nat
  iin : Nat
  vbat : Nat
  ibat : Int
  batTemp : Int
  dieTemp : Int
deriving DecidableEq, Repr

/-- The commands of spec/opcode_table.json, in the table's order. -/
inductive Instr where
  /-- COLD_START: the level CARD_DET shows (true: a card is present). -/
  | coldStart (cardDet : Bool)
  | brownOut (dt : Nat)
  | rstinAssertion (dt : Nat)
  | imuDrdyEdge (dt : Nat)
  | sampleTaken (dt : Nat) (record : SampleRecord)
  | motionLost (dt : Nat)
  /-- IDENTITY_CHECK: the identity the sensor gave, none when it gives none. -/
  | identityCheck (dt : Nat) (ident : Option (BitVec 8))
  /-- FRAME_START_MARKER: the sensor's frame count. -/
  | frameStartMarker (dt : Nat) (count : BitVec 16)
  /-- SENSOR_LINE: the line's pixel values. -/
  | sensorLine (dt : Nat) (pixels : List Nat)
  | frameEndMarker (dt : Nat)
  | sideSlot (dt : Nat)
  | clipPacket (dt : Nat) (stream : ClipStream) (flags : Byte) (pts : BitVec 64) (payload : Bytes)
  /-- MALFORMED_PACKET: every byte the packet delivered, header included. -/
  | malformedPacket (dt : Nat) (bytes : Bytes)
  | unknownDirective (dt : Nat) (tag code : Byte) (params : Bytes)
  | linkReset (dt : Nat) (tag : Byte) (params : Bytes)
  | sleep (dt : Nat) (tag : Byte) (params : Bytes)
  | readStatus (dt : Nat) (tag : Byte) (params : Bytes)
  | readCounters (dt : Nat) (tag : Byte) (params : Bytes)
  | clearCounters (dt : Nat) (tag : Byte) (params : Bytes)
  | writeEntry (dt : Nat) (tag : Byte) (params : Bytes)
  | readEntry (dt : Nat) (tag : Byte) (params : Bytes)
  | selectPage (dt : Nat) (tag : Byte) (params : Bytes)
  | calibrate (dt : Nat) (tag : Byte) (params : Bytes)
  | setMode (dt : Nat) (tag : Byte) (params : Bytes)
  | recenter (dt : Nat) (tag : Byte) (params : Bytes)
  | setGeometry (dt : Nat) (tag : Byte) (params : Bytes)
  | setLens (dt : Nat) (tag : Byte) (params : Bytes)
  | setExposure (dt : Nat) (tag : Byte) (params : Bytes)
  | mount (dt : Nat) (tag : Byte) (params : Bytes)
  | unmount (dt : Nat) (tag : Byte) (params : Bytes)
  | startRecording (dt : Nat) (tag : Byte) (params : Bytes)
  | stopRecording (dt : Nat) (tag : Byte) (params : Bytes)
  | mark (dt : Nat) (tag : Byte) (params : Bytes)
  | lockClip (dt : Nat) (tag : Byte) (params : Bytes)
  | unlockClip (dt : Nat) (tag : Byte) (params : Bytes)
  | deleteClip (dt : Nat) (tag : Byte) (params : Bytes)
  | readIndex (dt : Nat) (tag : Byte) (params : Bytes)
  | readClip (dt : Nat) (tag : Byte) (params : Bytes)
  | cardRead (dt : Nat) (tag : Byte) (params : Bytes)
  | cardWrite (dt : Nat) (tag : Byte) (params : Bytes)
  | setInputLimit (dt : Nat) (tag : Byte) (params : Bytes)
  | setChargeRequest (dt : Nat) (tag : Byte) (params : Bytes)
  | chargeRestart (dt : Nat) (tag : Byte) (params : Bytes)
  | setGauge (dt : Nat) (tag : Byte) (params : Bytes)
  | readPower (dt : Nat) (tag : Byte) (params : Bytes)
  | stallTimerExpiry (dt : Nat)
  /-- CARD_OP_COMPLETION: OK or ERROR, and for a READ that ends with OK the blocks' bytes. -/
  | cardOpCompletion (dt : Nat) (ok : Bool) (data : Bytes)
  | cardTimeout (dt : Nat)
  | cardInsertion (dt : Nat)
  | cardRemoval (dt : Nat)
  /-- POWER_UPDATE: the measurements; whether the supply change is handed on before the tier change (R169); whether
  the monitor's handling comes after the evaluation that follows this update (R143). -/
  | powerUpdate (dt : Nat) (m : Measurements) (supplyFirst monitorLast : Bool)
  | chargeEvaluation (dt : Nat)
  | safetyTimerTimeout (dt : Nat)
deriving DecidableEq, Repr

end Sys2Proof
end

