-- ==== Sys2Proof/Config.lean ====
section
/-! DEFINITION. The numbers the manual fixes for the part. None of them is a free value. -/

namespace Sys2Proof.Config

/-- A full turn in angle steps (00_scope.md 4.2). -/
def turn : Nat := 23592960
/-- Half a turn, the bound of a wrapped difference (00_scope.md 4.2). -/
def halfTurn : Nat := 11796480
/-- 65,536 steps a degree times the 1/256 pixel of a density (R24). -/
def degreeScale : Nat := 16777216
/-- Entries of the Angle History (R27). -/
def historySize : Nat := 64
/-- Lines of the Line Ring (R53). -/
def ringSize : Nat := 32
/-- Silence after which the motion status becomes LOST, in µs (R6). -/
def silence : Nat := 20000
/-- Samples of a calibration run (R16). -/
def calSamples : Nat := 1024
/-- Bytes of a block (00_scope.md Table 3). -/
def blockBytes : Nat := 512
/-- Blocks of the Segment Buffer (R72). -/
def bufferBlocks : Nat := 8192
/-- Bytes of a stored packet header (R191). -/
def headerBytes : Nat := 12
/-- Blocks of an extent (00_scope.md Table 3). -/
def extentBlocks : Nat := 16384
/-- Data positions of an extent; also its trailer's position (R91). -/
def dataPositions : Nat := 16383
/-- Clip records of the Clip Index (R92). -/
def indexSize : Nat := 512
/-- Markers of a clip record (R101). -/
def markerLimit : Nat := 16
/-- Entries of the trailer-update queue (R123). -/
def updateLimit : Nat := 16
/-- Answers of the Answer Queue (R176). -/
def answerLimit : Nat := 16
/-- Reports of the Report Queue (R177). -/
def reportLimit : Nat := 32
/-- Queue length at or below which REPORTS_LOST is issued (R178). -/
def lostMark : Nat := 16
/-- The value at which a counter stays (00_scope.md 4.4). -/
def counterMax : Nat := 4294967295
/-- Block addresses of a card, and the bound of clip numbers (R85, R97). -/
def cardBlocks : Nat := 4294967296
/-- Consecutive failures that make the card FAILED (R117). -/
def failLimit : Nat := 3
/-- Cq counts in one mAh (R158). -/
def countsPerMah : Nat := 36000
/-- Charge periods in one minute (R151). -/
def periodsPerMinute : Nat := 600
/-- Longest body of a record link packet (R189). -/
def bodyLimit : Nat := 65535
/-- Bytes of a clip packet header, and of the tag and code of a directive (R189). -/
def clipHeaderBytes : Nat := 10
/-- Tag and code (R189). -/
def directiveHeaderBytes : Nat := 2
/-- Blocks of a passthrough operation (R126). -/
def passLimit : Nat := 8
/-- Steps one command may spend on the work it starts in other blocks; never reached by a run (LOG 32). -/
def settleBound : Nat := 4096

end Sys2Proof.Config
end

