-- ==== Sys2Proof/Machine/Types.lean ====
section
/-! DEFINITION. The named values of the manual (Table 11-2 lists most of them), the entries of the eight tables, and
the records the blocks hold. Codes and encodings are in Machine/Formats.lean. -/

namespace Sys2Proof.Machine

/-! ### Named values -/

/-- Motion status (Table 1-1). -/
inductive MotionStatus where
  | absent
  | running
  | calibrating
  | lost
  | watching
deriving DecidableEq, Repr

/-- Stabilization mode: the four that may be requested; the effective mode is one of the first three (R36, R39). -/
inductive Mode where
  | off
  | steady
  | eco
  | steadyWhileRecording
deriving DecidableEq, Repr

/-- Frame state (Table 3-2). -/
inductive FrameState where
  | idle
  | discard
  | opened
  | complete
deriving DecidableEq, Repr

/-- Stream of a stored packet (Table 4-3). -/
inductive Stream where
  | pad
  | video
  | audio
  | motion
deriving DecidableEq, Repr

/-- Store state (Table 5-1). -/
inductive StoreState where
  | unmounted
  | scanning
  | ready
  | fault
deriving DecidableEq, Repr

/-- Cause of an entry to FAULT (R83). -/
inductive FaultCause where
  | cardFailed
  | cardRemoved
deriving DecidableEq, Repr

/-- Writer state (Table 5-2). -/
inductive WriterState where
  | idle
  | recording
  | stopping
  | emergency
deriving DecidableEq, Repr

/-- Clip state (Table 5-3). -/
inductive ClipState where
  | opened
  | closing
  | closed
deriving DecidableEq, Repr

/-- Close reason (Table 5-3). -/
inductive CloseReason where
  | stop
  | split
  | full
  | lockQuota
  | thermal
  | power
  | card
  | stall
  | reset
  | trigger
deriving DecidableEq, Repr

/-- Card state (Table 6-1). -/
inductive CardState where
  | absent
  | idle
  | busy
  | failed
deriving DecidableEq, Repr

/-- Card operation kind (R116). -/
inductive OpKind where
  | read
  | write
deriving DecidableEq, Repr

/-- Trigger sense (Table 7-2). -/
inductive Sense where
  | rise
  | fall
deriving DecidableEq, Repr

/-- Trigger action (Table 7-2). -/
inductive Action where
  | mark
  | lock
  | split
  | stop
  | start
deriving DecidableEq, Repr

/-- Result of a firing (R137 to R140). -/
inductive TrigResult where
  | done
  | noEffect
  | refused
deriving DecidableEq, Repr

/-- Charge state (Table 8-3). -/
inductive ChargeState where
  | noInput
  | standby
  | precharge
  | fast
  | taper
  | done
  | suspended
  | fault
deriving DecidableEq, Repr

/-- Reason of SUSPENDED or FAULT (Table 8-3). -/
inductive ChargeReason where
  | none
  | batteryCold
  | batteryHot
  | thermistor
  | dieLimit
  | prechargeTimeout
  | chargeTimeout
  | overvoltage
deriving DecidableEq, Repr

/-- Battery temperature band (Table 8-1). -/
inductive Band where
  | cold
  | cool
  | standard
  | warm
  | hot
  | invalid
deriving DecidableEq, Repr

/-- Die tier (section 9.1). -/
inductive Tier where
  | clear
  | derate
  | limit
  | cutoff
deriving DecidableEq, Repr

/-- Supply state (section 9.2). -/
inductive Supply where
  | normal
  | warn
  | emergency
deriving DecidableEq, Repr

/-- Reason of a calibration run's abort (R15, R16, R17). -/
inductive CalReason where
  | moved
  | range
  | reset
deriving DecidableEq, Repr

/-- Answer code (Table 10-2). -/
inductive AnswerCode where
  | ok
  | unknown
  | malformed
  | range
  | state
  | busy
  | full
  | protectedBlocks
  | inUse
  | inconsistent
  | notFound
  | card
deriving DecidableEq, Repr

/-! ### The entries of the eight tables (Table 10-5) -/

/-- The IMU axis a filter axis reads, and whether its sign is −1 (Table 1-2). -/
structure AxisMap where
  axis : Nat
  negative : Bool
deriving DecidableEq, Repr

/-- IMU SETUP (Table 1-2). -/
structure ImuSetup where
  odr : Nat
  fs : Nat
  yaw : AxisMap
  pitch : AxisMap
  roll : AxisMap
  identity : Nat
deriving DecidableEq, Repr

/-- One entry of LENS (Table 2-3). -/
structure LensEntry where
  ppdx : Nat
  ppdy : Nat
  lineDelay : Nat
deriving DecidableEq, Repr

/-- One entry of SMOOTHING (Table 2-2). -/
structure SmoothEntry where
  k0 : Nat
  k1 : Nat
  k2 : Nat
  k3 : Nat
deriving DecidableEq, Repr

/-- MOTION LIMITS (Table 1-3). -/
structure MotionLimits where
  shockThreshold : Nat
  shockHoldoff : Nat
  freefallThreshold : Nat
  freefallTime : Nat
  stillThreshold : Nat
  stillTime : Nat
  wakeCount : Nat
deriving DecidableEq, Repr

/-- STORE (Tables 4-4, 5-5 and 6-5). -/
structure StoreTab where
  holdMark : Nat
  releaseMark : Nat
  maxDuration : Nat
  stallTime : Nat
  quotaPercent : Nat
  reserve : Nat
  preLock : Nat
  flushLimit : Nat
  burstSize : Nat
  urgentMark : Nat
  cardTimeout : Nat
deriving DecidableEq, Repr

/-- One entry of TRIGGERS (Table 7-2). Bit i of the mask stands for condition i of Table 7-1. -/
structure TrigEntry where
  enabled : Bool
  mask : BitVec 16
  sense : Sense
  action : Action
deriving DecidableEq, Repr

/-- CHARGE (Table 8-5). -/
structure ChargeTab where
  coldCool : Int
  coolStandard : Int
  standardWarm : Int
  warmHot : Int
  currentCool : Nat
  currentStandard : Nat
  currentWarm : Nat
  voltageCool : Nat
  voltageStandard : Nat
  voltageWarm : Nat
  prechargeThreshold : Nat
  rechargeDrop : Nat
  terminationCurrent : Nat
  headroom : Nat
  step : Nat
  vinReg : Nat
  prechargeTimeout : Nat
  chargeTimeout : Nat
  capacity : Nat
  lowMark : Nat
deriving DecidableEq, Repr

/-- THERMAL & SUPPLY (Table 9-5). -/
structure ThermalTab where
  riseDerate : Int
  riseLimit : Int
  riseCutoff : Int
  fallDerate : Int
  fallLimit : Int
  fallCutoff : Int
  warnEntry : Nat
  warnExit : Nat
  emergencyEntry : Nat
  emergencyExit : Nat
deriving DecidableEq, Repr

/-- One page of each of the eight tables. -/
structure Pages where
  imu : ImuSetup
  lens : List LensEntry
  smoothing : List SmoothEntry
  limits : MotionLimits
  store : StoreTab
  triggers : List TrigEntry
  charge : ChargeTab
  thermal : ThermalTab
deriving DecidableEq, Repr

/-! ### Records of the motion and picture streams -/

/-- Three values, one for each of yaw, pitch and roll. -/
structure Axes where
  yaw : Int
  pitch : Int
  roll : Int
deriving DecidableEq, Repr

/-- A calibration run in progress (R14). -/
structure CalRun where
  count : Nat
  sums : Axes
  first : Option Axes
deriving DecidableEq, Repr

/-- The sampling last configured at the sensor (R3, R8, R17). -/
structure SensorConfig where
  rate : Nat
  fs : Nat
deriving DecidableEq, Repr

/-- One entry of the Angle History (R27). -/
structure HistoryEntry where
  time : Nat
  cYaw : Int
  cPitch : Int
deriving DecidableEq, Repr

/-- A geometry (R48); `slew` is the requested slew, as taken. -/
structure Geometry where
  wIn : Nat
  hIn : Nat
  wOut : Nat
  hOut : Nat
  nb : Nat
  slew : Nat
deriving DecidableEq, Repr

/-- A band record with the four flags of a trailer's band entry (Table 3-1, R58). -/
structure BandRec where
  decided : Bool
  dx : Int
  dy : Int
  xClamp : Bool
  yClamp : Bool
  slewClamp : Bool
  notDecided : Bool
deriving DecidableEq, Repr

/-- The frame record (Table 3-1). -/
structure FrameRec where
  number : Nat
  sensorCount : BitVec 16
  start : Nat
  mode : Mode
  lens : Nat
  exposure : Nat
  nb : Nat
  lb : Nat
  slewEff : Nat
  yaw : Nat
  pitch : Nat
  roll : Nat
  bands : List BandRec
  lines : Nat
  rows : Nat
  lastRow : Option (List Nat)
  long : Bool
deriving DecidableEq, Repr

/-- One entry of the Line Ring (R53). -/
structure RingEntry where
  line : Nat
  stamp : Nat
  pixels : List Nat
deriving DecidableEq, Repr

/-- The content of a frame trailer (R58). -/
structure Trailer where
  number : Nat
  sensorCount : BitVec 16
  start : Nat
  mode : Mode
  lens : Nat
  bands : List BandRec
  yaw : Nat
  pitch : Nat
  roll : Nat
deriving DecidableEq, Repr

/-- What leaves on the capture link: an output row, or one side packet. -/
inductive CaptureItem where
  | row (pixels : List Nat)
  | packet (bytes : Bytes)
deriving DecidableEq, Repr

/-! ### Records of the clip stream -/

/-- A block of the Segment Buffer (R72). -/
structure Block where
  clip : Nat
  data : Bytes
deriving DecidableEq, Repr

/-- The intake record of the OPEN clip (Table 4-1). -/
structure IntakeRec where
  clip : Nat
  syncMet : Bool
  lastPts : Option Nat
  dropReported : Bool
  splitMark : Bool
deriving DecidableEq, Repr

/-- The flags of a clip record (Table 5-3). -/
structure ClipFlags where
  gap : Bool
  truncated : Bool
  unfinished : Bool
  card : Bool
  continued : Bool
deriving DecidableEq, Repr

/-- A marker (R101). -/
structure Marker where
  time : Nat
  pts : Nat
  kind : Nat
deriving DecidableEq, Repr

/-- How far the writer is with a clip's last extent (R93, R94, R96, R121). -/
inductive Phase where
  /-- the clip has no extent -/
  | none
  /-- allocated; the open trailer has not completed -/
  | opening
  /-- the extent takes data writes -/
  | writing
  /-- every data position is written; the full trailer is due -/
  | fullDue
  /-- the full trailer is written or given up -/
  | full
  /-- a burst was given up; the weak trailer is due -/
  | weakDue
  /-- the weak trailer is written or given up -/
  | weak
deriving DecidableEq, Repr

/-- A clip record (Table 5-3), with the writer's place in the clip (`phase`) and whether the clip's final trailer write
has begun (R103). -/
structure Clip where
  number : Nat
  state : ClipState
  locked : Bool
  flags : ClipFlags
  start : Nat
  openTime : Option Nat
  firstPts : Option Nat
  duration : Nat
  firstExtent : Option Nat
  lastExtent : Option Nat
  extentCount : Nat
  dataBlocks : Nat
  markers : List Marker
  reason : Option CloseReason
  phase : Phase
  finalBegun : Bool
deriving DecidableEq, Repr

/-- What the Extent Map holds of an OWNED extent (R91). -/
structure Owned where
  weak : Bool
  owner : Nat
  seq : Nat
  next : Option Nat
  data : Nat
deriving DecidableEq, Repr

/-- An entry of the Extent Map (R91). -/
inductive Extent where
  | free
  | bad
  | owned (o : Owned)
deriving DecidableEq, Repr

/-- What a valid trailer says (Table 11-10). -/
structure TrailerInfo where
  clip : Nat
  seq : Nat
  prev : Option Nat
  data : Nat
  final : Bool
  locked : Bool
  flags : ClipFlags
  start : Nat
  duration : Nat
deriving DecidableEq, Repr

/-- The finding of a scan about one extent (R86, R87): its read failed twice, its trailer is invalid, or its valid
trailer. -/
inductive Finding where
  | bad
  | invalid
  | valid (t : TrailerInfo)
deriving DecidableEq, Repr

/-- A scan in progress (R86): the extent whose trailer is read next, whether its first read failed, the findings so
far (extent 0 first), and whether UNMOUNT has ended the scan while a read is in flight. -/
structure Scan where
  ext : Nat
  again : Bool
  found : List Finding
  abandoned : Bool
deriving DecidableEq, Repr

/-- A write of the writer (R119, R120). A burst keeps its bytes, so that its retry writes the same blocks (R121). `counted`
says that it was formed in EMERGENCY, so that its blocks count against E once they are confirmed (R108, R109, R122). -/
inductive WWrite where
  | openTrailer (clip ext : Nat)
  | burst (clip ext pos n : Nat) (header counted : Bool) (data : Bytes)
  | fullTrailer (clip ext : Nat)
  | weakTrailer (clip ext : Nat)
  | finalTrailer (clip ext : Nat)
deriving DecidableEq, Repr

/-- An emergency flush in progress (R108, R109). -/
structure Flush where
  limit : Nat
  reason : CloseReason
  written : Nat
  discarded : Nat
  closed : Nat
  truncated : Nat
  removed : Nat
deriving DecidableEq, Repr

/-! ### Records of the card -/

/-- The source of the operation in flight (Table 6-2). -/
inductive OpSource where
  | writer (w : WWrite)
  | update (clip : Nat)
  | scan
  | pass
deriving DecidableEq, Repr

/-- The operation in flight (chapter 6, R116). `limit` is the card timeout in µs; `data` the bytes of a WRITE. -/
structure CardOp where
  source : OpSource
  cls : Nat
  kind : OpKind
  addr : Nat
  count : Nat
  start : Nat
  limit : Nat
  data : Bytes
deriving DecidableEq, Repr

/-- An entry of the trailer-update queue (R123, R124). -/
structure Update where
  clip : Nat
  started : Bool
  failed : Bool
deriving DecidableEq, Repr

/-- How far a passthrough directive is: not started, in flight, or its answer held for room (R126, R176). -/
inductive PassState where
  | pending
  | inFlight
  | answered
deriving DecidableEq, Repr

/-- The passthrough slot's directive (R126). -/
structure Pass where
  tag : Byte
  kind : OpKind
  addr : Nat
  count : Nat
  data : Bytes
  progress : PassState
deriving DecidableEq, Repr

/-! ### Triggers, answers and reports -/

/-- One change of condition values (R132): the conditions it sets and the values it gives them. -/
structure Change where
  mask : BitVec 16
  values : BitVec 16
deriving DecidableEq, Repr

/-- An answer (R176, R190): the tag, the directive code, the answer code and the data. -/
structure Answer where
  tag : Byte
  directive : Byte
  code : AnswerCode
  data : Bytes
deriving DecidableEq, Repr

/-- The payload of a report, by kind (Table 10-3). -/
inductive Payload where
  | imuAbsent (read : Option Nat) (expected : Nat)
  | motionLost (stamp : Nat)
  | motionResumed (seq elapsed : Nat)
  | sampleGap (expected received gap : Nat)
  | calDone (bias : Axes)
  | calAborted (reason : CalReason) (count : Nat)
  | shock (axis : Nat) (value : Int)
  | freefall
  | stillBegin
  | stillEnd
  | modeChanged (effective previous requested : Mode) (frame : Nat)
  | clipOpened (clip start : Nat) (continuation : Bool)
  | clipClosed (clip : Nat) (reason : CloseReason) (flags : ClipFlags) (extents blocks duration : Nat) (removed : Bool)
  | storeLow (free locked : Nat)
  | mountDone (records free bad locked unfinished : Nat)
  | storeFault (cause : FaultCause) (left : StoreState)
  | lockRefused (clip extents locked quota : Nat)
  | bufferDrop (clip : Nat) (stream : Stream) (pts : Nat)
  | emergencyClose (reason : CloseReason) (written discarded closed truncated removed : Nat)
  | cardError (cls : Nat) (kind : OpKind) (addr count : Nat) (timeout : Bool) (fails : Nat)
  | cardFailed
  | cardInserted
  | cardRemoved
  | trigger (entry : Nat) (action : Action) (result : TrigResult) (code : AnswerCode) (clip : Nat)
      (preResult : TrigResult) (preCode : AnswerCode) (preClip : Nat)
  | chargeState (state : ChargeState) (reason : ChargeReason) (oldState : ChargeState) (oldReason : ChargeReason)
      (band : Option Band) (vbat setpoint : Nat)
  | inputChanged (present : Bool) (vin : Nat) (limit : Option Nat)
  | tier (new old : Tier) (die : Int)
  | supply (new old : Supply) (vbat : Nat)
  | reportsLost (count : Nat)
deriving DecidableEq, Repr

/-- A report in the Report Queue (section 10.3). -/
structure Report where
  time : Nat
  payload : Payload
deriving DecidableEq, Repr

end Sys2Proof.Machine
end

