-- ==== Sys2Proof/Machine/Fixed.lean ====
section
/-! DEFINITION. The fixed pages of the eight tables: the defaults each chapter lists. -/

namespace Sys2Proof.Machine

/-- Table 1-2. -/
def fixedImu : ImuSetup :=
  { odr := 1600, fs := 2000, yaw := ⟨2, false⟩, pitch := ⟨0, false⟩, roll := ⟨1, false⟩, identity := 180 }

/-- Table 2-3. -/
def fixedLens : List LensEntry :=
  [⟨6827, 6827, 120⟩, ⟨5120, 5120, 120⟩, ⟨8192, 8192, 120⟩, ⟨13653, 13653, 120⟩]

/-- Table 2-2. -/
def fixedSmoothing : List SmoothEntry :=
  [⟨9, 8, 6, 4⟩, ⟨10, 9, 7, 5⟩, ⟨8, 7, 5, 3⟩, ⟨11, 10, 8, 6⟩]

/-- Table 1-3. -/
def fixedLimits : MotionLimits :=
  { shockThreshold := 12288, shockHoldoff := 500, freefallThreshold := 614, freefallTime := 60, stillThreshold := 40,
    stillTime := 30, wakeCount := 1 }

/-- Tables 4-4, 5-5 and 6-5. -/
def fixedStore : StoreTab :=
  { holdMark := 1024, releaseMark := 2048, maxDuration := 300, stallTime := 2000, quotaPercent := 25, reserve := 4,
    preLock := 10, flushLimit := 1024, burstSize := 256, urgentMark := 4096, cardTimeout := 750 }

/-- Table 7-2: entry 0 locks at a shock; entries 1 to 7 are disabled. -/
def fixedTriggers : List TrigEntry :=
  ⟨true, 1#16, .rise, .lock⟩ :: List.replicate 7 ⟨false, 0#16, .rise, .mark⟩

/-- Table 8-5. -/
def fixedCharge : ChargeTab :=
  { coldCool := 0, coolStandard := 20, standardWarm := 90, warmHot := 120, currentCool := 500, currentStandard := 2000,
    currentWarm := 1000, voltageCool := 4200, voltageStandard := 4200, voltageWarm := 4100, prechargeThreshold := 3000,
    rechargeDrop := 100, terminationCurrent := 100, headroom := 100, step := 100, vinReg := 4400, prechargeTimeout := 30,
    chargeTimeout := 300, capacity := 1720, lowMark := 10 }

/-- Table 9-5. -/
def fixedThermal : ThermalTab :=
  { riseDerate := 170, riseLimit := 200, riseCutoff := 230, fallDerate := 160, fallLimit := 190, fallCutoff := 210,
    warnEntry := 3450, warnExit := 3500, emergencyEntry := 3300, emergencyExit := 3450 }

/-- The fixed page of every table (R179). -/
def fixedPages : Pages :=
  { imu := fixedImu, lens := fixedLens, smoothing := fixedSmoothing, limits := fixedLimits, store := fixedStore,
    triggers := fixedTriggers, charge := fixedCharge, thermal := fixedThermal }

end Sys2Proof.Machine
end

