-- ==== Sys2Proof/Machine/Blocks.lean ====
section
/-! DEFINITION. The state of each of the ten blocks (00_scope.md Table 1) and of the counters. -/

namespace Sys2Proof.Machine

/-- Motion Front-End (chapter 1). -/
structure Motion where
  setup : ImuSetup
  limits : MotionLimits
  status : MotionStatus
  expected : Option Nat
  lastRates : Axes
  lastStamp : Option Nat
  bias : Axes
  holdoffEnd : Option Nat
  freefallRun : Option Nat
  stillRun : Option Nat
  freefall : Bool
  still : Bool
  cal : Option CalRun
  watchCount : Nat
  wake : Bool
  reading : Option Nat
  checking : Bool
  sensor : Option SensorConfig
deriving DecidableEq, Repr

/-- Path Filter (chapter 2). -/
structure Filter where
  rate : Nat
  accYaw : Nat
  accPitch : Nat
  accRoll : Nat
  smoothYaw : Nat
  smoothPitch : Nat
  history : List HistoryEntry
  marginX : Nat
  marginY : Nat
  reqMode : Mode
  profile : Nat
  effMode : Mode
  smoothing : List SmoothEntry
deriving DecidableEq, Repr

/-- Frame Path (chapter 3). -/
structure Frame where
  geometry : Option Geometry
  lens : Nat
  exposure : Nat
  pendGeometry : Option Geometry
  pendLens : Option Nat
  pendExposure : Option Nat
  lensPage : List LensEntry
  state : FrameState
  record : Option FrameRec
  lastNb : Nat
  lastSlew : Nat
  ring : List RingEntry
  nextNumber : Nat
  trailer : Option Trailer
deriving DecidableEq, Repr

/-- Record Intake (chapter 4). -/
structure Intake where
  receive : Bytes
  packing : Bytes
  buffer : List Block
  bufCause : Bool
  ansCause : Bool
  hold : Bool
  record : Option IntakeRec
  stallEnd : Option Nat
deriving DecidableEq, Repr

/-- Clip Store (chapter 5). -/
structure Store where
  state : StoreState
  writer : WriterState
  tab : StoreTab
  areaStart : Nat
  count : Nat
  generation : Nat
  extents : List Extent
  free : List Nat
  index : List Clip
  nextClip : Nat
  quota : Nat
  quotaEff : Nat
  storeLow : Bool
  lockNear : Bool
  scan : Option Scan
  retry : Option WWrite
  flush : Option Flush
deriving DecidableEq, Repr

/-- Card Controller (chapter 6). `timedOut`, the model's own, is the part time at which a timeout last ended an operation,
until a late completion has come with it (R116, LOG 57). -/
structure Card where
  state : CardState
  op : Option CardOp
  updates : List Update
  slot : Option Pass
  fails : Nat
  timedOut : Option Nat
deriving DecidableEq, Repr

/-- Trigger Unit (chapter 7). `waiting` holds the changes that have reached the unit and are not yet taken (R136). -/
structure Trig where
  conds : BitVec 16
  entries : List TrigEntry
  last : List Bool
  waiting : List Change
deriving DecidableEq, Repr

/-- Charge Controller (chapter 8). -/
structure Charge where
  meas : Measurements
  vin : Bool
  band : Option Band
  state : ChargeState
  reason : ChargeReason
  setpoint : Nat
  voltage : Option Nat
  request : Nat
  ilimHost : Nat
  ilimEff : Option Nat
  preTimer : Nat
  chargeTimer : Nat
  termCount : Nat
  restarted : Bool
  cq : Nat
  known : Bool
  updates : Nat
  evalDue : Bool
  tab : ChargeTab
  charging : Bool
  lowCharge : Bool
deriving DecidableEq, Repr

/-- Thermal and Supply Monitor (chapter 9). `deferred` holds the order of the two changes while the handling of an
update waits for the evaluation of the same update (R143, LOG 11). -/
structure Thermal where
  tier : Tier
  supply : Supply
  tab : ThermalTab
  deferred : Option Bool
deriving DecidableEq, Repr

/-- Link Controller (chapter 10); `active` holds, per table number, whether the loaded page is active. -/
structure Link where
  awake : Bool
  drain : Bool
  answers : List Answer
  held : Option Answer
  reports : List Report
  lost : Nat
  loaded : Pages
  active : List Bool
  waitImu : Option ImuSetup
  waitLens : Option (List LensEntry)
  waitSmoothing : Option (List SmoothEntry)
  waitCharge : Option ChargeTab
  waitThermal : Option ThermalTab
deriving DecidableEq, Repr

/-- The nineteen counters, in the order of Table 10-6. -/
structure Counters where
  framesOut : Nat
  unconfigured : Nat
  shortFrames : Nat
  longFrames : Nat
  paddedLines : Nat
  bandClamps : Nat
  historyClamps : Nat
  ringMisses : Nat
  samplesLost : Nat
  shocks : Nat
  shocksAsleep : Nat
  packetsDiscarded : Nat
  packetsDropped : Nat
  malformed : Nat
  directivesDiscarded : Nat
  cardErrors : Nat
  cardRetries : Nat
  emergencyCloses : Nat
  reclaimedClips : Nat
deriving DecidableEq, Repr

end Sys2Proof.Machine
end

