-- ==== Sys2Proof/Machine/Cold.lean ====
section
/-! DEFINITION. The cold-start value of every block: the cold-start columns of Tables 1-4, 2-5, 3-5, 4-7, 5-7, 6-6, 7-5,
8-7 and 10-7, and R173. Values the manual does not give are marked with their log entry. -/

namespace Sys2Proof.Machine

/-- No value on any axis. -/
def Axes.zero : Axes := ⟨0, 0, 0⟩

/-- Table 1-4, R19. `lastRates` and `sensor`: DESIGN CHOICE (LOG 13). -/
def coldMotion : Motion :=
  { setup := fixedImu, limits := fixedLimits, status := .absent, expected := none, lastRates := Axes.zero,
    lastStamp := none, bias := Axes.zero, holdoffEnd := none, freefallRun := none, stillRun := none, freefall := false,
    still := false, cal := none, watchCount := 0, wake := false, reading := none, checking := false, sensor := none }

/-- Table 2-5, R42. -/
def coldFilter : Filter :=
  { rate := 1600, accYaw := 0, accPitch := 0, accRoll := 0, smoothYaw := 0, smoothPitch := 0, history := [],
    marginX := 0, marginY := 0, reqMode := .off, profile := 0, effMode := .off, smoothing := fixedSmoothing }

/-- Table 3-5, R61. -/
def coldFrame : Frame :=
  { geometry := none, lens := 0, exposure := 10000, pendGeometry := none, pendLens := none, pendExposure := none,
    lensPage := fixedLens, state := .idle, record := none, lastNb := 0, lastSlew := 0, ring := [], nextNumber := 0,
    trailer := none }

/-- Table 4-7, R81. -/
def coldIntake : Intake :=
  { receive := [], packing := [], buffer := [], bufCause := false, ansCause := false, hold := false, record := none,
    stallEnd := none }

/-- Table 5-7, R112. There is no area: its start is 0 (DESIGN CHOICE, LOG 58), and the next clip number 0 (LOG 23). -/
def coldStore : Store :=
  { state := .unmounted, writer := .idle, tab := fixedStore, areaStart := 0, count := 0, generation := 0, extents := [],
    free := [], index := [], nextClip := 0, quota := 0, quotaEff := 0, storeLow := false, lockNear := false,
    scan := none, retry := none, flush := none }

/-- Table 6-6, R114, R131: IDLE when CARD_DET shows a card, ABSENT otherwise. -/
def coldCard (cardDet : Bool) : Card :=
  { state := if cardDet then .idle else .absent, op := none, updates := [], slot := none, fails := 0,
    timedOut := none }

/-- Table 7-5, R142: STAB_OFF (condition 11) is true; every fixed-page entry then has the value false. -/
def coldTrig : Trig :=
  { conds := 0x0800#16, entries := fixedTriggers, last := List.replicate 8 false, waiting := [] }

/-- Table 8-7, R163. `meas` and `voltage`: DESIGN CHOICE (LOG 12, LOG 13). -/
def coldCharge : Charge :=
  { meas := ⟨0, 0, 0, 0, 0, 0⟩, vin := false, band := none, state := .noInput, reason := .none, setpoint := 0,
    voltage := none, request := 3000, ilimHost := 500, ilimEff := none, preTimer := 0, chargeTimer := 0, termCount := 0, restarted := false,
    cq := 0, known := false, updates := 0, evalDue := false, tab := fixedCharge, charging := false, lowCharge := false }

/-- R173. -/
def coldThermal : Thermal :=
  { tier := .clear, supply := .normal, tab := fixedThermal, deferred := none }

/-- Table 10-7, R179, R187. -/
def coldLink : Link :=
  { awake := false, drain := false, answers := [], held := none, reports := [], lost := 0, loaded := fixedPages,
    active := List.replicate 8 false, waitImu := none, waitLens := none, waitSmoothing := none, waitCharge := none,
    waitThermal := none }

/-- R184, R187: every counter is 0. -/
def zeroCounters : Counters :=
  { framesOut := 0, unconfigured := 0, shortFrames := 0, longFrames := 0, paddedLines := 0, bandClamps := 0,
    historyClamps := 0, ringMisses := 0, samplesLost := 0, shocks := 0, shocksAsleep := 0, packetsDiscarded := 0,
    packetsDropped := 0, malformed := 0, directivesDiscarded := 0, cardErrors := 0, cardRetries := 0,
    emergencyCloses := 0, reclaimedClips := 0 }

end Sys2Proof.Machine
end

