-- ==== Sys2Proof/Machine/State.lean ====
section
/-! DEFINITION. The state of the whole part, the reasons a step can stop, and the state after reset. -/

namespace Sys2Proof.Machine

/-- The part. `pending` is the queue of commands that wait, first in, first out; `powered` is false between a brown-out
and the next cold start (R171); `partTime` counts µs since cold start (00_scope.md 4.1); `captureOut` is what left on the
capture link during the last command, oldest first (LOG 20). -/
structure State where
  pending : List Instr
  powered : Bool
  partTime : Nat
  captureOut : List CaptureItem
  motion : Motion
  filter : Filter
  frame : Frame
  intake : Intake
  store : Store
  card : Card
  trig : Trig
  charge : Charge
  thermal : Thermal
  link : Link
  counters : Counters
deriving DecidableEq, Repr

/-- No event of the manual stops the part with a fault of its own: what goes wrong is an answer, a report, a counter or
a named state. Nothing raises a fault, so the type has no constructor (safe). -/
inductive Fault
deriving DecidableEq, Repr

/-- Why a command is refused. -/
inductive Refusal where
  /-- Raised by `exec` for a row that has no meaning yet, by its mnemonic; safe. No row of this model is refused. -/
  | notModelled (mnemonic : String)
deriving DecidableEq, Repr

/-- The part right after a cold start, with the commands `q` waiting and CARD_DET at the level `cardDet` (R187). -/
def State.cold (q : List Instr) (cardDet : Bool) : State :=
  { pending := q, powered := true, partTime := 0, captureOut := [], motion := coldMotion, filter := coldFilter,
    frame := coldFrame, intake := coldIntake, store := coldStore, card := coldCard cardDet, trig := coldTrig,
    charge := coldCharge, thermal := coldThermal, link := coldLink, counters := zeroCounters }

/-- The machine right after reset: a cold start with no card in the slot (R114, LOG 3). -/
def State.reset : State := State.cold [] false

/-- `s` with its motion block changed by `f`. -/
def State.mapMotion (f : Motion → Motion) (s : State) : State :=
  { s with motion := f s.motion }

/-- `s` with its filter block changed by `f`. -/
def State.mapFilter (f : Filter → Filter) (s : State) : State :=
  { s with filter := f s.filter }

/-- `s` with its frame block changed by `f`. -/
def State.mapFrame (f : Frame → Frame) (s : State) : State :=
  { s with frame := f s.frame }

/-- `s` with its intake block changed by `f`. -/
def State.mapIntake (f : Intake → Intake) (s : State) : State :=
  { s with intake := f s.intake }

/-- `s` with its store block changed by `f`. -/
def State.mapStore (f : Store → Store) (s : State) : State :=
  { s with store := f s.store }

/-- `s` with its card block changed by `f`. -/
def State.mapCard (f : Card → Card) (s : State) : State :=
  { s with card := f s.card }

/-- `s` with its trig block changed by `f`. -/
def State.mapTrig (f : Trig → Trig) (s : State) : State :=
  { s with trig := f s.trig }

/-- `s` with its charge block changed by `f`. -/
def State.mapCharge (f : Charge → Charge) (s : State) : State :=
  { s with charge := f s.charge }

/-- `s` with its thermal block changed by `f`. -/
def State.mapThermal (f : Thermal → Thermal) (s : State) : State :=
  { s with thermal := f s.thermal }

/-- `s` with its link block changed by `f`. -/
def State.mapLink (f : Link → Link) (s : State) : State :=
  { s with link := f s.link }

/-- `s` with its counters block changed by `f`. -/
def State.mapCounters (f : Counters → Counters) (s : State) : State :=
  { s with counters := f s.counters }

end Sys2Proof.Machine
end

