-- ==== Sys2Proof/Machine/Operands.lean ====
section
/-! DEFINITION. The arithmetic conventions of the manual (00_scope.md 4.2, 4.4), byte order (4.5), the readers of a
directive's parameter field, and the encoders of R188. -/

namespace Sys2Proof.Machine

/-! ### Arithmetic -/

/-- The representative of `x` modulo a turn in −11,796,480 to +11,796,479 (00_scope.md 4.2). -/
def wrap (x : Int) : Int := (x + Config.halfTurn) % Config.turn - Config.halfTurn

/-- `a / b` rounded to the nearest integer, halves away from zero (00_scope.md 4.4). -/
def roundDiv (a : Int) (b : Nat) : Int :=
  let m : Nat := (2 * a.natAbs + b) / (2 * b)
  if a < 0 then -(m : Int) else m

/-- `x` clamped to `lo`, `hi` (00_scope.md 4.4). -/
def clampInt (x lo hi : Int) : Int := if x < lo then lo else if x > hi then hi else x

/-- The signed value of a sensor count or of two bytes. -/
def signed16 (v : BitVec 16) : Int := v.toInt

/-- A counter raised by `n`: 32 bits, saturating (00_scope.md 4.4). -/
def satAdd (c n : Nat) : Nat := min (c + n) Config.counterMax

/-- Milliseconds, seconds in µs. -/
def ms (n : Nat) : Nat := n * 1000
def sec (n : Nat) : Nat := n * 1000000

/-! ### Little-endian encoding -/

/-- `v` in `n` bytes, least significant first. -/
def le : Nat → Nat → Bytes
  | 0, _ => []
  | n + 1, v => BitVec.ofNat 8 v :: le n (v / 256)

/-- A signed value in `n` bytes, two's complement. -/
def leInt (n : Nat) (v : Int) : Bytes := le n (v % (256 ^ n : Nat)).toNat

/-- The unsigned value of a little-endian byte string. -/
def fromLe : Bytes → Nat
  | [] => 0
  | b :: bs => b.toNat + 256 * fromLe bs

/-- A yes-or-no mark (R188). -/
def markByte (b : Bool) : Bytes := [if b then 1#8 else 0#8]

/-- An optional value of `n` bytes: a presence byte, then the bytes or zeros (R188). -/
def optLe (n : Nat) : Option Nat → Bytes
  | some v => 1#8 :: le n v
  | none => 0#8 :: le n 0

/-! ### Reading a parameter field (R174) -/

/-- `n` bytes at offset `i`, unsigned. -/
def uintAt (p : Bytes) (i n : Nat) : Nat := fromLe ((p.drop i).take n)

/-- One byte at offset `i`, signed. -/
def int8At (p : Bytes) (i : Nat) : Int := (BitVec.ofNat 8 (uintAt p i 1)).toInt

/-- Two bytes at offset `i`, signed. -/
def int16At (p : Bytes) (i : Nat) : Int := (BitVec.ofNat 16 (uintAt p i 2)).toInt

/-! ### Lists -/

/-- The last element of `xs` that satisfies `p`. -/
def findLast {α : Type} (p : α → Bool) (xs : List α) : Option α := xs.reverse.find? p

/-- `xs` with `x` appended, kept at `n` elements by dropping the oldest. -/
def pushRing {α : Type} (n : Nat) (xs : List α) (x : α) : List α :=
  (if n ≤ xs.length then xs.drop (xs.length + 1 - n) else xs) ++ [x]

end Sys2Proof.Machine
end

