-- ==== Sys2Proof/Machine/Flags.lean ====
section
/-! DEFINITION. The sixteen conditions of Table 7-1 as bits of a mask, and the flag sets of Table 11-3. -/

namespace Sys2Proof.Machine

/-! ### Conditions (Table 7-1): the mask with the condition's bit set -/

def condShock : BitVec 16 := 0x0001#16
def condFreefall : BitVec 16 := 0x0002#16
def condStill : BitVec 16 := 0x0004#16
def condMotionLost : BitVec 16 := 0x0008#16
def condVinPresent : BitVec 16 := 0x0010#16
def condCharging : BitVec 16 := 0x0020#16
def condSupplyWarn : BitVec 16 := 0x0040#16
def condLowCharge : BitVec 16 := 0x0080#16
def condTierDerate : BitVec 16 := 0x0100#16
def condTierLimit : BitVec 16 := 0x0200#16
def condFrameClamped : BitVec 16 := 0x0400#16
def condStabOff : BitVec 16 := 0x0800#16
def condStoreLow : BitVec 16 := 0x1000#16
def condCardError : BitVec 16 := 0x2000#16
def condLockNear : BitVec 16 := 0x4000#16
def condHoldActive : BitVec 16 := 0x8000#16

/-- The bit of a condition when `b` holds. -/
def condIf (c : BitVec 16) (b : Bool) : BitVec 16 := if b then c else 0#16

/-- A change that gives the condition `c` the value `b`. -/
def setCond (c : BitVec 16) (b : Bool) : Change := ⟨c, condIf c b⟩

/-- The condition values after a change (R132). -/
def Change.apply (c : Change) (conds : BitVec 16) : BitVec 16 := (conds &&& ~~~c.mask) ||| (c.values &&& c.mask)

/-- The value of an entry under condition values (R135). -/
def TrigEntry.value (e : TrigEntry) (conds : BitVec 16) : Bool :=
  let any := (e.mask &&& conds) != 0#16
  match e.sense with
  | .rise => any
  | .fall => !any

/-! ### Flag sets (Table 11-3), bit 0 first -/

/-- The SYNC flag of a clip packet's flags byte. -/
def isSync (flags : Byte) : Bool := flags.getLsbD 0

/-- No flag set. -/
def ClipFlags.empty : ClipFlags := ⟨false, false, false, false, false⟩

/-- GAP, TRUNCATED, UNFINISHED, CARD, CONTINUED as bits 0 to 4. -/
def ClipFlags.toByte (f : ClipFlags) : Byte :=
  (if f.gap then 1#8 else 0#8) ||| (if f.truncated then 2#8 else 0#8) ||| (if f.unfinished then 4#8 else 0#8) |||
    (if f.card then 8#8 else 0#8) ||| (if f.continued then 16#8 else 0#8)

def ClipFlags.ofByte (b : Byte) : ClipFlags :=
  ⟨b.getLsbD 0, b.getLsbD 1, b.getLsbD 2, b.getLsbD 3, b.getLsbD 4⟩

/-- x-clamp, y-clamp, slew-clamp, not-decided as bits 0 to 3. -/
def BandRec.flagByte (b : BandRec) : Byte :=
  (if b.xClamp then 1#8 else 0#8) ||| (if b.yClamp then 2#8 else 0#8) ||| (if b.slewClamp then 4#8 else 0#8) |||
    (if b.notDecided then 8#8 else 0#8)

/-- A clamp flag is set (R59). -/
def BandRec.clamped (b : BandRec) : Bool := b.xClamp || b.yClamp || b.slewClamp

end Sys2Proof.Machine
end

