-- ==== Sys2Proof/Machine/Formats.lean ====
section
/-! DEFINITION. The codes of Table 11-2, the layouts of chapter 11 and the payloads of reports (R188 to R192). -/

namespace Sys2Proof.Machine

/-! ### Codes (Table 11-2) -/

def Mode.code : Mode → Nat
  | .off => 0
  | .steady => 1
  | .eco => 2
  | .steadyWhileRecording => 3

def MotionStatus.code : MotionStatus → Nat
  | .absent => 0
  | .running => 1
  | .calibrating => 2
  | .lost => 3
  | .watching => 4

def CalReason.code : CalReason → Nat
  | .moved => 0
  | .range => 1
  | .reset => 2

def Stream.code : Stream → Nat
  | .pad => 0
  | .video => 1
  | .audio => 2
  | .motion => 3

def StoreState.code : StoreState → Nat
  | .unmounted => 0
  | .scanning => 1
  | .ready => 2
  | .fault => 3

def FaultCause.code : FaultCause → Nat
  | .cardFailed => 0
  | .cardRemoved => 1

def WriterState.code : WriterState → Nat
  | .idle => 0
  | .recording => 1
  | .stopping => 2
  | .emergency => 3

def CardState.code : CardState → Nat
  | .absent => 0
  | .idle => 1
  | .busy => 2
  | .failed => 3

def OpKind.code : OpKind → Nat
  | .read => 0
  | .write => 1

def ClipState.code : ClipState → Nat
  | .opened => 0
  | .closing => 1
  | .closed => 2

def CloseReason.code : CloseReason → Nat
  | .stop => 0
  | .split => 1
  | .full => 2
  | .lockQuota => 3
  | .thermal => 4
  | .power => 5
  | .card => 6
  | .stall => 7
  | .reset => 8
  | .trigger => 9

def Sense.code : Sense → Nat
  | .rise => 0
  | .fall => 1

def Action.code : Action → Nat
  | .mark => 0
  | .lock => 1
  | .split => 2
  | .stop => 3
  | .start => 4

def TrigResult.code : TrigResult → Nat
  | .done => 0
  | .noEffect => 1
  | .refused => 2

def ChargeState.code : ChargeState → Nat
  | .noInput => 0
  | .standby => 1
  | .precharge => 2
  | .fast => 3
  | .taper => 4
  | .done => 5
  | .suspended => 6
  | .fault => 7

def ChargeReason.code : ChargeReason → Nat
  | .none => 0
  | .batteryCold => 1
  | .batteryHot => 2
  | .thermistor => 3
  | .dieLimit => 4
  | .prechargeTimeout => 5
  | .chargeTimeout => 6
  | .overvoltage => 7

def Band.code : Band → Nat
  | .cold => 0
  | .cool => 1
  | .standard => 2
  | .warm => 3
  | .hot => 4
  | .invalid => 5

/-- The band's code, 255 when there is none. -/
def bandCode (b : Option Band) : Nat := (b.map Band.code).getD 255

def Tier.code : Tier → Nat
  | .clear => 0
  | .derate => 1
  | .limit => 2
  | .cutoff => 3

def Supply.code : Supply → Nat
  | .normal => 0
  | .warn => 1
  | .emergency => 2

def FrameState.code : FrameState → Nat
  | .idle => 0
  | .discard => 1
  | .opened => 2
  | .complete => 3

def AnswerCode.code : AnswerCode → Nat
  | .ok => 0
  | .unknown => 1
  | .malformed => 2
  | .range => 3
  | .state => 4
  | .busy => 5
  | .full => 6
  | .protectedBlocks => 7
  | .inUse => 8
  | .inconsistent => 9
  | .notFound => 10
  | .card => 11

/-! ### Side packets (R190) -/

/-- A side packet: its class, the length of its body, its body. -/
def sidePacket (cls : Nat) (body : Bytes) : Bytes := le 1 cls ++ le 2 body.length ++ body

def Answer.encode (a : Answer) : Bytes :=
  sidePacket 2 (a.tag :: a.directive :: le 1 a.code.code ++ (if a.code = .ok then a.data else []))

/-- A band entry of a trailer (Table 11-7). -/
def BandRec.encode (b : BandRec) : Bytes := leInt 2 b.dx ++ leInt 2 b.dy ++ [b.flagByte]

/-- Table 11-7: the body of a frame trailer and the payload of a MOTION stored packet. -/
def Trailer.body (t : Trailer) : Bytes :=
  le 4 t.number ++ le 2 t.sensorCount.toNat ++ le 8 t.start ++ le 1 t.mode.code ++ le 1 t.lens ++
    le 1 t.bands.length ++ t.bands.flatMap BandRec.encode ++ le 4 t.yaw ++ le 4 t.pitch ++ le 4 t.roll

def Trailer.encode (t : Trailer) : Bytes := sidePacket 1 t.body

/-- Report kind (Table 11-2). -/
def Payload.kind : Payload → Nat
  | .imuAbsent .. => 1
  | .motionLost .. => 2
  | .motionResumed .. => 3
  | .sampleGap .. => 4
  | .calDone .. => 5
  | .calAborted .. => 6
  | .shock .. => 7
  | .freefall => 8
  | .stillBegin => 9
  | .stillEnd => 10
  | .modeChanged .. => 11
  | .clipOpened .. => 12
  | .clipClosed .. => 13
  | .storeLow .. => 14
  | .mountDone .. => 15
  | .storeFault .. => 16
  | .lockRefused .. => 17
  | .bufferDrop .. => 18
  | .emergencyClose .. => 19
  | .cardError .. => 20
  | .cardFailed => 21
  | .cardInserted => 22
  | .cardRemoved => 23
  | .trigger .. => 24
  | .chargeState .. => 25
  | .inputChanged .. => 26
  | .tier .. => 27
  | .supply .. => 28
  | .reportsLost .. => 29

/-- A report's payload, in the order of its issuing rule, encoded by R188 (widths: LOG 28; IMU_ABSENT: LOG 29). -/
def Payload.body : Payload → Bytes
  | .imuAbsent r e => optLe 1 r ++ le 1 e
  | .motionLost t => le 8 t
  | .motionResumed q e => le 1 q ++ le 8 e
  | .sampleGap e r g => le 1 e ++ le 1 r ++ le 1 g
  | .calDone b => leInt 2 b.yaw ++ leInt 2 b.pitch ++ leInt 2 b.roll
  | .calAborted r n => le 1 r.code ++ le 2 n
  | .shock a v => le 1 a ++ leInt 2 v
  | .freefall => []
  | .stillBegin => []
  | .stillEnd => []
  | .modeChanged e p r n => le 1 e.code ++ le 1 p.code ++ le 1 r.code ++ le 4 n
  | .clipOpened c t k => le 4 c ++ le 8 t ++ markByte k
  | .clipClosed c r f e b d k =>
      le 4 c ++ le 1 r.code ++ [f.toByte] ++ le 2 e ++ le 4 b ++ le 8 d ++ markByte k
  | .storeLow f l => le 2 f ++ le 2 l
  | .mountDone r f b l u => le 2 r ++ le 2 f ++ le 2 b ++ le 2 l ++ le 2 u
  | .storeFault c s => le 1 c.code ++ le 1 s.code
  | .lockRefused c e l q => le 4 c ++ le 2 e ++ le 2 l ++ le 2 q
  | .bufferDrop c m t => le 4 c ++ le 1 m.code ++ le 8 t
  | .emergencyClose r w d c t k => le 1 r.code ++ le 4 w ++ le 4 d ++ le 2 c ++ le 2 t ++ le 2 k
  | .cardError c k a n t f => le 1 c ++ le 1 k.code ++ le 4 a ++ le 4 n ++ markByte t ++ le 1 f
  | .cardFailed => []
  | .cardInserted => []
  | .cardRemoved => []
  | .trigger i a r k c pr pk pc =>
      le 1 i ++ le 1 a.code ++ le 1 r.code ++ le 1 k.code ++ le 4 c ++ le 1 pr.code ++ le 1 pk.code ++ le 4 pc
  | .chargeState s r os or b v p =>
      le 1 s.code ++ le 1 r.code ++ le 1 os.code ++ le 1 or.code ++ le 1 (bandCode b) ++ le 2 v ++ le 2 p
  | .inputChanged p v l => markByte p ++ le 2 v ++ optLe 2 l
  | .tier n o d => le 1 n.code ++ le 1 o.code ++ leInt 2 d
  | .supply n o v => le 1 n.code ++ le 1 o.code ++ le 2 v
  | .reportsLost n => le 4 n

/-- R190: kind, part time of issue, payload. -/
def Report.encode (r : Report) : Bytes := sidePacket 3 (le 1 r.payload.kind ++ le 8 r.time ++ r.payload.body)

/-! ### On the card (R191, R192) -/

/-- Table 11-8. -/
def storedHeader (stream : Stream) (flags : Byte) (len pts : Nat) : Bytes :=
  le 1 stream.code ++ [flags] ++ le 2 len ++ le 8 pts

/-- `bs` filled with zeros to one block. -/
def toBlock (bs : Bytes) : Bytes := bs ++ List.replicate (Config.blockBytes - bs.length) 0#8

/-- One bit of the CRC register (R192, least significant bit first). -/
def crcBit (r : BitVec 32) : BitVec 32 := if r.getLsbD 0 then (r >>> 1) ^^^ 0xEDB88320#32 else r >>> 1

/-- One byte into the CRC register. -/
def crcByte (r : BitVec 32) (b : Byte) : BitVec 32 :=
  let x := r ^^^ b.setWidth 32
  crcBit (crcBit (crcBit (crcBit (crcBit (crcBit (crcBit (crcBit x)))))))

/-- CRC-32 of R192: the register starts at all ones and is inverted at the end. -/
def crc32 (bs : Bytes) : BitVec 32 := ~~~(bs.foldl crcByte 0xFFFFFFFF#32)

/-- The trailer magic and the header magic (Tables 11-9, 11-10). -/
def trailerMagic : Bytes := [66#8, 70#8, 52#8, 50#8]
def headerMagic : Bytes := [66#8, 70#8, 52#8, 72#8]

/-- Table 11-9: the clip header block. -/
def clipHeaderBlock (c : Clip) (generation : Nat) (g : Option Geometry) (lens : Nat) (mode : Mode) : Bytes :=
  let geo : Bytes := match g with
    | some g => le 2 g.wIn ++ le 2 g.hIn ++ le 2 g.wOut ++ le 2 g.hOut ++ le 1 g.nb ++ le 1 g.slew
    | none => List.replicate 10 0#8
  toBlock (headerMagic ++ le 4 c.number ++ le 4 generation ++ le 8 c.start ++ le 8 (c.openTime.getD 0) ++ geo ++
    le 1 lens ++ le 1 mode.code)

/-- Table 11-10, bytes 0 to 36. -/
def trailerFields (generation : Nat) (t : TrailerInfo) : Bytes :=
  trailerMagic ++ le 4 generation ++ le 4 t.clip ++ le 2 t.seq ++ le 2 (t.prev.getD 65535) ++ le 2 t.data ++
    markByte t.final ++ markByte t.locked ++ [t.flags.toByte] ++ le 8 t.start ++ le 8 t.duration

/-- Table 11-10: the extent trailer block. -/
def trailerBlock (generation : Nat) (t : TrailerInfo) : Bytes :=
  let f := trailerFields generation t
  toBlock (f ++ le 4 (crc32 f).toNat)

/-- The trailer of a block read by a scan, when it is valid for the generation and the extent count (R87, R192). -/
def parseTrailer (generation n : Nat) (b : Bytes) : Option TrailerInfo :=
  if b.length < 41 then none
  else if b.take 4 ≠ trailerMagic then none
  else if uintAt b 37 4 ≠ (crc32 (b.take 37)).toNat then none
  else if uintAt b 4 4 ≠ generation then none
  else
    let seq := uintAt b 12 2
    let prev := uintAt b 14 2
    let data := uintAt b 16 2
    if Config.dataPositions < data then none
    else if n ≤ seq then none
    else if seq = 0 && prev ≠ 65535 then none
    else if seq ≠ 0 && decide (n ≤ prev) then none
    else some
      { clip := uintAt b 8 4, seq := seq, prev := if seq = 0 then none else some prev, data := data,
        final := uintAt b 18 1 ≠ 0, locked := uintAt b 19 1 ≠ 0,
        flags := ClipFlags.ofByte (BitVec.ofNat 8 (uintAt b 20 1)), start := uintAt b 21 8, duration := uintAt b 29 8 }

/-! ### Records returned by the store's directives (R107, LOG 28) -/

/-- A summary of READ INDEX: the items that R107 lists, without the first video PTS, which R80 says READ INDEX returns (DESIGN
CHOICE, LOG 69). -/
def Clip.summary (c : Clip) : Bytes :=
  le 4 c.number ++ le 1 c.state.code ++ markByte c.locked ++ [c.flags.toByte] ++ optLe 1 (c.reason.map CloseReason.code) ++
    le 8 c.start ++ le 8 c.duration ++ le 2 c.extentCount ++ le 4 c.dataBlocks ++ le 1 c.markers.length

/-- The full record of Table 5-3, in the table's order. -/
def Clip.encode (c : Clip) : Bytes :=
  le 4 c.number ++ le 1 c.state.code ++ markByte c.locked ++ [c.flags.toByte] ++ le 8 c.start ++ optLe 8 c.openTime ++
    optLe 8 c.firstPts ++ le 8 c.duration ++ optLe 2 c.firstExtent ++ optLe 2 c.lastExtent ++ le 2 c.extentCount ++
    le 4 c.dataBlocks ++ le 1 c.markers.length ++
    c.markers.flatMap (fun m => le 8 m.time ++ le 8 m.pts ++ le 1 m.kind) ++ optLe 1 (c.reason.map CloseReason.code)

end Sys2Proof.Machine
end

