-- ==== Sys2Proof/Machine/Tables.lean ====
section
/-! DEFINITION. The Table Store's entries: their lengths (Table 11-1), their encoding and field ranges, and the
consistency tests of SELECT PAGE (R35, R40, R79, R160, R170). -/

namespace Sys2Proof.Machine

/-- Entries of a table (Table 10-5). -/
def entryCount : Nat → Nat
  | 1 => 4
  | 2 => 4
  | 5 => 8
  | _ => 1

/-- Bytes of an entry (Table 11-1). -/
def entryLength : Nat → Nat
  | 0 => 11
  | 1 => 6
  | 2 => 4
  | 3 => 13
  | 4 => 19
  | 5 => 5
  | 6 => 38
  | _ => 20

/-- `v` lies in `lo` to `hi`. -/
def within (v lo hi : Nat) : Bool := lo ≤ v && v ≤ hi

def withinInt (v lo hi : Int) : Bool := lo ≤ v && v ≤ hi

/-! ### Each table: its entry's bytes, and its entry read from bytes (none when a field is outside its range) -/

def AxisMap.encode (a : AxisMap) : Bytes := le 1 a.axis ++ leInt 1 (if a.negative then -1 else 1)

def AxisMap.parse (p : Bytes) (i : Nat) : Option AxisMap :=
  let axis := uintAt p i 1
  let sign := int8At p (i + 1)
  if within axis 0 2 && (sign == 1 || sign == -1) then some ⟨axis, sign == -1⟩ else none

def ImuSetup.encode (t : ImuSetup) : Bytes :=
  le 2 t.odr ++ le 2 t.fs ++ t.yaw.encode ++ t.pitch.encode ++ t.roll.encode ++ le 1 t.identity

def ImuSetup.parse (p : Bytes) : Option ImuSetup :=
  let odr := uintAt p 0 2
  let fs := uintAt p 2 2
  if (odr == 800 || odr == 1600 || odr == 3200) && (fs == 250 || fs == 500 || fs == 1000 || fs == 2000) then
    match AxisMap.parse p 4, AxisMap.parse p 6, AxisMap.parse p 8 with
    | some y, some q, some r => some ⟨odr, fs, y, q, r, uintAt p 10 1⟩
    | _, _, _ => none
  else none

def LensEntry.encode (t : LensEntry) : Bytes := le 2 t.ppdx ++ le 2 t.ppdy ++ le 2 t.lineDelay

def LensEntry.parse (p : Bytes) : LensEntry := ⟨uintAt p 0 2, uintAt p 2 2, uintAt p 4 2⟩

def SmoothEntry.encode (t : SmoothEntry) : Bytes := le 1 t.k0 ++ le 1 t.k1 ++ le 1 t.k2 ++ le 1 t.k3

def SmoothEntry.parse (p : Bytes) : Option SmoothEntry :=
  let t : SmoothEntry := ⟨uintAt p 0 1, uintAt p 1 1, uintAt p 2 1, uintAt p 3 1⟩
  if within t.k0 2 14 && within t.k1 2 14 && within t.k2 2 14 && within t.k3 2 14 then some t else none

def MotionLimits.encode (t : MotionLimits) : Bytes :=
  le 2 t.shockThreshold ++ le 2 t.shockHoldoff ++ le 2 t.freefallThreshold ++ le 2 t.freefallTime ++
    le 2 t.stillThreshold ++ le 2 t.stillTime ++ le 1 t.wakeCount

def MotionLimits.parse (p : Bytes) : Option MotionLimits :=
  let t : MotionLimits :=
    ⟨uintAt p 0 2, uintAt p 2 2, uintAt p 4 2, uintAt p 6 2, uintAt p 8 2, uintAt p 10 2, uintAt p 12 1⟩
  if within t.shockThreshold 1 32767 && within t.shockHoldoff 0 10000 && within t.freefallThreshold 1 32767 &&
      within t.freefallTime 10 1000 && within t.stillThreshold 1 2047 && within t.stillTime 1 600 then some t else none

def StoreTab.encode (t : StoreTab) : Bytes :=
  le 2 t.holdMark ++ le 2 t.releaseMark ++ le 2 t.maxDuration ++ le 2 t.stallTime ++ le 1 t.quotaPercent ++
    le 1 t.reserve ++ le 1 t.preLock ++ le 2 t.flushLimit ++ le 2 t.burstSize ++ le 2 t.urgentMark ++ le 2 t.cardTimeout

def StoreTab.parse (p : Bytes) : Option StoreTab :=
  let t : StoreTab :=
    ⟨uintAt p 0 2, uintAt p 2 2, uintAt p 4 2, uintAt p 6 2, uintAt p 8 1, uintAt p 9 1, uintAt p 10 1, uintAt p 11 2,
      uintAt p 13 2, uintAt p 15 2, uintAt p 17 2⟩
  if within t.holdMark 16 8191 && within t.releaseMark 17 8192 && within t.maxDuration 10 3600 &&
      within t.stallTime 250 60000 && within t.quotaPercent 0 90 && within t.reserve 1 64 && within t.preLock 0 60 &&
      within t.flushLimit 0 8192 && within t.burstSize 16 256 && within t.urgentMark 16 8192 &&
      within t.cardTimeout 250 2000 then some t else none

def Sense.ofCode : Nat → Option Sense
  | 0 => some .rise
  | 1 => some .fall
  | _ => none

def Action.ofCode : Nat → Option Action
  | 0 => some .mark
  | 1 => some .lock
  | 2 => some .split
  | 3 => some .stop
  | 4 => some .start
  | _ => none

def TrigEntry.encode (t : TrigEntry) : Bytes :=
  markByte t.enabled ++ le 2 t.mask.toNat ++ le 1 t.sense.code ++ le 1 t.action.code

def TrigEntry.parse (p : Bytes) : Option TrigEntry :=
  let enable := uintAt p 0 1
  match Sense.ofCode (uintAt p 3 1), Action.ofCode (uintAt p 4 1) with
  | some s, some a => if enable ≤ 1 then some ⟨enable == 1, BitVec.ofNat 16 (uintAt p 1 2), s, a⟩ else none
  | _, _ => none

def ChargeTab.encode (t : ChargeTab) : Bytes :=
  leInt 2 t.coldCool ++ leInt 2 t.coolStandard ++ leInt 2 t.standardWarm ++ leInt 2 t.warmHot ++ le 2 t.currentCool ++
    le 2 t.currentStandard ++ le 2 t.currentWarm ++ le 2 t.voltageCool ++ le 2 t.voltageStandard ++ le 2 t.voltageWarm ++
    le 2 t.prechargeThreshold ++ le 2 t.rechargeDrop ++ le 2 t.terminationCurrent ++ le 2 t.headroom ++ le 2 t.step ++
    le 2 t.vinReg ++ le 1 t.prechargeTimeout ++ le 2 t.chargeTimeout ++ le 2 t.capacity ++ le 1 t.lowMark

def ChargeTab.parse (p : Bytes) : Option ChargeTab :=
  let t : ChargeTab :=
    ⟨int16At p 0, int16At p 2, int16At p 4, int16At p 6, uintAt p 8 2, uintAt p 10 2, uintAt p 12 2, uintAt p 14 2,
      uintAt p 16 2, uintAt p 18 2, uintAt p 20 2, uintAt p 22 2, uintAt p 24 2, uintAt p 26 2, uintAt p 28 2,
      uintAt p 30 2, uintAt p 32 1, uintAt p 33 2, uintAt p 35 2, uintAt p 37 1⟩
  if withinInt t.coldCool (-80) 250 && withinInt t.coolStandard (-80) 250 && withinInt t.standardWarm (-80) 250 &&
      withinInt t.warmHot (-80) 250 && within t.currentCool 0 3000 && within t.currentStandard 0 3000 &&
      within t.currentWarm 0 3000 && within t.voltageCool 3900 4400 && within t.voltageStandard 3900 4400 &&
      within t.voltageWarm 3900 4400 && within t.prechargeThreshold 2800 3400 && within t.rechargeDrop 50 300 &&
      within t.terminationCurrent 25 500 && within t.headroom 0 500 && within t.step 25 1000 &&
      within t.vinReg 4200 5200 && within t.prechargeTimeout 1 120 && within t.chargeTimeout 10 1200 &&
      within t.capacity 100 10000 && within t.lowMark 0 100 then some t else none

def ThermalTab.encode (t : ThermalTab) : Bytes :=
  leInt 2 t.riseDerate ++ leInt 2 t.riseLimit ++ leInt 2 t.riseCutoff ++ leInt 2 t.fallDerate ++ leInt 2 t.fallLimit ++
    leInt 2 t.fallCutoff ++ le 2 t.warnEntry ++ le 2 t.warnExit ++ le 2 t.emergencyEntry ++ le 2 t.emergencyExit

def ThermalTab.parse (p : Bytes) : Option ThermalTab :=
  let t : ThermalTab :=
    ⟨int16At p 0, int16At p 2, int16At p 4, int16At p 6, int16At p 8, int16At p 10, uintAt p 12 2, uintAt p 14 2,
      uintAt p 16 2, uintAt p 18 2⟩
  if withinInt t.riseDerate 100 300 && withinInt t.riseLimit 100 300 && withinInt t.riseCutoff 100 300 &&
      withinInt t.fallDerate 100 300 && withinInt t.fallLimit 100 300 && withinInt t.fallCutoff 100 300 &&
      within t.warnEntry 2900 4200 && within t.warnExit 2900 4200 && within t.emergencyEntry 2900 4200 &&
      within t.emergencyExit 2900 4200 then some t else none

/-! ### Pages -/

/-- The bytes of entry `i` of table `t` as a page holds it (R181). -/
def Pages.readEntry (g : Pages) (t i : Nat) : Bytes :=
  match t with
  | 0 => g.imu.encode
  | 1 => (g.lens.getD i ⟨0, 0, 0⟩).encode
  | 2 => (g.smoothing.getD i ⟨0, 0, 0, 0⟩).encode
  | 3 => g.limits.encode
  | 4 => g.store.encode
  | 5 => (g.triggers.getD i ⟨false, 0#16, .rise, .mark⟩).encode
  | 6 => g.charge.encode
  | _ => g.thermal.encode

/-- The page with entry `i` of table `t` replaced by the entry whose bytes are `p`; none when a field is outside its
range (R180). -/
def Pages.writeEntry (g : Pages) (t i : Nat) (p : Bytes) : Option Pages :=
  match t with
  | 0 => (ImuSetup.parse p).map fun e => { g with imu := e }
  | 1 => some { g with lens := g.lens.set i (LensEntry.parse p) }
  | 2 => (SmoothEntry.parse p).map fun e => { g with smoothing := g.smoothing.set i e }
  | 3 => (MotionLimits.parse p).map fun e => { g with limits := e }
  | 4 => (StoreTab.parse p).map fun e => { g with store := e }
  | 5 => (TrigEntry.parse p).map fun e => { g with triggers := g.triggers.set i e }
  | 6 => (ChargeTab.parse p).map fun e => { g with charge := e }
  | _ => (ThermalTab.parse p).map fun e => { g with thermal := e }

/-- R35: every density is at least 256. -/
def lensConsistent (p : List LensEntry) : Bool := p.all fun e => 256 ≤ e.ppdx && 256 ≤ e.ppdy

/-- R40: no profile has a k below the next one. -/
def smoothingConsistent (p : List SmoothEntry) : Bool := p.all fun e => e.k1 ≤ e.k0 && e.k2 ≤ e.k1 && e.k3 ≤ e.k2

/-- R79. -/
def storeConsistent (t : StoreTab) : Bool := t.holdMark < t.releaseMark

/-- R160: the four boundaries are strictly ascending. -/
def chargeConsistent (t : ChargeTab) : Bool :=
  t.coldCool < t.coolStandard && t.coolStandard < t.standardWarm && t.standardWarm < t.warmHot

/-- R170. -/
def thermalConsistent (t : ThermalTab) : Bool :=
  t.fallDerate < t.riseDerate && t.fallLimit < t.riseLimit && t.fallCutoff < t.riseCutoff &&
    t.riseDerate < t.riseLimit && t.riseLimit < t.riseCutoff && t.fallDerate < t.fallLimit &&
    t.fallLimit < t.fallCutoff && t.warnEntry < t.warnExit && t.emergencyEntry < t.emergencyExit &&
    t.emergencyEntry < t.warnEntry

/-- The consistency test of table `t` (R182); IMU SETUP, MOTION LIMITS and TRIGGERS have none. -/
def Pages.consistent (g : Pages) (t : Nat) : Bool :=
  match t with
  | 1 => lensConsistent g.lens
  | 2 => smoothingConsistent g.smoothing
  | 4 => storeConsistent g.store
  | 6 => chargeConsistent g.charge
  | 7 => thermalConsistent g.thermal
  | _ => true

end Sys2Proof.Machine
end

