-- ==== Sys2Proof/Machine/Ops.lean ====
section
/-! DEFINITION. The operations every block uses: part time, the Report Queue, HOLD, and changes of condition values on their
way to the Trigger Unit. Issuing a report, answering and receiving a directive, which may send side packets, are in
Machine/Slots.lean. -/

namespace Sys2Proof.Machine

/-! ### Commands and part time -/

/-- `dt` µs pass, and the capture link's record of the last command is cleared (LOG 1, LOG 20). -/
def State.tick (dt : Nat) (s : State) : State := { s with partTime := s.partTime + dt, captureOut := [] }

/-- A command that takes effect on a powered part; a stopped part does not change (R171, LOG 35). -/
def live (dt : Nat) (f : State → State) (s : State) : Host.Outcome State Fault Refusal :=
  if s.powered then .next (f (s.tick dt)) else .next s

/-- An item leaves on the capture link. -/
def State.emit (i : CaptureItem) (s : State) : State := { s with captureOut := s.captureOut ++ [i] }

/-! ### The Report Queue (R177) -/

/-- A report joins the tail of the Report Queue, or is lost against a full queue and counted. -/
def enqueueReport (p : Payload) (s : State) : State :=
  if s.link.reports.length < Config.reportLimit then
    s.mapLink fun l => { l with reports := l.reports ++ [⟨s.partTime, p⟩] }
  else s.mapLink fun l => { l with lost := satAdd l.lost 1 }

/-! ### Changes of condition values (R132, R136) -/

/-- A change reaches the Trigger Unit and waits to be taken: behind the evaluation in progress, where there is one (R136), and
otherwise until the command's next hand-over or the end of its own effect (DESIGN CHOICE, LOG 67). -/
def notify (c : Change) (s : State) : State := s.mapTrig fun t => { t with waiting := t.waiting ++ [c] }

/-! ### HOLD (R72 to R74) -/

/-- The occupancy of the Segment Buffer: its blocks, and the packing block while it holds a byte (R72). -/
def Intake.occupancy (i : Intake) : Nat := i.buffer.length + (if i.packing.isEmpty then 0 else 1)

/-- Free blocks (R72). -/
def Intake.freeBlocks (i : Intake) : Nat := Config.bufferBlocks - i.occupancy

/-- The buffer cause of HOLD, judged (R73): set while the writer is EMERGENCY, set below the hold mark, cleared at the
release mark, kept between. -/
def bufCauseNow (s : State) : Bool :=
  if s.store.writer = .emergency then true
  else if s.intake.freeBlocks < s.store.tab.holdMark then true
  else if s.store.tab.releaseMark ≤ s.intake.freeBlocks then false
  else s.intake.bufCause

/-- The answer cause of HOLD (R74). -/
def ansCauseNow (s : State) : Bool := Config.answerLimit ≤ s.link.answers.length

/-- Both causes and the line are judged; HOLD_ACTIVE follows a change of the line (R74). -/
def judgeHold (s : State) : State :=
  let b := bufCauseNow s
  let a := ansCauseNow s
  let t := s.mapIntake fun i => { i with bufCause := b, ansCause := a, hold := b || a }
  if (b || a) = s.intake.hold then t else notify (setCond condHoldActive (b || a)) t

end Sys2Proof.Machine
end

