-- ==== Sys2Proof/Machine/Slots.lean ====
section
/-! DEFINITION. Side slots of the capture link: what a slot carries, the held answer, REPORTS_LOST, the room in which every
waiting packet leaves, and the end of the drain (R60, R176, R178, R185); and what makes a side packet: issuing a report,
answering and receiving a directive (R175 to R177). -/

namespace Sys2Proof.Machine

/-- The capture link opens slots: the link is AWAKE, or drains after SLEEP (R185). -/
def linkOpen (s : State) : Bool := s.link.awake || s.link.drain

/-- The drain ends at the first moment nothing waits (R185). -/
def endDrain (s : State) : State :=
  if s.link.drain && s.frame.trailer.isNone && s.link.answers.isEmpty && s.link.reports.isEmpty then
    s.mapLink fun l => { l with drain := false }
  else s

/-- The head of the Answer Queue has left: the held answer enters, and the passthrough slot becomes free (R176). HOLD is judged
once, after the entry: the answer cause and HOLD_ACTIVE stay set (R74; DESIGN CHOICE, LOG 59). -/
def answerRemoved (rest : List Answer) (s : State) : State :=
  match s.link.held with
  | some h =>
    judgeHold ((s.mapLink fun l => { l with answers := rest ++ [h], held := none }).mapCard fun c => { c with slot := none })
  | none => judgeHold (s.mapLink fun l => { l with answers := rest })

/-- The head of the Report Queue has left: REPORTS_LOST is issued when losses are counted and 16 reports or fewer remain
(R178). -/
def reportRemoved (rest : List Report) (s : State) : State :=
  let n := s.link.lost
  if 0 < n ∧ rest.length ≤ Config.lostMark then
    enqueueReport (.reportsLost n) (s.mapLink fun l => { l with reports := rest, lost := 0 })
  else s.mapLink fun l => { l with reports := rest }

/-- A side slot opens and carries the first thing that waits (R60). -/
def fillSlot (s : State) : State :=
  if !linkOpen s then s
  else match s.frame.trailer with
    | some t => (s.emit (.packet t.encode)).mapFrame fun f => { f with trailer := none }
    | none => match s.link.answers with
      | a :: rest => answerRemoved rest (s.emit (.packet a.encode))
      | [] => match s.link.reports with
        | r :: rest => reportRemoved rest (s.emit (.packet r.encode))
        | [] => s

/-- `n` slots, one after the other. -/
def fillSlots : Nat → State → State
  | 0, s => s
  | n + 1, s => fillSlots n (fillSlot s)

/-- Slots until nothing waits: the trailer, the answers with the one held, the reports with a REPORTS_LOST (R60). -/
def drainRoom (s : State) : State := fillSlots (s.link.answers.length + s.link.reports.length + 3) s

/-- The unlimited room is open: no frame is in progress, or no row of it has been sent (R60). -/
def roomOpen (s : State) : Bool :=
  s.frame.state ≠ .opened || s.frame.record.all fun r => r.rows = 0

/-- A packet that becomes waiting leaves at once: slots open, in the room (R60). -/
def atOnce (s : State) : Bool := linkOpen s && roomOpen s

/-- Every packet that waits in an open room leaves (R60). -/
def leaveAll (s : State) : State := if atOnce s then drainRoom s else s

/-- Every packet that waits in the room leaves (R60), and a drain ends when the last has left (R185). -/
def depart (s : State) : State := if atOnce s then endDrain (drainRoom s) else s

/-- Nothing waits in an open room, no answer is held for it and no loss is unreported. -/
def departed (s : State) : Bool :=
  !atOnce s || (s.frame.trailer.isNone && s.link.answers.isEmpty && s.link.reports.isEmpty && s.link.held.isNone &&
    s.link.lost == 0 && !s.link.drain)

/-! ### Reports (R177) -/

/-- A report is issued: in an open room it leaves at once, behind what still waits there (R60); otherwise it joins the Report
Queue, or is lost against a full one. -/
def report (p : Payload) (s : State) : State :=
  if atOnce s then (drainRoom s).emit (.packet (Report.encode ⟨s.partTime, p⟩)) else enqueueReport p s

/-! ### Answers (R175, R176) -/

/-- An answer is produced: in an open room it leaves at once, behind what still waits there (R60); otherwise it enters the
Answer Queue at its tail, and the answer cause of HOLD follows. -/
def enqueueAnswer (a : Answer) (s : State) : State :=
  if atOnce s then (drainRoom s).emit (.packet a.encode)
  else judgeHold (s.mapLink fun l => { l with answers := l.answers ++ [a] })

/-- The owner of directive `directive` answers. -/
def answer (directive : Nat) (tag : Byte) (code : AnswerCode) (data : Bytes) (s : State) : State :=
  enqueueAnswer ⟨tag, BitVec.ofNat 8 directive, code, data⟩ s

/-- The code that `f` finds is answered, and then the effect of `f` is made: a directive is answered when its owner takes it,
ahead of the reports that its effect issues (R176; DESIGN CHOICE, LOG 19). -/
def answerThen (directive : Nat) (tag : Byte) (f : State → AnswerCode × State) (s : State) : State :=
  (f (answer directive tag (f s).1 [] s)).2

/-- One more malformed packet. -/
def countMalformed (s : State) : State := s.mapCounters fun c => { c with malformed := satAdd c.malformed 1 }

/-- One more discarded directive. -/
def countDiscarded (s : State) : State :=
  s.mapCounters fun c => { c with directivesDiscarded := satAdd c.directivesDiscarded 1 }

/-- The receive store is free for the next packet (R64). -/
def clearReceive (s : State) : State := s.mapIntake fun i => { i with receive := [] }

/-- The Answer Queue is full (R175). -/
def queueFull (s : State) : Bool := Config.answerLimit ≤ s.link.answers.length

/-- A MALFORMED answer for a packet malformed by R64, judged by step 1 of R175. -/
def answerMalformedPacket (tag code : Byte) (s : State) : State :=
  if queueFull s then countDiscarded s else enqueueAnswer ⟨tag, code, .malformed, []⟩ s

/-- A directive packet of the record link on its way to its owner `f` (R64, R66, R175): nothing is received while the
link is ASLEEP; a packet whose body passes 65,535 bytes is malformed; a full Answer Queue discards the directive; a
parameter field whose length differs from the fixed `len` of Table 10-1 is answered MALFORMED. -/
def directive (code : Nat) (len : Option Nat) (tag : Byte) (params : Bytes) (f : State → State) (s : State) : State :=
  if !s.link.awake then s
  else
    let s := clearReceive s
    if Config.bodyLimit < params.length + Config.directiveHeaderBytes then
      answerMalformedPacket tag (BitVec.ofNat 8 code) (countMalformed s)
    else if queueFull s then countDiscarded s
    else if (len.map fun n => decide (n = params.length)) = some false then
      answer code tag .malformed [] (countMalformed s)
    else f s

end Sys2Proof.Machine
end

