-- ==== Sys2Proof/Machine/Steady.lean ====
section
/-! DEFINITION. The Path Filter (chapter 2): the per-sample computation, recentering, the band lookup and its clamps,
and the resolution of the stabilization mode. -/

namespace Sys2Proof.Machine

/-! ### Angles (R21) -/

/-- The rate factor K of an IMU SETUP (R2). -/
def ImuSetup.rateFactor (t : ImuSetup) : Nat := 2 * t.fs

/-- The angle an accumulator stands for under rate `r` (R21). -/
def angleOf (acc r : Nat) : Nat := acc / r

def Filter.yaw (f : Filter) : Nat := angleOf f.accYaw f.rate
def Filter.pitch (f : Filter) : Nat := angleOf f.accPitch f.rate
def Filter.roll (f : Filter) : Nat := angleOf f.accRoll f.rate

/-- The accumulator after a sample of net rate `net` (R21). -/
def accumulate (acc : Nat) (net : Int) (k r : Nat) : Nat :=
  (((acc : Int) + net * k) % ((Config.turn * r : Nat) : Int)).toNat

/-! ### Smoothing (R23, R25, R26) -/

/-- The margin quarter q of a difference `d` under the margin angle `m` (R23). -/
def marginQuarter (d : Int) (m : Nat) : Nat := if m = 0 then 3 else min 3 (4 * d.natAbs / m)

/-- Entry q of a profile. -/
def SmoothEntry.shift (e : SmoothEntry) : Nat → Nat
  | 0 => e.k0
  | 1 => e.k1
  | 2 => e.k2
  | _ => e.k3

/-- The smoothed angle after a sample (R23, R25; R26 when the mode is OFF). -/
def smoothNext (mode : Mode) (e : SmoothEntry) (theta smooth margin : Nat) : Nat :=
  if mode = .off then theta
  else
    let d := wrap ((theta : Int) - smooth)
    (((smooth : Int) + d / (2 ^ e.shift (marginQuarter d margin) : Nat)) % (Config.turn : Int)).toNat

/-- The correction (R26): zero in OFF. -/
def correctionOf (mode : Mode) (theta smooth : Nat) : Int :=
  if mode = .off then 0 else wrap ((theta : Int) - smooth)

/-- The profile in use (R25). -/
def Filter.profileEntry (f : Filter) : SmoothEntry := f.smoothing.getD f.profile ⟨0, 0, 0, 0⟩

/-- One sample taken whole (R20): angles, then smoothing and corrections, then the history entry. -/
def Filter.step (f : Filter) (k : Nat) (net : Axes) (time : Nat) : Filter :=
  let g := { f with
    accYaw := accumulate f.accYaw net.yaw k f.rate
    accPitch := accumulate f.accPitch net.pitch k f.rate
    accRoll := accumulate f.accRoll net.roll k f.rate }
  let sy := smoothNext f.effMode f.profileEntry g.yaw f.smoothYaw f.marginX
  let sp := smoothNext f.effMode f.profileEntry g.pitch f.smoothPitch f.marginY
  { g with
    smoothYaw := sy
    smoothPitch := sp
    history := pushRing Config.historySize f.history
      ⟨time, correctionOf f.effMode g.yaw sy, correctionOf f.effMode g.pitch sp⟩ }

/-- A waiting SMOOTHING selection applies from the next sample (R40). -/
def applySmoothing (s : State) : State :=
  match s.link.waitSmoothing with
  | some p => (s.mapFilter fun f => { f with smoothing := p }).mapLink fun l => { l with waitSmoothing := none }
  | none => s

/-- The Path Filter takes a sample, real or fill, of mapped rates `r` (R20): the rate used is r less the bias. -/
def filterSample (r : Axes) (time : Nat) (s : State) : State :=
  let s := applySmoothing s
  let b := s.motion.bias
  s.mapFilter fun f =>
    f.step s.motion.setup.rateFactor ⟨r.yaw - b.yaw, r.pitch - b.pitch, r.roll - b.roll⟩ time

/-- A forced recenter (R28). -/
def Filter.recentered (f : Filter) : Filter := { f with smoothYaw := f.yaw, smoothPitch := f.pitch, history := [] }

def recenterNow (s : State) : State := s.mapFilter Filter.recentered

/-- The accumulators re-expressed in a new rate (R22); the same rate leaves them. -/
def Filter.reexpressed (f : Filter) (odr : Nat) : Filter :=
  if odr = f.rate then f
  else { f with accYaw := f.yaw * odr, accPitch := f.pitch * odr, accRoll := f.roll * odr, rate := odr }

/-- The configuration transfer of an ODR and FS to the sensor, with the re-expression it calls for (R3, R8, R22). -/
def configureSensor (t : ImuSetup) (s : State) : State :=
  (s.mapMotion fun m => { m with sensor := some ⟨t.odr, t.fs⟩ }).mapFilter fun f => f.reexpressed t.odr

/-! ### Band corrections (R30 to R34) -/

/-- The entry the band lookup takes, and whether the history-clamp counter rises (R30). -/
def lookupEntry (h : List HistoryEntry) (te : Int) : Option HistoryEntry × Bool :=
  match findLast (fun e => decide ((e.time : Int) ≤ te)) h with
  | some e => (some e, false)
  | none => match h with
    | e :: _ => (some e, true)
    | [] => (none, false)

/-- The exposure centre (R30). -/
def exposureCentre (t lineDelay exposure : Nat) : Int := (t : Int) - lineDelay - (exposure / 2 : Nat)

/-- Raw pixels of a correction at a density (R31). -/
def toPixels (c : Int) (ppd : Nat) : Int := roundDiv (c * ppd) Config.degreeScale

/-- mx and my of a geometry (R48). -/
def Geometry.mx (g : Geometry) : Nat := (g.wIn - g.wOut) / 2
def Geometry.my (g : Geometry) : Nat := (g.hIn - g.hOut) / 2

/-- The decided record of a band from its raw offsets (R32, R33); `prev` is the final dy of the band before it in the
same frame, none for band 0. -/
def clampBand (g : Geometry) (slewEff : Nat) (dxRaw dyRaw : Int) (prev : Option Int) : BandRec :=
  let dx := clampInt dxRaw (-g.mx) g.mx
  let dy := clampInt dyRaw (-g.my) g.my
  let dy' := match prev with
    | some p => clampInt dy (p - slewEff) (p + slewEff)
    | none => dy
  { decided := true, dx := dx, dy := dy', xClamp := dx ≠ dxRaw, yClamp := dy ≠ dyRaw, slewClamp := dy' ≠ dy,
    notDecided := false }

/-- One more count for each axis on which the position clamp acted (R32), and for a lookup past the oldest entry (R30). -/
def countBand (b : BandRec) (historyClamp : Bool) (s : State) : State :=
  s.mapCounters fun c =>
    { c with
      bandClamps := satAdd c.bandClamps ((if b.xClamp then 1 else 0) + (if b.yClamp then 1 else 0))
      historyClamps := satAdd c.historyClamps (if historyClamp then 1 else 0) }

/-- A decided band at zero without lookup or flag (R34). -/
def BandRec.still : BandRec := ⟨true, 0, 0, false, false, false, false⟩

/-- The correction of a band whose decision line arrived at `t` (R30 to R34), with its counts. -/
def bandCorrection (g : Geometry) (r : FrameRec) (e : LensEntry) (t : Nat) (prev : Option Int) (s : State) : BandRec × State :=
  if r.mode = .off then (BandRec.still, s)
  else
    let found := lookupEntry s.filter.history (exposureCentre t e.lineDelay r.exposure)
    let cy := (found.1.map HistoryEntry.cYaw).getD 0
    let cp := (found.1.map HistoryEntry.cPitch).getD 0
    let b := clampBand g r.slewEff (toPixels cy e.ppdx) (toPixels cp e.ppdy) prev
    (b, countBand b found.2 s)

/-! ### Stabilization mode (R36) -/

/-- A clip record is OPEN. -/
def Store.openClip (st : Store) : Option Clip := st.index.find? fun c => c.state = .opened

/-- Table 2-4: the effective mode from the state of the part at a frame start. -/
def resolvedMode (s : State) : Mode :=
  if s.motion.status = .lost || s.motion.status = .absent || s.thermal.tier = .cutoff then .off
  else if s.thermal.tier = .limit then (if s.filter.reqMode = .off then .off else .eco)
  else match s.filter.reqMode with
    | .steadyWhileRecording => if s.store.openClip.isSome then .steady else .eco
    | m => m

/-- The margin angles of a geometry and a lens entry (R24). -/
def marginAngle (margin ppd : Nat) : Nat := margin * Config.degreeScale / ppd

end Sys2Proof.Machine
end

