-- ==== Sys2Proof/Machine/Index.lean ====
section
/-! DEFINITION. The Clip Index, the Extent Map and the Free List: looking up and changing records, releasing and
reclaiming, removing and closing records, and the two store conditions (R91, R92, R95, R99, R102). -/

namespace Sys2Proof.Machine

/-- The record of a number. -/
def Store.find (st : Store) (n : Nat) : Option Clip := st.index.find? fun c => c.number = n

/-- The record of number `n` changed by `f`. -/
def updateClip (n : Nat) (f : Clip → Clip) (s : State) : State :=
  s.mapStore fun st => { st with index := st.index.map fun c => if c.number = n then f c else c }

/-- An OWNED entry changed by `f`. -/
def Extent.mapOwned (f : Owned → Owned) : Extent → Extent
  | .owned o => .owned (f o)
  | e => e

/-- Extent `i` changed by `f` while it is OWNED. -/
def updateOwned (i : Nat) (f : Owned → Owned) (s : State) : State :=
  s.mapStore fun st => { st with extents := st.extents.modify i (Extent.mapOwned f) }

/-- What the Extent Map holds of extent `i` when it is OWNED. -/
def Store.owned (st : Store) (i : Nat) : Option Owned :=
  match st.extents[i]? with
  | some (.owned o) => some o
  | _ => none

/-- L: the total extent count of the locked records (R102). -/
def Store.lockedExtents (st : Store) : Nat := ((st.index.filter Clip.locked).map Clip.extentCount).sum

/-- R95. -/
def Clip.reclaimable (c : Clip) : Bool := c.state = .closed && !c.locked

/-- The oldest reclaimable clip, the one of lowest number (R95). -/
def Store.oldestReclaimable (st : Store) : Option Clip := st.index.find? Clip.reclaimable

/-- The record is OPEN or CLOSING. -/
def Clip.live (c : Clip) : Bool := c.state = .opened || c.state = .closing

/-- A block of clip `n` waits in the Segment Buffer. -/
def Intake.holds (i : Intake) (n : Nat) : Bool := i.buffer.any fun b => b.clip = n

/-! ### STORE_LOW and LOCK_NEAR -/

/-- R95. -/
def storeLowNow (s : State) : Bool :=
  s.store.state = .ready && decide (s.store.free.length < s.store.tab.reserve) && s.store.oldestReclaimable.isNone

/-- R102. -/
def lockNearNow (s : State) : Bool :=
  decide (0 < s.store.quotaEff) && decide (9 * s.store.quotaEff ≤ 10 * s.store.lockedExtents)

/-- STORE_LOW and LOCK_NEAR are judged; STORE_LOW becoming true is reported, and what changed reaches the Trigger Unit
as one change (R95, R102, R132). -/
def judgeStore (s : State) : State :=
  let low := storeLowNow s
  let near := lockNearNow s
  let dLow := low != s.store.storeLow
  let dNear := near != s.store.lockNear
  let t := s.mapStore fun st => { st with storeLow := low, lockNear := near }
  let t := if low && dLow then report (.storeLow s.store.free.length s.store.lockedExtents) t else t
  if dLow || dNear then
    notify ⟨condIf condStoreLow dLow ||| condIf condLockNear dNear, condIf condStoreLow low ||| condIf condLockNear near⟩ t
  else t

/-! ### Release and reclaim (R95) -/

/-- The extents of a chain from `i`, at most `n` of them. -/
def Store.chain (st : Store) : Nat → Option Nat → List Nat
  | 0, _ => []
  | _, none => []
  | n + 1, some i => i :: st.chain n ((st.owned i).bind Owned.next)

/-- A weak extent becomes BAD; every other extent becomes FREE and joins the Free List's tail. -/
def releaseExtent (s : State) (i : Nat) : State :=
  match s.store.owned i with
  | some o =>
    if o.weak then s.mapStore fun st => { st with extents := st.extents.set i .bad }
    else s.mapStore fun st => { st with extents := st.extents.set i .free, free := st.free ++ [i] }
  | none => s

/-- The trailer-update queue's rewrite of clip `n` is in flight. -/
def Card.rewriting (c : Card) (n : Nat) : Bool :=
  match c.op with
  | some o => o.source = .update n
  | none => false

/-- Trailer updates for clip `n` are withdrawn, but for one whose rewrite is in flight (R123). -/
def withdrawUpdates (n : Nat) (s : State) : State :=
  let flying := s.card.rewriting n
  s.mapCard fun c => { c with updates := c.updates.filter fun u => u.clip ≠ n || (u.started && flying) }

/-- The record leaves the index: its extents are released in chain order, its trailer update is withdrawn, and STORE_LOW and
LOCK_NEAR are judged (R95, R102). -/
def dropClip (c : Clip) (s : State) : State :=
  let s := (s.store.chain c.extentCount c.firstExtent).foldl releaseExtent s
  judgeStore (withdrawUpdates c.number
    (s.mapStore fun st => { st with index := st.index.filter fun d => d.number ≠ c.number }))

/-- A clip is reclaimed and counted (R95). -/
def reclaim (c : Clip) (s : State) : State :=
  (dropClip c s).mapCounters fun k => { k with reclaimedClips := satAdd k.reclaimedClips 1 }

/-- The oldest reclaimable clip is reclaimed while the Free List holds fewer than `want` extents, at most `n` times. -/
def reclaimUntil (want : Nat) : Nat → State → State
  | 0, s => s
  | n + 1, s =>
    if s.store.free.length < want then
      match s.store.oldestReclaimable with
      | some c => reclaimUntil want n (reclaim c s)
      | none => s
    else s

/-! ### Closing and removing records (R99) -/

/-- Blocks of clip `n` are discarded from the Segment Buffer (R72). -/
def discardBlocks (n : Nat) (s : State) : State :=
  s.mapIntake fun i => { i with buffer := i.buffer.filter fun b => b.clip ≠ n }

/-- The packing block is discarded (R71, R72). -/
def discardPacking (s : State) : State := s.mapIntake fun i => { i with packing := [] }

/-- The CLIP_CLOSED report of a record as it stands (R99). -/
def reportClosed (c : Clip) (removed : Bool) (s : State) : State :=
  report (.clipClosed c.number (c.reason.getD .stop) c.flags c.extentCount c.dataBlocks c.duration removed) s

/-- The flush in progress, if any, changed by `f`. -/
def countFlush (f : Flush → Flush) (s : State) : State :=
  s.mapStore fun st => { st with flush := st.flush.map f }

/-- A record without a written block is removed, with CLIP_CLOSED carrying the removed mark (R99). -/
def removeClip (n : Nat) (s : State) : State :=
  match s.store.find n with
  | some c =>
    countFlush (fun f => { f with removed := f.removed + 1 }) (dropClip c (reportClosed c true s))
  | none => s

/-- A record becomes CLOSED, with CLIP_CLOSED (R99). -/
def closeClip (n : Nat) (s : State) : State :=
  let s := updateClip n (fun c => { c with state := .closed }) s
  match s.store.find n with
  | some c => countFlush (fun f => { f with closed := f.closed + 1 }) (reportClosed c false s)
  | none => s

/-- The CLOSING records of which no block was written and none remains buffered (R99). -/
def emptyClosing (s : State) : List Nat :=
  (s.store.index.filter fun c => c.state = .closing && c.dataBlocks == 0 && !s.intake.holds c.number).map Clip.number

/-- Such records are removed at the moment this becomes so (R99). -/
def reapEmpty (s : State) : State := (emptyClosing s).foldl (fun s n => removeClip n s) s

/-- No record is OPEN or CLOSING. -/
def Store.settled (st : Store) : Bool := st.index.all fun c => !c.live

/-- When no record remains OPEN or CLOSING, a STOPPING writer becomes IDLE (R99), and so does an EMERGENCY writer, with
its EMERGENCY_CLOSE report and the buffer cause of HOLD judged afresh (R109). -/
def restWriter (s : State) : State :=
  if !s.store.settled then s
  else match s.store.writer with
    | .stopping => s.mapStore fun st => { st with writer := .idle }
    | .emergency =>
      let t := s.mapStore fun st => { st with writer := .idle, flush := none }
      judgeHold (match s.store.flush with
        | some f => report (.emergencyClose f.reason f.written f.discarded f.closed f.truncated f.removed) t
        | none => t)
    | _ => s

end Sys2Proof.Machine
end

