-- ==== Sys2Proof/Machine/Packing.lean ====
section
/-! DEFINITION. Packing into blocks, drops and duration tracking (R68 to R71, R75). -/

namespace Sys2Proof.Machine

/-- The zero fill before a stored packet header (R68, R69). -/
def zeroFill (p : Nat) : Nat :=
  if p ≠ 0 ∧ Config.blockBytes - p < Config.headerBytes then Config.blockBytes - p else 0

/-- The first `n` blocks of a byte string, and the bytes left over. -/
def splitBlocks : Nat → Bytes → List Bytes × Bytes
  | 0, b => ([], b)
  | n + 1, b =>
    let r := splitBlocks n (b.drop Config.blockBytes)
    (b.take Config.blockBytes :: r.1, r.2)

/-- Bytes laid behind the packing block's: full blocks enter the buffer, the rest is the packing block (R68). -/
def Intake.lay (i : Intake) (clip : Nat) (bytes : Bytes) : Intake :=
  let all := i.packing ++ bytes
  let r := splitBlocks (all.length / Config.blockBytes) all
  { i with buffer := i.buffer ++ r.1.map (Block.mk clip), packing := r.2 }

/-- A stored packet packed into the blocks of a clip (R68). -/
def Intake.pack (i : Intake) (clip : Nat) (stored : Bytes) : Intake :=
  i.lay clip (List.replicate (zeroFill i.packing.length) 0#8 ++ stored)

/-- The occupancy that packing `m` payload bytes would leave (R69). -/
def Intake.occupancyAfter (i : Intake) (m : Nat) : Nat :=
  let t := i.packing.length + zeroFill i.packing.length + Config.headerBytes + m
  i.buffer.length + t / Config.blockBytes + (if t % Config.blockBytes = 0 then 0 else 1)

/-- R69: the packet fits. -/
def Intake.fits (i : Intake) (m : Nat) : Bool := i.occupancyAfter m ≤ Config.bufferBlocks

/-- The intake record of the OPEN clip changed by `f`. -/
def updateIntake (f : IntakeRec → IntakeRec) (s : State) : State :=
  s.mapIntake fun i => { i with record := i.record.map f }

/-- A packet that finds no room is dropped: counted, GAP set, and BUFFER_DROP at the clip's first drop (R69). -/
def dropPacket (r : IntakeRec) (stream : Stream) (pts : Nat) (s : State) : State :=
  let s := s.mapCounters fun c => { c with packetsDropped := satAdd c.packetsDropped 1 }
  let s := updateClip r.clip (fun c => { c with flags := { c.flags with gap := true } }) s
  if r.dropReported then s
  else report (.bufferDrop r.clip stream pts) (updateIntake (fun r => { r with dropReported := true }) s)

/-- A packed video packet updates the first and last video PTS and the duration (R75), and a SYNC one meets the first
sync (R67). -/
def trackVideo (clip pts : Nat) (sync : Bool) (s : State) : State :=
  let s := updateIntake (fun r => { r with lastPts := some pts, syncMet := r.syncMet || sync }) s
  updateClip clip (fun c => { c with firstPts := some (c.firstPts.getD pts), duration := pts - c.firstPts.getD pts }) s

/-- A stored packet of the OPEN clip is packed, or dropped when it does not fit (R68, R69). -/
def packOrDrop (r : IntakeRec) (stream : Stream) (flags : Byte) (pts : Nat) (payload : Bytes) (s : State) : State :=
  if s.intake.fits payload.length then
    let s := s.mapIntake fun i => i.pack r.clip (storedHeader stream flags payload.length pts ++ payload)
    judgeHold (if stream = .video then trackVideo r.clip pts (isSync flags) s else s)
  else dropPacket r stream pts s

/-- A MOTION packet handed over by the Frame Path (R59, R70). -/
def motionPacket (t : Trailer) (s : State) : State :=
  match s.store.openClip, s.intake.record with
  | some _, some r => if r.syncMet then packOrDrop r .motion 0#8 (r.lastPts.getD 0) t.body s else s
  | _, _ => s

/-- The filling of a clip's last block (R71): a PAD packet, or zeros where no header fits. -/
def padding (p : Nat) : Bytes :=
  let r := Config.blockBytes - p
  if Config.headerBytes ≤ r then
    storedHeader .pad 0#8 (r - Config.headerBytes) 0 ++ List.replicate (r - Config.headerBytes) 0#8
  else List.replicate r 0#8

/-- A clip's last block is completed and enters the Segment Buffer (R71). -/
def completePacking (clip : Nat) (s : State) : State :=
  if s.intake.packing.isEmpty then s
  else s.mapIntake fun i =>
    { i with buffer := i.buffer ++ [⟨clip, i.packing ++ padding i.packing.length⟩], packing := [] }

end Sys2Proof.Machine
end

