-- ==== Sys2Proof/Machine/Recording.lean ====
section
/-! DEFINITION. Opening and closing clips, emergency entry, locks and the lock quota, and the store's entry to FAULT
(R84, R90, R97 to R99, R101 to R104, R108). -/

namespace Sys2Proof.Machine

/-! ### Leaving RECORDING -/

/-- The intake record and the stall timer end (R78). -/
def endIntake (s : State) : State := s.mapIntake fun i => { i with record := none, stallEnd := none }

/-- A record becomes CLOSING with a reason. -/
def setClosing (r : CloseReason) (c : Clip) : Clip := { c with state := .closing, reason := some r }

/-- The OPEN clip, if any, becomes CLOSING with `r`; its packing block is completed and its intake record ends
(R71, R84). -/
def closeOpen (r : CloseReason) (s : State) : State :=
  match s.store.openClip with
  | some c => endIntake (completePacking c.number (updateClip c.number (setClosing r) s))
  | none => endIntake s

def setWriter (w : WriterState) (s : State) : State := s.mapStore fun st => { st with writer := w }

/-- What follows a close: records without blocks are removed, a writer with nothing left rests, HOLD and the store
conditions are judged. -/
def afterClose (s : State) : State := judgeStore (judgeHold (restWriter (reapEmpty s)))

/-- A RECORDING writer goes to STOPPING and the OPEN clip to CLOSING with `r` (R99). -/
def stopRecording (r : CloseReason) (s : State) : State :=
  if s.store.writer = .recording then afterClose (setWriter .stopping (closeOpen r s)) else s

/-- Entry of the writer to EMERGENCY, when it is RECORDING or STOPPING (R108). -/
def enterEmergency (r : CloseReason) (s : State) : State :=
  if s.store.writer = .recording ∨ s.store.writer = .stopping then
    let s := s.mapCounters fun c => { c with emergencyCloses := satAdd c.emergencyCloses 1 }
    let s := setWriter .emergency (closeOpen r s)
    let s := s.mapStore fun st => { st with flush := some ⟨st.tab.flushLimit, r, 0, 0, 0, 0, 0⟩ }
    afterClose (judgeHold s)
  else s

/-! ### Opening (R97, R98) -/

/-- The opening test: whether it passes, and the state after the reclaim it may make (R97). -/
def openingTest (s : State) : Bool × State :=
  let s' := if Config.indexSize ≤ s.store.index.length then
      (match s.store.oldestReclaimable with
        | some c => reclaim c s
        | none => s)
    else s
  (decide (s'.store.index.length < Config.indexSize) && (!s'.store.free.isEmpty || s'.store.oldestReclaimable.isSome) &&
    decide (s'.store.nextClip < Config.cardBlocks), s')

/-- A new record of the next clip number (R97), and its CLIP_OPENED report. -/
def openRecord (start : Nat) (state : ClipState) (continued : Bool) (reason : Option CloseReason) (s : State) : State :=
  let c : Clip :=
    { number := s.store.nextClip, state := state, locked := false, flags := { ClipFlags.empty with continued := continued },
      start := start, openTime := some s.partTime, firstPts := none, duration := 0, firstExtent := none,
      lastExtent := none, extentCount := 0, dataBlocks := 0, markers := [], reason := reason, phase := .none,
      finalBegun := false }
  report (.clipOpened c.number start continued)
    (s.mapStore fun st => { st with index := st.index ++ [c], nextClip := st.nextClip + 1 })

/-- A fresh intake record (R67). -/
def freshIntake (clip : Nat) (s : State) : State :=
  s.mapIntake fun i => { i with record := some ⟨clip, false, none, false, false⟩ }

/-- The stall timer starts or restarts (R78). -/
def startStall (s : State) : State :=
  s.mapIntake fun i => { i with stallEnd := some (s.partTime + ms s.store.tab.stallTime) }

/-- START RECORDING's checks and effect (R98), used by the directive and by a trigger START (R139). A refusal FULL keeps the
reclaim that the opening test has made (R97, LOG 52). -/
def startRecording (start : Nat) (s : State) : AnswerCode × State :=
  if s.store.state ≠ .ready then (.state, s)
  else if s.thermal.supply = .emergency ∨ s.thermal.tier = .cutoff ∨ s.store.writer = .emergency then (.state, s)
  else if s.store.writer = .recording ∨ s.store.writer = .stopping then (.busy, s)
  else
    let t := openingTest s
    if t.1 then
      let n := t.2.store.nextClip
      (.ok, judgeStore (startStall (freshIntake n (setWriter .recording (openRecord start .opened false none t.2)))))
    else (.full, judgeStore t.2)

/-! ### Markers (R101) -/

/-- A marker of `kind` on the OPEN clip: STATE with none OPEN, FULL at 16 markers; with the clip's number. -/
def addMarker (kind : Nat) (s : State) : AnswerCode × Nat × State :=
  match s.store.openClip with
  | none => (.state, 0, s)
  | some c =>
    if Config.markerLimit ≤ c.markers.length then (.full, c.number, s)
    else
      let pts := (s.intake.record.bind IntakeRec.lastPts).getD 0
      (.ok, c.number, updateClip c.number (fun c => { c with markers := c.markers ++ [⟨s.partTime, pts, kind⟩] }) s)

/-! ### Locks (R102, R103, R123) -/

/-- A lock change of this record needs a rewrite of its last trailer (R103). -/
def Clip.needsRewrite (c : Clip) : Bool := c.state = .closed || (c.state = .closing && c.finalBegun)

/-- A waiting entry of the queue names clip `n`. -/
def Card.waits (c : Card) (n : Nat) : Bool := c.updates.any fun u => u.clip = n && !u.started

/-- The queue takes an entry for clip `n` (R123). -/
def Card.takes (c : Card) (n : Nat) : Bool := decide (c.updates.length < Config.updateLimit) || c.waits n

/-- The rewrite of clip `n` is enqueued; a waiting entry of the same clip is replaced in its place (R123). -/
def enqueueUpdate (n : Nat) (s : State) : State :=
  if s.card.waits n then s else s.mapCard fun c => { c with updates := c.updates ++ [⟨n, false, false⟩] }

/-- The lock of record `c` is set to `v`, with the rewrite it calls for (R103). -/
def setLock (c : Clip) (v : Bool) (s : State) : State :=
  let s := updateClip c.number (fun c => { c with locked := v }) s
  judgeStore (if c.needsRewrite then enqueueUpdate c.number s else s)

/-- LOCK of a record: OK, FULL with LOCK_REFUSED against the quota, or BUSY for want of room in the queue (R103). -/
def lockRecord (c : Clip) (s : State) : AnswerCode × State :=
  if c.locked then (.ok, s)
  else if s.store.quotaEff < s.store.lockedExtents + c.extentCount then
    (.full, report (.lockRefused c.number c.extentCount s.store.lockedExtents s.store.quotaEff) s)
  else if c.needsRewrite && !s.card.takes c.number then (.busy, s)
  else (.ok, setLock c true s)

/-- UNLOCK of a record (R103). -/
def unlockRecord (c : Clip) (s : State) : AnswerCode × State :=
  if !c.locked then (.ok, s)
  else if c.needsRewrite && !s.card.takes c.number then (.busy, s)
  else (.ok, setLock c false s)

/-- The record a directive's clip number names: 0 names the OPEN clip (R103). -/
def Store.named (st : Store) (n : Nat) : Option Clip := if n = 0 then st.openClip else st.find n

/-! ### FAULT (R90) -/

/-- An OPEN or CLOSING record at the store's entry to FAULT. -/
def faultClip (c : Clip) : Clip :=
  { c with state := .closed, flags := { c.flags with card := true }, reason := some (c.reason.getD .card) }

/-- One OPEN or CLOSING record meets the store's entry to FAULT: CLOSED with the CARD flag, or removed for want of a
written block. -/
def faultRecord (s : State) (n : Nat) : State :=
  let s := updateClip n faultClip s
  match s.store.find n with
  | some c => if c.dataBlocks = 0 then removeClip n s else reportClosed c false s
  | none => s

/-- The store enters FAULT, when it is SCANNING or READY (R83, R90). -/
def enterFault (cause : FaultCause) (s : State) : State :=
  if s.store.state = .scanning ∨ s.store.state = .ready then
    let left := s.store.state
    let s := s.mapStore fun st => { st with flush := none }
    let s := ((s.store.index.filter Clip.live).map Clip.number).foldl faultRecord s
    let s := endIntake (s.mapIntake fun i => { i with buffer := [], packing := [] })
    let s := s.mapStore fun st => { st with state := .fault, writer := .idle, scan := none, retry := none }
    let s := s.mapCard fun c => { c with updates := [] }
    judgeStore (judgeHold (report (.storeFault cause left) s))
  else s

end Sys2Proof.Machine
end

