-- ==== Sys2Proof/Machine/Writer.lean ====
section
/-! DEFINITION. The writer: which write is due, allocation, FULL and LOCK_QUOTA closes, the flush's cut, and what follows
each ending of a writer write (R93 to R96, R100, R106, R109, R110, R119 to R122). -/

namespace Sys2Proof.Machine

/-! ### Looking at the writer's clip -/

/-- The extents of a clip in chain order. -/
def Store.chainOf (st : Store) (c : Clip) : List Nat := st.chain c.extentCount c.firstExtent

/-- Data blocks the Extent Map counts in extent `i` (R91). -/
def Store.dataOf (st : Store) (i : Nat) : Nat := ((st.owned i).map Owned.data).getD 0

/-- The extent chained before extent `i` in a clip. -/
def Store.prevOf (st : Store) (c : Clip) (i : Nat) : Option Nat :=
  (st.chainOf c).find? fun j => (st.owned j).bind Owned.next = some i

/-- The extent holding the clip's last written block (R96). -/
def Store.lastWritten (st : Store) (c : Clip) : Option Nat := findLast (fun i => 0 < st.dataOf i) (st.chainOf c)

/-- A write of the writer is in flight. -/
def Card.writing (c : Card) : Bool :=
  match c.op with
  | some o => match o.source with
    | .writer _ => true
    | _ => false
  | none => false

/-- The clip whose block stands at the head of the Segment Buffer. -/
def headClip (s : State) : Option Clip := s.intake.buffer.head?.bind fun b => s.store.find b.clip

/-- Stream blocks the flush may still write (R109). -/
def flushLeft (s : State) : Nat := ((s.store.flush.map fun f => f.limit - f.written).getD 0)

/-- A CLOSING clip whose last buffered block has been written: its final trailer is due (R96). -/
def finalDue (s : State) : Option Clip :=
  s.store.index.find? fun c => c.state = .closing && decide (0 < c.dataBlocks) && !s.intake.holds c.number

/-- A burst of head clip `c` would be a claim (R119). -/
def burstWanted (c : Clip) (s : State) : Bool :=
  if s.store.writer = .emergency then decide (0 < flushLeft s)
  else decide (s.store.tab.urgentMark ≤ s.intake.occupancy) || decide (s.store.tab.burstSize ≤ s.intake.occupancy) ||
    c.state = .closing || s.store.writer = .stopping

/-- The writer may start a write: the store is READY, the writer is not IDLE and no write of it is in flight. -/
def writerFree (s : State) : Bool := s.store.state = .ready && s.store.writer ≠ .idle && !s.card.writing

/-! ### The due write (R119, R120) -/

/-- The burst of the head clip into extent `e`, formed from the Segment Buffer as it stands (R93, R120). -/
def formBurst (c : Clip) (e : Nat) (s : State) : Option WWrite :=
  match s.store.owned e with
  | none => none
  | some o =>
    let room := if o.weak then 0 else Config.dataPositions - o.data
    let header := o.seq = 0 && o.data == 0
    let cap := min s.store.tab.burstSize room
    let cap := if header then cap - 1 else cap
    let cap := if s.store.writer = .emergency then min cap (flushLeft s) else cap
    let blocks := (s.intake.buffer.takeWhile fun b => b.clip = c.number).take cap
    if blocks.isEmpty then none
    else
      let head := if header then
          clipHeaderBlock c s.store.generation s.frame.geometry s.frame.lens s.filter.effMode
        else []
      some (.burst c.number e o.data blocks.length header (s.store.writer = .emergency)
        (head ++ blocks.flatMap Block.data))

/-- The write a clip's last extent calls for by its phase. -/
def phaseWrite (c : Clip) (s : State) : Option WWrite :=
  match c.lastExtent with
  | none => none
  | some e => match c.phase with
    | .opening => some (.openTrailer c.number e)
    | .weakDue => some (.weakTrailer c.number e)
    | .fullDue => some (.fullTrailer c.number e)
    | .writing => formBurst c e s
    | _ => none

/-- The trailer that ends clip `c`: the weak trailer of a burst given up, while it is still to be written, comes before the
final trailer, in EMERGENCY as in any other state (R121, R122). -/
def endingWrite (c : Clip) (s : State) : Option WWrite :=
  if c.phase = .weakDue then phaseWrite c s else (s.store.lastWritten c).map (WWrite.finalTrailer c.number)

/-- The writer's due write (R119): the retry, else a trailer that ends a clip, else what the head clip's extent calls for,
else the trailer the OPEN clip's extent calls for. -/
def dueWrite (s : State) : Option WWrite :=
  if !writerFree s then none
  else match s.store.retry with
    | some w => some w
    | none => match finalDue s with
      | some c => endingWrite c s
      | none => match headClip s with
        | some c => phaseWrite c s
        | none => s.store.openClip.bind fun c => phaseWrite c s

def WWrite.isBurst : WWrite → Bool
  | .burst .. => true
  | _ => false

def WWrite.clip : WWrite → Nat
  | .openTrailer c _ => c
  | .burst c .. => c
  | .fullTrailer c _ => c
  | .weakTrailer c _ => c
  | .finalTrailer c _ => c

/-- The class of the writer's claim for its due write; none while R119 keeps the blocks waiting. -/
def writerClass (s : State) : Option Nat :=
  match dueWrite s with
  | none => none
  | some w =>
    if s.store.writer = .emergency then some 1
    else if s.store.tab.urgentMark ≤ s.intake.occupancy then some 2
    else if !w.isBurst || s.store.retry.isSome then some 6
    else if (headClip s).any fun c => burstWanted c s then some 6
    else none

/-- Stream blocks the writer's write in flight carries, and whether they count against the flush limit. -/
def Card.inFlight (c : Card) : Nat × Bool :=
  match c.op with
  | some o => match o.source with
    | .writer (.burst _ _ _ n _ counted _) => (n, counted)
    | _ => (0, false)
  | none => (0, false)

/-- The class of the claim the writer has pending beside a write of its own in flight, for the blocks behind those in
flight: 1 in EMERGENCY, 2 at the urgent mark, as Table 6-3 shows (R119, LOG 50). -/
def besideClass (s : State) : Option Nat :=
  let w := s.card.inFlight
  let more := s.store.state = .ready && decide (w.1 < s.intake.buffer.length)
  if more && s.store.writer = .emergency && decide ((if w.2 then w.1 else 0) < flushLeft s) then some 1
  else if more && (s.store.writer = .recording || s.store.writer = .stopping) &&
      decide (s.store.tab.urgentMark ≤ s.intake.occupancy) then some 2
  else none

/-! ### Closes the writer makes -/

/-- The OPEN clip, if any, closes with FULL as a clip behind: its blocks and packing block are discarded (R100). -/
def closeBehind (s : State) : State :=
  match s.store.openClip with
  | some o => endIntake (discardPacking (discardBlocks o.number (updateClip o.number (setClosing .full) s)))
  | none => s

/-- A RECORDING writer goes to STOPPING. -/
def stopWriter (s : State) : State := if s.store.writer = .recording then setWriter .stopping s else s

/-- The close of clip `c` with FULL at an allocation, and of an OPEN clip behind it (R100). -/
def fullClose (c : Clip) (s : State) : State :=
  let s := updateClip c.number (setClosing .full) (discardBlocks c.number s)
  let s := if c.state = .opened then endIntake (discardPacking s) else closeBehind s
  afterClose (stopWriter s)

/-- The unwritten blocks of clip `a` become clip `b`'s (R72). -/
def retag (a b : Nat) (s : State) : State :=
  s.mapIntake fun i => { i with buffer := i.buffer.map fun k => if k.clip = a then { k with clip := b } else k }

/-- The continuation's intake record (R72) and first video PTS (R75). -/
def continueIntake (n : Nat) (s : State) : State :=
  let last := s.intake.record.bind IntakeRec.lastPts
  let drop := (s.intake.record.map IntakeRec.dropReported).getD false
  updateClip n (fun c => { c with firstPts := last })
    (s.mapIntake fun i => { i with record := some ⟨n, true, last, drop, false⟩ })

/-- The close of a locked clip at the lock quota, and its continuation (R106). The continuation of a CLOSING clip takes the reason
that clip had before this close (DESIGN CHOICE, LOG 61). -/
def quotaClose (c : Clip) (s : State) : State :=
  let s := updateClip c.number (setClosing .lockQuota) s
  let s := if c.extentCount = 0 then removeClip c.number s else s
  let t := openingTest s
  if t.1 then
    let n := t.2.store.nextClip
    let s := retag c.number n (openRecord c.start c.state true c.reason t.2)
    afterClose (if c.state = .opened then continueIntake n s else s)
  else
    let s := updateClip c.number (fun c => { c with flags := { c.flags with truncated := true } })
      (discardBlocks c.number t.2)
    let s := if c.state = .opened then endIntake (discardPacking s) else closeBehind s
    afterClose (stopWriter s)

/-- A discard of clip `n`'s blocks cancels the retry of its failed burst; a trailer is tried once more (R121). -/
def cancelBurst (n : Nat) (s : State) : State :=
  s.mapStore fun st => { st with retry := if st.retry.any (fun w => w.isBurst && w.clip = n) then none else st.retry }

/-- A retry whose clip has left the index is withdrawn: it has no trailer to write (R118). -/
def dropOrphan (s : State) : State :=
  s.mapStore fun st => { st with retry := if st.retry.any (fun w => (st.find w.clip).isNone) then none else st.retry }

/-- The end of a flush with blocks left: the head clip takes TRUNCATED, every remaining block is discarded, and clips
left without a written block are removed (R109, R110, LOG 26). -/
def cutFlush (s : State) : State :=
  let n := s.intake.buffer.length
  match s.intake.buffer.head? with
  | none => s
  | some b =>
    let s := updateClip b.clip (fun c => { c with flags := { c.flags with truncated := true } }) s
    let s := countFlush (fun f => { f with truncated := f.truncated + 1, discarded := f.discarded + n }) s
    dropOrphan (afterClose ((cancelBurst b.clip s).mapIntake fun i => { i with buffer := [] }))

/-! ### Allocation (R94) -/

/-- The clip for which an allocation is due (R94). It waits while a write of the writer is in flight, and while a retry or a
final, full or weak trailer is still to be written (DESIGN CHOICE, LOG 70; R106 says so of a continuation's first one). -/
def allocationDue (s : State) : Option Clip :=
  if !writerFree s || s.store.retry.isSome || (finalDue s).isSome then none
  else match headClip s with
    | some c =>
      if c.live && (c.phase = .none || c.phase = .full || c.phase = .weak) && burstWanted c s then some c else none
    | none => none

/-- Extent `e`, the Free List's head, becomes clip `c`'s last extent (R94, step 2). -/
def chainExtent (c : Clip) (e : Nat) (s : State) : State :=
  let s := match c.lastExtent with
    | some p => updateOwned p (fun o => { o with next := some e }) s
    | none => s
  let s := s.mapStore fun st =>
    { st with extents := st.extents.set e (.owned ⟨false, c.number, c.extentCount, none, 0⟩), free := st.free.drop 1 }
  updateClip c.number (fun c =>
    { c with extentCount := c.extentCount + 1, firstExtent := some (c.firstExtent.getD e), lastExtent := some e,
             phase := .opening }) s

/-- The allocation due for clip `c`: the quota test, room, the chain, the reserve (R94, R95, R106, R110). STORE_LOW is judged
at each reclaim and when the extent has left the Free List (R95). The reserve check is made here, before the open trailer's write starts (DESIGN CHOICE, LOG 56). -/
def allocate (c : Clip) (s : State) : State :=
  if c.locked && decide (s.store.quotaEff < s.store.lockedExtents + 1) then
    if s.store.writer = .emergency then cutFlush s else quotaClose c s
  else
    let s := reclaimUntil 1 s.store.index.length s
    match s.store.free with
    | [] => if s.store.writer = .emergency then cutFlush s else fullClose c s
    | e :: _ =>
      let s := judgeStore (chainExtent c e s)
      reclaimUntil s.store.tab.reserve s.store.index.length s

/-! ### Endings of writer writes -/

def setPhase (n : Nat) (p : Phase) (s : State) : State := updateClip n (fun c => { c with phase := p }) s

def setCardFlag (n : Nat) (s : State) : State :=
  updateClip n (fun c => { c with flags := { c.flags with card := true } }) s

def clearRetry (s : State) : State := s.mapStore fun st => { st with retry := none }

/-- A burst has completed with OK: its stream blocks leave the buffer and are counted (R93, R96), and where the burst was
formed in EMERGENCY they count against E (R109, R122, LOG 26). -/
def burstDone (n ext blocks : Nat) (header counted : Bool) (s : State) : State :=
  let s := s.mapIntake fun i => { i with buffer := i.buffer.drop blocks }
  let s := updateOwned ext (fun o => { o with data := o.data + blocks + (if header then 1 else 0) }) s
  let s := updateClip n (fun c => { c with dataBlocks := c.dataBlocks + blocks }) s
  let s := if Config.dataPositions ≤ s.store.dataOf ext then setPhase n .fullDue s else s
  let s := if counted then countFlush (fun f => { f with written := f.written + blocks }) s else s
  judgeHold s

/-- A writer write has ended with OK (R93 to R99). -/
def writerOk (w : WWrite) (s : State) : State :=
  let s := clearRetry s
  match w with
  | .openTrailer c _ => setPhase c .writing s
  | .burst c e _ n h counted _ => burstDone c e n h counted s
  | .fullTrailer c _ => setPhase c .full s
  | .weakTrailer c _ => setPhase c .weak s
  | .finalTrailer c _ => afterClose (closeClip c s)

/-- Extent `e`, without a confirmed block, leaves the chain of clip `n` and becomes BAD; the next allocation takes its
sequence (R96, R121). -/
def leaveChain (n e : Nat) (s : State) : State :=
  match s.store.find n with
  | none => s
  | some c =>
    let prev := s.store.prevOf c e
    let s := s.mapStore fun st => { st with extents := st.extents.set e .bad }
    let s := match prev with
      | some p => updateOwned p (fun o => { o with next := none }) s
      | none => s
    let phase : Phase := match prev with
      | some p => if (s.store.owned p).any Owned.weak then .weak else .full
      | none => .none
    judgeStore (updateClip n (fun c =>
      { c with extentCount := c.extentCount - 1, lastExtent := prev, phase := phase,
               firstExtent := if prev.isSome then c.firstExtent else none }) s)

/-- A writer write that has failed twice is given up (R121, R122). -/
def giveUp (w : WWrite) (s : State) : State :=
  let s := clearRetry s
  match w with
  | .openTrailer c e => leaveChain c e s
  | .burst c e .. =>
    if s.store.dataOf e = 0 then leaveChain c e s
    else setPhase c .weakDue (updateOwned e (fun o => { o with weak := true }) s)
  | .fullTrailer c _ => setPhase c .full (setCardFlag c s)
  | .weakTrailer c _ => setPhase c .weak (setCardFlag c s)
  | .finalTrailer c _ => afterClose (closeClip c (setCardFlag c s))

/-- A writer write has ended with ERROR on a card that goes on: the first time it is due again, the second time it is
given up (R121). -/
def writerError (w : WWrite) (s : State) : State :=
  if s.store.retry.isSome then giveUp w s
  else s.mapStore fun st => { st with retry := some w }

end Sys2Proof.Machine
end

