-- ==== Sys2Proof/Machine/Scan.lean ====
section
/-! DEFINITION. Mounting, the scan and its rebuild (R85 to R89, R125). -/

namespace Sys2Proof.Machine

/-! ### The rebuild (R87, R88) -/

/-- An extent with the valid trailer found in it. -/
abbrev Candidate := Nat × TrailerInfo

/-- The findings with their extents, from extent `i` on, whose trailer is valid. -/
def validFrom : Nat → List Finding → List Candidate
  | _, [] => []
  | i, .valid t :: fs => (i, t) :: validFrom (i + 1) fs
  | i, _ :: fs => validFrom (i + 1) fs

/-- The candidate of a clip and sequence, when no second one names the same (R87, step 1). -/
def soleCandidate (cs : List Candidate) (clip seq : Nat) : Option Candidate :=
  match cs.filter fun k => k.2.clip = clip && k.2.seq = seq with
  | [k] => some k
  | _ => none

/-- The kept chain of a clip from sequence `seq` on, `prev` being the kept extent before it (R87, step 2). -/
def keptChain (cs : List Candidate) (clip : Nat) : Nat → Nat → Option Nat → List Candidate
  | 0, _, _ => []
  | n + 1, seq, prev =>
    match soleCandidate cs clip seq with
    | none => []
    | some k =>
      if seq = 0 ∨ k.2.prev = prev then
        k :: (if k.2.final then [] else keptChain cs clip n (seq + 1) (some k.1))
      else []

/-- `n` put in its place in an ascending list without duplicates. -/
def insertAscending (n : Nat) : List Nat → List Nat
  | [] => [n]
  | m :: ms => if n < m then n :: m :: ms else if n = m then m :: ms else m :: insertAscending n ms

/-- The clip numbers of the candidates, ascending. -/
def clipNumbers (cs : List Candidate) : List Nat := cs.foldr (fun k l => insertAscending k.2.clip l) []

/-- The Extent Map entries of a kept chain (R87): next, and the weak mark of a short extent with a further kept one. -/
def chainEntries : List Candidate → List (Nat × Owned)
  | [] => []
  | [k] => [(k.1, ⟨false, k.2.clip, k.2.seq, none, k.2.data⟩)]
  | k :: l :: ks =>
    (k.1, ⟨decide (k.2.data < Config.dataPositions), k.2.clip, k.2.seq, some l.1, k.2.data⟩) :: chainEntries (l :: ks)

/-- The record of a kept chain (R88). -/
def rebuiltClip (chain : List Candidate) : Option Clip :=
  match chain, chain.getLast? with
  | first :: _, some last =>
    let final := chain.any fun k => k.2.final
    some
      { number := last.2.clip, state := .closed, locked := last.2.locked,
        flags := { last.2.flags with unfinished := last.2.flags.unfinished || !final }, start := last.2.start,
        openTime := none, firstPts := none, duration := last.2.duration, firstExtent := some first.1,
        lastExtent := some last.1, extentCount := chain.length,
        dataBlocks := (chain.map fun k => k.2.data).sum - 1, markers := [], reason := none, phase := .none,
        finalBegun := false }
  | _, _ => none

/-- The Extent Map after a scan, from extent `i` on. -/
def rebuiltExtents (owned : List (Nat × Owned)) : Nat → List Finding → List Extent
  | _, [] => []
  | i, f :: fs =>
    (if f = .bad then .bad
     else match owned.find? fun k => k.1 = i with
       | some k => .owned k.2
       | none => .free) :: rebuiltExtents owned (i + 1) fs

/-- The indices of the FREE extents, ascending from `i`. -/
def freeFrom : Nat → List Extent → List Nat
  | _, [] => []
  | i, .free :: es => i :: freeFrom (i + 1) es
  | i, _ :: es => freeFrom (i + 1) es

/-- The BAD extents of the map. -/
def Store.badCount (st : Store) : Nat := st.extents.countP fun e => e = .bad

/-- The store rebuilt from the findings (R87, R88), READY, with its MOUNT_DONE report. -/
def rebuild (found : List Finding) (s : State) : State :=
  let valid := validFrom 0 found
  let cands := valid.filter fun k => 0 < k.2.data
  let chains := ((clipNumbers cands).map fun n => keptChain cands n found.length 0 none).filter fun c => !c.isEmpty
  let kept := chains.drop (chains.length - Config.indexSize)
  let extents := rebuiltExtents (kept.flatMap chainEntries) 0 found
  let index := kept.filterMap rebuiltClip
  let top := (valid.map fun k => k.2.clip).foldl max 0
  let s := s.mapStore fun st =>
    { st with state := .ready, extents := extents, free := freeFrom 0 extents, index := index, nextClip := top + 1,
              scan := none }
  let s := s.mapStore fun st => { st with quotaEff := max st.quota st.lockedExtents }
  judgeStore (report (.mountDone index.length s.store.free.length s.store.badCount s.store.lockedExtents
    (index.countP fun c => c.flags.unfinished)) s)

/-! ### The scan's reads (R86, R125) -/

/-- The store becomes UNMOUNTED: the map, the list and the index are empty, N, the generation, Q and Q_eff are 0 (R89). -/
def toUnmounted (s : State) : State :=
  judgeStore (s.mapStore fun st =>
    { st with state := .unmounted, count := 0, generation := 0, extents := [], free := [], index := [], quota := 0,
              quotaEff := 0, scan := none })

/-- A read of the scan has ended with a finding: the next extent, or the rebuild after the last (R86). -/
def scanFound (f : Finding) (s : State) : State :=
  match s.store.scan with
  | none => s
  | some k =>
    let found := k.found ++ [f]
    if s.store.count ≤ k.ext + 1 then rebuild found s
    else s.mapStore fun st => { st with scan := some ⟨k.ext + 1, false, found, false⟩ }

/-- A scan read has ended with OK (R87). -/
def scanOk (data : Bytes) (s : State) : State :=
  match s.store.scan with
  | none => s
  | some k =>
    if k.abandoned then toUnmounted s
    else scanFound (match parseTrailer s.store.generation s.store.count data with
      | some t => .valid t
      | none => .invalid) s

/-- A scan read has ended with ERROR on a card that goes on (R86, R125). -/
def scanError (s : State) : State :=
  match s.store.scan with
  | none => s
  | some k =>
    if k.abandoned then toUnmounted s
    else if k.again then scanFound .bad s
    else s.mapStore fun st => { st with scan := some { k with again := true } }

end Sys2Proof.Machine
end

