-- ==== Sys2Proof/Machine/Claims.lean ====
section
/-! DEFINITION. The Card Controller's claims and the start of operations, the protection check, passthrough answers, and
one step of the work the store and the card still have to do (R116, R118 to R120, R124 to R128, R176). -/

namespace Sys2Proof.Machine

/-! ### Addresses (R91) -/

/-- The first card block of extent `e`. -/
def Store.extentBase (st : Store) (e : Nat) : Nat := st.areaStart + e * Config.extentBlocks

/-- The card block of extent `e`'s trailer. -/
def Store.trailerAddress (st : Store) (e : Nat) : Nat := st.extentBase e + Config.dataPositions

/-! ### Pending claims (R118) -/

/-- A rewrite of the trailer-update queue is in flight. -/
def Card.updating (c : Card) : Bool :=
  match c.op with
  | some o => match o.source with
    | .update _ => true
    | _ => false
  | none => false

/-- A read of the scan is in flight. -/
def Card.scanning (c : Card) : Bool :=
  match c.op with
  | some o => o.source = .scan
  | none => false

/-- An entry of the queue waits for the card (R124): any entry but the one whose rewrite is in flight. -/
def updateClaim (s : State) : Bool := decide ((if s.card.updating then 1 else 0) < s.card.updates.length)

/-- The scan's next read waits for the card (R125). -/
def scanClaim (s : State) : Bool := (s.store.scan.any fun k => !k.abandoned) && !s.card.scanning

/-- A passthrough directive waits for the card (R126). -/
def passClaim (s : State) : Bool := s.card.slot.any fun p => p.progress = .pending

/-- The classes of the claims pending, the writer's being `w` (Table 6-2): each class once, highest first (DESIGN CHOICE,
LOG 72). -/
def claimList (w : Option Nat) (s : State) : List Nat :=
  (if w = some 1 then [1] else []) ++ (if w = some 2 then [2] else []) ++ (if updateClaim s then [3] else []) ++
    (if scanClaim s then [4] else []) ++ (if passClaim s then [5] else []) ++ (if w = some 6 then [6] else [])

/-- The classes of the claims of which the card takes the first when it is IDLE. -/
def claimClasses (s : State) : List Nat := claimList (writerClass s) s

/-- The classes of the claims pending, as READ STATUS returns them: beside a write of the writer in flight, its claim for
what comes behind it (R119, R130, Table 6-3). -/
def pendingClasses (s : State) : List Nat := claimList (if s.card.writing then besideClass s else writerClass s) s

/-! ### Starting an operation (R116) -/

/-- An operation starts: the card is BUSY, the start time is recorded and the card timeout in force runs. -/
def startOp (source : OpSource) (cls : Nat) (kind : OpKind) (addr count : Nat) (data : Bytes) (s : State) : State :=
  s.mapCard fun c =>
    { c with state := .busy, op := some ⟨source, cls, kind, addr, count, s.partTime, ms s.store.tab.cardTimeout, data⟩ }

/-- A retry that starts is counted (R121, R124, R125, R130, LOG 38). -/
def countRetry (again : Bool) (s : State) : State :=
  if again then s.mapCounters fun c => { c with cardRetries := satAdd c.cardRetries 1 } else s

/-- The trailer of extent `e` of clip `c`, formed from the record (Table 5-4). -/
def Store.trailerOf (st : Store) (c : Clip) (e data : Nat) (final : Bool) : TrailerInfo :=
  { clip := c.number, seq := ((st.owned e).map Owned.seq).getD 0, prev := st.prevOf c e, data := data, final := final,
    locked := c.locked, flags := c.flags, start := c.start, duration := c.duration }

/-- A writer trailer write starts: one block into the extent's trailer position (R120). -/
def startTrailer (w : WWrite) (cls n e data : Nat) (final : Bool) (s : State) : State :=
  match s.store.find n with
  | none => clearRetry s
  | some c =>
    startOp (.writer w) cls .write (s.store.trailerAddress e) 1
      (trailerBlock s.store.generation (s.store.trailerOf c e data final)) s

/-- The writer's due write starts (R120); a final trailer's beginning is remembered (R103). -/
def startWriter (cls : Nat) (w : WWrite) (s : State) : State :=
  let s := countRetry s.store.retry.isSome s
  match w with
  | .openTrailer n e => startTrailer w cls n e 0 false s
  | .fullTrailer n e => startTrailer w cls n e (s.store.dataOf e) false s
  | .weakTrailer n e => startTrailer w cls n e (s.store.dataOf e) false s
  | .finalTrailer n e =>
    startTrailer w cls n e (s.store.dataOf e) true (updateClip n (fun c => { c with finalBegun := true }) s)
  | .burst _ e pos blocks header _ data =>
    startOp (.writer w) cls .write (s.store.extentBase e + pos)
      (blocks + (if header then 1 else 0)) data s

/-- The head entry leaves the trailer-update queue. -/
def popUpdate (s : State) : State := s.mapCard fun c => { c with updates := c.updates.drop 1 }

/-- The head entry's rewrite starts, formed from the record (R124). -/
def startUpdate (s : State) : State :=
  match s.card.updates with
  | [] => s
  | u :: us => match s.store.find u.clip with
    | none => popUpdate s
    | some c => match c.lastExtent with
      | none => popUpdate s
      | some e =>
        startOp (.update u.clip) 3 .write (s.store.trailerAddress e) 1
          (trailerBlock s.store.generation (s.store.trailerOf c e (s.store.dataOf e) (!c.flags.unfinished)))
          (countRetry u.failed (s.mapCard fun k => { k with updates := { u with started := true } :: us }))

/-- The scan's next trailer read starts (R86, R125). -/
def startScan (s : State) : State :=
  match s.store.scan with
  | none => s
  | some k => startOp .scan 4 .read (s.store.trailerAddress k.ext) 1 [] (countRetry k.again s)

/-! ### Passthrough (R126 to R128, R176) -/

/-- The slot's directive is answered: the answer enters the Answer Queue and the slot becomes free, or the answer is held
while the queue is full. -/
def passAnswer (code : AnswerCode) (data : Bytes) (s : State) : State :=
  match s.card.slot with
  | none => s
  | some p =>
    let a : Answer := ⟨p.tag, BitVec.ofNat 8 (if p.kind = .read then 74 else 75), code, data⟩
    if queueFull s then
      (s.mapLink fun l => { l with held := some a }).mapCard fun c => { c with slot := some { p with progress := .answered } }
    else enqueueAnswer a (s.mapCard fun c => { c with slot := none })

/-- The slot's directive, in flight or pending, is answered CARD (R115, R117). -/
def failPass (s : State) : State :=
  if s.card.slot.any fun p => p.progress ≠ .answered then passAnswer .card [] s else s

/-- The passthrough operation in flight has ended; a directive that a link reset withdrew gets no answer (R128). -/
def endPass (code : AnswerCode) (data : Bytes) (s : State) : State :=
  if s.card.slot.any fun p => p.progress = .inFlight then passAnswer code data s else s

/-- Card block `b` is protected (R127). -/
def protectedBlock (s : State) (b : Nat) : Bool :=
  s.store.state ≠ .unmounted && decide (s.store.areaStart ≤ b) &&
    decide (b < s.store.areaStart + s.store.count * Config.extentBlocks) &&
    (s.store.state = .scanning ||
      match s.store.owned ((b - s.store.areaStart) / Config.extentBlocks) with
      | some o => (s.store.find o.owner).any fun c => c.live || c.locked
      | none => false)

/-- The slot's directive gets the card: its operation starts, or a CARD WRITE to a protected block is answered PROTECTED
(R126, R127). -/
def startPass (s : State) : State :=
  match s.card.slot with
  | none => s
  | some p =>
    if p.kind = .write && ((List.range p.count).any fun i => protectedBlock s (p.addr + i)) then
      passAnswer .protectedBlocks [] s
    else
      startOp .pass 5 p.kind p.addr p.count p.data
        (s.mapCard fun c => { c with slot := some { p with progress := .inFlight } })

/-- The operation of the highest pending claim starts (R118). -/
def startClaim (s : State) : State :=
  match claimClasses s with
  | [] => s
  | 3 :: _ => startUpdate s
  | 4 :: _ => startScan s
  | 5 :: _ => startPass s
  | cls :: _ => match dueWrite s with
    | some w => startWriter cls w s
    | none => s

/-! ### What the store and the card still have to do -/

/-- A CLOSING record without blocks, or a writer with nothing left, waits to be settled (R99). -/
def closeWork (s : State) : Bool :=
  !(emptyClosing s).isEmpty ||
    (s.store.settled && (decide (s.store.writer = .stopping) || decide (s.store.writer = .emergency)))

/-- The flush has reached its limit with blocks left (R109). -/
def flushSpent (s : State) : Bool :=
  decide (s.store.writer = .emergency) && !s.card.writing && !s.intake.buffer.isEmpty && decide (flushLeft s = 0)

/-- One step of the work that is due in the store and at the card, none when there is nothing to do: settle closes, cut
the flush, allocate, take a claim. -/
def pumpStep (s : State) : Option State :=
  if closeWork s then some (afterClose s)
  else if flushSpent s then some (cutFlush s)
  else match allocationDue s with
    | some c => some (allocate c s)
    | none => if s.card.state = .idle ∧ claimClasses s ≠ [] then some (startClaim s) else none

end Sys2Proof.Machine
end

