-- ==== Sys2Proof/Machine/Trigger.lean ====
section
/-! DEFINITION. The Trigger Unit (chapter 7): taking a change, the five actions, re-priming; and `settle`, which takes the
waiting changes and does the store's and the card's due work until nothing is left. -/

namespace Sys2Proof.Machine

/-! ### Outcomes -/

/-- The outcome of an action or of a part of one, as a TRIGGER report carries it (R140, LOG 39). -/
structure Outcome where
  result : TrigResult
  code : AnswerCode
  clip : Nat
deriving DecidableEq, Repr

/-- No effect, naming the clip found, 0 when none. -/
def noEffect (clip : Nat) : Outcome := ⟨.noEffect, .ok, clip⟩

/-- The outcome of an effect whose check gave `code`. -/
def outcomeOf (code : AnswerCode) (clip : Nat) : Outcome := ⟨if code = .ok then .done else .refused, code, clip⟩

/-! ### Actions (R137 to R139) -/

/-- MARK (R137). -/
def actMark (entry : Nat) (s : State) : Outcome × State :=
  match s.store.openClip with
  | none => (noEffect 0, s)
  | some c =>
    let r := addMarker (entry + 1) s
    (outcomeOf r.1 c.number, r.2.2)

/-- SPLIT (R137). -/
def actSplit (s : State) : Outcome × State :=
  match s.intake.record with
  | none => (noEffect 0, s)
  | some r =>
    if s.store.writer ≠ .recording then (noEffect 0, s)
    else if r.splitMark then (noEffect r.clip, s)
    else (⟨.done, .ok, r.clip⟩, updateIntake (fun r => { r with splitMark := true }) s)

/-- A part of LOCK on record `c` (R104). -/
def lockPart (c : Clip) (s : State) : Outcome × State :=
  if c.locked then (noEffect c.number, s)
  else
    let r := lockRecord c s
    (outcomeOf r.1 c.number, r.2)

/-- The highest-numbered record other than number `n`. -/
def Store.newestBut (st : Store) (n : Nat) : Option Clip := findLast (fun c => c.number ≠ n) st.index

/-- LOCK: the open part, then the pre-lock part (R104, R138). -/
def actLock (s : State) : Outcome × Outcome × State :=
  match s.store.openClip with
  | none => (noEffect 0, noEffect 0, s)
  | some c =>
    let a := lockPart c s
    if s.partTime - c.openTime.getD 0 < sec s.store.tab.preLock then
      match a.2.store.newestBut c.number with
      | none => (a.1, noEffect 0, a.2)
      | some d =>
        let b := lockPart d a.2
        (a.1, b.1, b.2)
    else (a.1, noEffect 0, a.2)

/-- STOP (R139). -/
def actStop (s : State) : Outcome × State :=
  if s.store.writer = .recording then
    (⟨.done, .ok, (s.store.openClip.map Clip.number).getD 0⟩, stopRecording .trigger s)
  else (noEffect 0, s)

/-- START (R139). With the supply EMERGENCY or the tier CUTOFF it is REFUSED with STATE whatever the writer does (R166, R168);
otherwise it has no effect while the writer is RECORDING. -/
def actStart (s : State) : Outcome × State :=
  if s.store.writer = .recording ∧ s.thermal.supply ≠ .emergency ∧ s.thermal.tier ≠ .cutoff then (noEffect 0, s)
  else
    let r := startRecording s.partTime s
    (outcomeOf r.1 (if r.1 = .ok then (r.2.store.openClip.map Clip.number).getD 0 else 0), r.2)

/-- The TRIGGER report of a firing (R140). -/
def reportFiring (i : Nat) (a : Action) (o pre : Outcome) (s : State) : State :=
  report (.trigger i a o.result o.code o.clip pre.result pre.code pre.clip) s

/-- Entry `i` fires: its action is taken whole, then its TRIGGER report is issued (R136, R140). -/
def fire (i : Nat) (e : TrigEntry) (s : State) : State :=
  match e.action with
  | .mark => let r := actMark i s; reportFiring i .mark r.1 (noEffect 0) r.2
  | .lock => let r := actLock s; reportFiring i .lock r.1 r.2.1 r.2.2
  | .split => let r := actSplit s; reportFiring i .split r.1 (noEffect 0) r.2
  | .stop => let r := actStop s; reportFiring i .stop r.1 (noEffect 0) r.2
  | .start => let r := actStart s; reportFiring i .start r.1 (noEffect 0) r.2

/-! ### Evaluation (R135, R136, R142) -/

/-- Entries may fire: the link is AWAKE and no link reset is in progress. -/
def armed (s : State) : Bool := s.link.awake && !s.motion.checking

/-- The last values after a change (R135): an entry whose mask holds a changed condition takes its new value. -/
def lastAfter (changed conds : BitVec 16) : List TrigEntry → List Bool → List Bool
  | e :: es, l :: ls =>
    (if e.mask &&& changed ≠ 0#16 then e.value conds else l) :: lastAfter changed conds es ls
  | _, ls => ls

/-- The entries that fire at a change, with their indices from `i` on, ascending (R135). -/
def firing (changed conds : BitVec 16) : Nat → List TrigEntry → List Bool → List (Nat × TrigEntry)
  | i, e :: es, l :: ls =>
    (if e.enabled && !l && (e.mask &&& changed ≠ 0#16) && e.value conds then [(i, e)] else []) ++
      firing changed conds (i + 1) es ls
  | _, _, _ => []

/-- A change is taken (R135, R136). -/
def takeChange (c : Change) (s : State) : State :=
  let conds := c.apply s.trig.conds
  let changed := conds ^^^ s.trig.conds
  let fired := if armed s then firing changed conds 0 s.trig.entries s.trig.last else []
  let s := s.mapTrig fun t => { t with conds := conds, last := lastAfter changed conds t.entries t.last }
  fired.foldl (fun s f => fire f.1 f.2 s) s

/-- The changes that wait are taken one at a time, in the order they reached the unit, at most `n` (R136). -/
def takeWaiting : Nat → State → State
  | 0, s => s
  | n + 1, s => match s.trig.waiting with
    | c :: cs => takeWaiting n (takeChange c (s.mapTrig fun t => { t with waiting := cs }))
    | [] => s

/-- A source block hands changes over: they are taken behind those that reached the unit before them, and what their
firings change is taken behind them (R136). -/
def hand (cs : List Change) (s : State) : State :=
  takeWaiting Config.settleBound (s.mapTrig fun t => { t with waiting := t.waiting ++ cs })

/-- The two changes of a momentary condition: it rises and falls (R133). -/
def riseAndFall (c : BitVec 16) : List Change := [setCond c true, setCond c false]

/-- A momentary condition rises and falls, with nothing taken between (R133). -/
def pulse (c : BitVec 16) (s : State) : State := hand (riseAndFall c) s

/-- The changes that one event makes in its source are taken one after the other; what their firings change waits until the
event's last change has been taken, as LOCK_NEAR does in Table 7-4 (R133, R136). -/
def takeEach (cs : List Change) (s : State) : State := cs.foldl (fun s c => takeChange c s) s

/-- A level condition takes a value. -/
def setLevel (c : BitVec 16) (b : Bool) (s : State) : State := hand [setCond c b] s

/-- Every entry's last value is set to its value under the present conditions (R141). -/
def rePrime (s : State) : State :=
  s.mapTrig fun t => { t with last := t.entries.map fun e => e.value t.conds }

/-! ### Settling -/

/-- One step of settling: the next waiting change, else the store's and the card's due work. -/
def settleStep (s : State) : Option State :=
  match s.trig.waiting with
  | c :: cs => some (takeChange c (s.mapTrig fun t => { t with waiting := cs }))
  | [] => pumpStep s

/-- Settling steps until none is left, at most `n`. -/
def quiesce : Nat → State → State
  | 0, s => s
  | n + 1, s => match settleStep s with
    | some t => quiesce n t
    | none => s

/-- Everything a command has started in other blocks is done (R118, R136, LOG 17, LOG 32). -/
def settle (s : State) : State := quiesce Config.settleBound s

/-- What a command has started is done, and what still waits in the room leaves, so that a drain may end (R60, R185); a departure
may itself start work, by an answer held or by HOLD (R74, R176). -/
def finish (s : State) : State := depart (settle (depart (settle s)))

/-- A command's whole effect: its own, then what it has started. -/
def act (dt : Nat) (f : State → State) (s : State) : Host.Outcome State Fault Refusal := live dt (fun s => finish (f s)) s

end Sys2Proof.Machine
end

