-- ==== Sys2Proof/Machine/Motion.lean ====
section
/-! DEFINITION. The motion sensor's commands and CALIBRATE (chapter 1): IMU_DRDY_EDGE, SAMPLE_TAKEN, MOTION_LOST,
IDENTITY_CHECK, CALIBRATE; and the motion side of a selection of IMU SETUP, of a link reset and of a sleep. -/

namespace Sys2Proof.Machine

/-! ### The sample record (R1, R2) -/

/-- The raw gyroscope count of IMU axis 0, 1 or 2. -/
def gyroAxis (r : SampleRecord) : Nat → Int
  | 0 => signed16 r.gx
  | 1 => signed16 r.gy
  | _ => signed16 r.gz

/-- The mapped rate of a filter axis. -/
def AxisMap.rate (a : AxisMap) (r : SampleRecord) : Int := if a.negative then -gyroAxis r a.axis else gyroAxis r a.axis

/-- The three mapped rates (R2). -/
def ImuSetup.rates (t : ImuSetup) (r : SampleRecord) : Axes := ⟨t.yaw.rate r, t.pitch.rate r, t.roll.rate r⟩

/-- The three accelerometer values. -/
def accelerations (r : SampleRecord) : List Int := [signed16 r.ax, signed16 r.ay, signed16 r.az]

/-- The index and value of largest magnitude, from index `i` on; of equal magnitudes the lowest index (R9). -/
def peakFrom : Nat → List Int → Nat × Int
  | i, [] => (i, 0)
  | i, [a] => (i, a)
  | i, a :: as =>
    let p := peakFrom (i + 1) as
    if p.2.natAbs ≤ a.natAbs then (i, a) else p

/-- Some difference of two rate triples exceeds `lim` in magnitude. -/
def differMore (a b : Axes) (lim : Nat) : Bool :=
  decide (lim < (a.yaw - b.yaw).natAbs) || decide (lim < (a.pitch - b.pitch).natAbs) ||
    decide (lim < (a.roll - b.roll).natAbs)

/-! ### Calibration runs (R14 to R17) -/

/-- A calibration run in progress ends without result, the status becoming `next`; the bias is unchanged (R15, R17). -/
def abortCal (reason : CalReason) (next : MotionStatus) (s : State) : State :=
  match s.motion.cal with
  | some c => report (.calAborted reason c.count) (s.mapMotion fun m => { m with cal := none, status := next })
  | none => s

/-- A run that has reached 1024 samples ends (R16). -/
def finishCal (c : CalRun) (s : State) : State :=
  let mean (x : Int) : Int := roundDiv x Config.calSamples
  let b : Axes := ⟨mean c.sums.yaw, mean c.sums.pitch, mean c.sums.roll⟩
  if withinInt b.yaw (-2048) 2047 && withinInt b.pitch (-2048) 2047 && withinInt b.roll (-2048) 2047 then
    report (.calDone b) (recenterNow (s.mapMotion fun m => { m with bias := b, cal := none, status := .running }))
  else report (.calAborted .range c.count) (s.mapMotion fun m => { m with cal := none, status := .running })

/-- The calibration run takes a sample with no gap (R15, R16). -/
def calSample (r : Axes) (s : State) : State :=
  match s.motion.cal with
  | none => s
  | some c =>
    if differMore r (c.first.getD r) s.motion.limits.stillThreshold then abortCal .moved .running s
    else
      let c' : CalRun :=
        ⟨c.count + 1, ⟨c.sums.yaw + r.yaw, c.sums.pitch + r.pitch, c.sums.roll + r.roll⟩, some (c.first.getD r)⟩
      if c'.count = Config.calSamples then finishCal c' s else s.mapMotion fun m => { m with cal := some c' }

/-! ### Sequence check and hand-off (R4, R5, R7) -/

def countLost (g : Nat) (s : State) : State := s.mapCounters fun c => { c with samplesLost := satAdd c.samplesLost g }

/-- `n` fill samples of the last mapped rates (R4). -/
def fillSamples (time : Nat) : Nat → State → State
  | 0, s => s
  | n + 1, s => fillSamples time n (filterSample s.motion.lastRates time s)

/-- A real sample is handed to the Path Filter and remembered. -/
def handOver (r : Axes) (seq : Nat) (time : Nat) (s : State) : State :=
  (filterSample r time s).mapMotion fun m =>
    { m with lastRates := r, lastStamp := some time, expected := some ((seq + 1) % 256) }

/-- The gap g of a sequence number (R4); none counts when no number is expected. -/
def Motion.gap (m : Motion) (seq : Nat) : Nat :=
  match m.expected with
  | some e => (seq + 256 - e) % 256
  | none => 0

/-- A sample read in RUNNING or CALIBRATING: the run ended at a gap, the fills or the recenter, the hand-off (R4, R5). -/
def takeRunning (r : Axes) (seq time : Nat) (s : State) : State :=
  let g := s.motion.gap seq
  if g = 0 then handOver r seq time s
  else if g ≤ 8 then handOver r seq time (countLost g (fillSamples time g (abortCal .moved .running s)))
  else
    let e := s.motion.expected.getD 0
    report (.sampleGap e seq g) (countLost g (handOver r seq time (recenterNow (abortCal .moved .running s))))

/-- The first sample read in LOST (R7). -/
def takeResumed (r : Axes) (seq time : Nat) (s : State) : State :=
  let elapsed := time - s.motion.lastStamp.getD time
  let s := recenterNow (s.mapMotion fun m => { m with status := .running })
  takeEach [setCond condMotionLost false] (report (.motionResumed seq elapsed) (handOver r seq time s))

/-! ### Detectors (R9 to R11, R18) -/

/-- A shock is counted: the shocks counter, or in watch the shocks-asleep counter, the watch shock count and WAKE
(R9, R18). -/
def countShock (s : State) : State :=
  if s.motion.status = .watching then
    let n := min (s.motion.watchCount + 1) 255
    (s.mapMotion fun m =>
      { m with watchCount := n
               wake := m.wake || (decide (m.limits.wakeCount ≠ 0) && decide (m.limits.wakeCount ≤ n)) }).mapCounters
      fun c => { c with shocksAsleep := satAdd c.shocksAsleep 1 }
  else s.mapCounters fun c => { c with shocks := satAdd c.shocks 1 }

/-- The shock detector (R9, R18). -/
def detectShock (a : List Int) (time : Nat) (s : State) : State :=
  let free := match s.motion.holdoffEnd with
    | some e => decide (e ≤ time)
    | none => true
  let p := peakFrom 0 a
  if free && decide (s.motion.limits.shockThreshold ≤ p.2.natAbs) then
    let s := s.mapMotion fun m => { m with holdoffEnd := some (time + ms m.limits.shockHoldoff) }
    takeEach (riseAndFall condShock) (report (.shock p.1 p.2) (countShock s))
  else s

/-- A run start after a sample, and whether the condition holds (R10, R11). -/
def runAfter (good : Bool) (run : Option Nat) (held : Bool) (time span : Nat) : Option Nat × Bool :=
  if good then (some (run.getD time), held || decide (run.getD time + span ≤ time)) else (none, false)

/-- The freefall and stillness detectors, whose changes of one sample reach the Trigger Unit together, behind those of a shock
and ahead of what the firings of the shock have changed (R10, R11, R133, Table 7-4). -/
def detectRest (r : Axes) (a : List Int) (time : Nat) (s : State) : State :=
  let m := s.motion
  let f := runAfter (a.all fun x => decide (x.natAbs < m.limits.freefallThreshold)) m.freefallRun m.freefall time
    (ms m.limits.freefallTime)
  let t := runAfter (!differMore r m.bias m.limits.stillThreshold) m.stillRun m.still time (sec m.limits.stillTime)
  let s := s.mapMotion fun m => { m with freefallRun := f.1, freefall := f.2, stillRun := t.1, still := t.2 }
  let s := if f.2 && !m.freefall then report .freefall s else s
  let s := if t.2 && !m.still then report .stillBegin s else if m.still && !t.2 then report .stillEnd s else s
  let mask := condIf condFreefall (f.2 != m.freefall) ||| condIf condStill (t.2 != m.still)
  if mask = 0#16 then s else takeEach [⟨mask, condIf condFreefall f.2 ||| condIf condStill t.2⟩] s

/-- The three detectors examine a sample, the shock detector first; then what their firings have changed is taken (R9 to R11,
R133, R136). -/
def detect (r : Axes) (a : List Int) (time : Nat) (s : State) : State :=
  hand [] (detectRest r a time (detectShock a time s))

/-- The sample record whose read has ended, by motion status (R1, R4 to R7, R15, R18). -/
def takeSample (sample : SampleRecord) (time : Nat) (s : State) : State :=
  let r := s.motion.setup.rates sample
  let a := accelerations sample
  let seq := sample.seq.toNat
  match s.motion.status with
  | .running => detect r a time (takeRunning r seq time s)
  | .calibrating =>
    let g := s.motion.gap seq
    let t := detect r a time (takeRunning r seq time s)
    if g = 0 then calSample r t else t
  | .lost => detect r a time (takeResumed r seq time s)
  | .watching => detectShock a time s
  | .absent => s

/-! ### Silence, link reset, sleep, selection -/

/-- The freefall and stillness runs are cleared and their conditions fall; the conditions that were true (R6, R17, R19). -/
def clearRuns (s : State) : State :=
  s.mapMotion fun m => { m with freefallRun := none, stillRun := none, freefall := false, still := false }

/-- The change FREEFALL and STILL falling make. -/
def restFall (m : Motion) : Change := ⟨condIf condFreefall m.freefall ||| condIf condStill m.still, 0#16⟩

/-- Silence of 20 ms (R6). -/
def loseMotion (stamp : Nat) (s : State) : State :=
  let m := s.motion
  let s := abortCal .moved .lost (s.mapMotion fun m => { m with status := .lost })
  let s := clearRuns (report (.motionLost stamp) s)
  let s := if m.still then report .stillEnd s else s
  hand [⟨condMotionLost ||| (restFall m).mask, condMotionLost⟩] s

/-- The supervision has expired (R6): 20 ms since the stamp of the last sample whose read has ended, also while the read of a
record stamped within them is in progress (DESIGN CHOICE, LOG 60). -/
def silent (s : State) : Option Nat :=
  if (s.motion.status = .running || s.motion.status = .calibrating) && s.link.awake && !s.motion.checking then
    match s.motion.lastStamp with
    | some t => if t + Config.silence ≤ s.partTime then some t else none
    | none => none
  else none

/-- The motion status that stands while the identity check is made (LOG 15). -/
def statusInCheck : MotionStatus → MotionStatus
  | .watching => .absent
  | .calibrating => .running
  | st => st

/-- The Motion Front-End's work at a link reset, up to the identity check's end (R8, R18, R19, LOG 14 to 16). -/
def motionReset (s : State) : State :=
  let m := s.motion
  let s := clearRuns (abortCal .reset .running s)
  let s := s.mapMotion fun m =>
    { m with status := statusInCheck m.status, expected := none, lastStamp := none, reading := none, wake := false,
             watchCount := 0, checking := true }
  hand [restFall m] s

/-- The Motion Front-End's work at SLEEP (R17). -/
def motionSleep (watch : Bool) (s : State) : State :=
  let s := abortCal .reset .running s
  let m := s.motion
  let s := clearRuns (s.mapMotion fun m => { m with reading := none, checking := false })
  let s := if m.still then report .stillEnd s else s
  if watch && m.status ≠ .absent then
    let s := s.mapMotion fun m =>
      { m with status := .watching, watchCount := 0, sensor := some ⟨100, (m.sensor.map SensorConfig.fs).getD m.setup.fs⟩ }
    hand [⟨condMotionLost ||| (restFall m).mask, 0#16⟩] s
  else hand [restFall m] (s.mapMotion fun m => { m with sensor := none })

/-- The held IMU SETUP page, if any, comes into force (R3, R8). -/
def applyImu (s : State) : State :=
  match s.link.waitImu with
  | some t => (s.mapMotion fun m => { m with setup := t }).mapLink fun l => { l with waitImu := none }
  | none => s

/-- A selection of IMU SETUP takes effect (R3). -/
def selectImu (t : ImuSetup) (s : State) : State :=
  if s.motion.status = .running ∨ s.motion.status = .calibrating ∨ s.motion.status = .lost then
    if s.link.awake then
      let s := (s.mapMotion fun m => { m with setup := t, expected := none }).mapLink fun l => { l with waitImu := none }
      abortCal .moved .running (recenterNow (configureSensor t s))
    else s.mapLink fun l => { l with waitImu := some t }
  else s.mapLink fun l => { l with waitImu := some t }

/-- The identity check ends (R8), and with it the link reset for the Trigger Unit (R142). An IMU SETUP page selected while
the check ran applies here (LOG 53). -/
def endCheck (ident : Option Nat) (s : State) : State :=
  let s := abortCal .reset .running (applyImu s)
  let t := s.motion.setup
  let s :=
    if ident = some t.identity then
      configureSensor t (s.mapMotion fun m => { m with status := .running, expected := none, lastStamp := none })
    else report (.imuAbsent ident t.identity) (s.mapMotion fun m => { m with status := .absent })
  let s := rePrime (setLevel condMotionLost false (recenterNow s))
  s.mapMotion fun m => { m with checking := false }

/-! ### The commands -/

/-- IMU_DRDY_EDGE: the edge is stamped and a read begins, where the part reads (R1, R8). -/
def execImuDrdyEdge (dt : Nat) (s : State) : Host.Outcome State Fault Refusal :=
  act dt (fun s =>
    if s.motion.status ≠ .absent && !s.motion.checking && s.motion.reading.isNone &&
        (s.link.awake || s.motion.status = .watching) then
      s.mapMotion fun m => { m with reading := some s.partTime }
    else s) s

/-- SAMPLE_TAKEN: the read in progress ends and its record is taken (R1, R4). -/
def execSampleTaken (dt : Nat) (record : SampleRecord) (s : State) : Host.Outcome State Fault Refusal :=
  act dt (fun s =>
    match s.motion.reading with
    | some time => takeSample record time (s.mapMotion fun m => { m with reading := none })
    | none => s) s

/-- MOTION_LOST: 20 ms have passed without a sample (R6). -/
def execMotionLost (dt : Nat) (s : State) : Host.Outcome State Fault Refusal :=
  act dt (fun s =>
    match silent s with
    | some t => loseMotion t s
    | none => s) s

/-- IDENTITY_CHECK: the identity read of a link reset ends (R8). -/
def execIdentityCheck (dt : Nat) (ident : Option (BitVec 8)) (s : State) : Host.Outcome State Fault Refusal :=
  act dt (fun s => if s.motion.checking then endCheck (ident.map BitVec.toNat) s else s) s

/-- CALIBRATE, taken from the record link (R14). The run's first sample is the first whose read ends after this,
also where that read is in progress now (DESIGN CHOICE, LOG 71). -/
def onCalibrate (tag : Byte) (params : Bytes) : State → State :=
  directive 32 (some 0) tag params fun s =>
    match s.motion.status with
    | .running =>
      answer 32 tag .ok []
        (s.mapMotion fun m => { m with status := .calibrating, cal := some ⟨0, Axes.zero, none⟩ })
    | .calibrating => answer 32 tag .busy [] s
    | _ => answer 32 tag .state [] s

/-- CALIBRATE (R14). -/
def execCalibrate (dt : Nat) (tag : Byte) (params : Bytes) (s : State) : Host.Outcome State Fault Refusal :=
  act dt (onCalibrate tag params) s

end Sys2Proof.Machine
end

