-- ==== Sys2Proof/Machine/Frame.lean ====
section
/-! DEFINITION. The picture stream's commands and the filter's and frame's directives (chapters 2 and 3):
FRAME_START_MARKER, SENSOR_LINE, FRAME_END_MARKER, SIDE_SLOT, SET_MODE, RECENTER, SET_GEOMETRY, SET_LENS, SET_EXPOSURE. -/

namespace Sys2Proof.Machine

/-! ### Lines (R46, R47, R53) -/

/-- A line brought to exactly `w` pixels (R46). -/
def fitLine (w : Nat) (px : List Nat) : List Nat := px.take w ++ List.replicate (w - px.length) (px.getLast?.getD 0)

/-- The frame record changed by `f`. -/
def updateFrame (f : FrameRec → FrameRec) (s : State) : State :=
  s.mapFrame fun k => { k with record := k.record.map f }

/-- A line beyond H_in: the first marks the frame long and counts it (R47). -/
def longLine (r : FrameRec) (s : State) : State :=
  if r.long then s
  else (updateFrame (fun r => { r with long := true }) s).mapCounters fun c => { c with longFrames := satAdd c.longFrames 1 }

/-- A line enters the Line Ring as the next line of the frame (R45, R46, R53). -/
def enterLine (g : Geometry) (r : FrameRec) (px : List Nat) (s : State) : State :=
  let s := if px.length = g.wIn then s else s.mapCounters fun c => { c with paddedLines := satAdd c.paddedLines 1 }
  let e : RingEntry := ⟨r.lines, s.partTime, fitLine g.wIn px⟩
  updateFrame (fun r => { r with lines := r.lines + 1 })
    (s.mapFrame fun f => { f with ring := pushRing Config.ringSize f.ring e })

/-! ### Band decisions (R52) -/

/-- The first band not yet decided. -/
def FrameRec.nextBand (r : FrameRec) : Nat := (r.bands.takeWhile BandRec.decided).length

/-- The final dy of the band before band `b`, none for band 0. -/
def FrameRec.prevDy (r : FrameRec) (b : Nat) : Option Int :=
  if b = 0 then none else (r.bands[b - 1]?).map BandRec.dy

/-- The decision line of band `b` (R52). -/
def decisionLine (g : Geometry) (r : FrameRec) (b : Nat) : Int :=
  match r.prevDy b with
  | none => 0
  | some dy => (g.my : Int) + b * r.lb + dy - r.slewEff

/-- The line just taken, `n`, decides the next band when it is that band's decision line (R52). -/
def decideBand (g : Geometry) (n : Nat) (s : State) : State :=
  match s.frame.record with
  | none => s
  | some r =>
    let b := r.nextBand
    if b < r.nb ∧ decisionLine g r b = n then
      let e := s.frame.lensPage.getD r.lens ⟨256, 256, 0⟩
      let d := bandCorrection g r e s.partTime (r.prevDy b) s
      updateFrame (fun r => { r with bands := r.bands.set b d.1 }) d.2
    else s

/-! ### Rows (R54, R55) -/

/-- The source line of row `j` under its band's dy (R54). -/
def sourceLine (g : Geometry) (j : Nat) (b : BandRec) : Nat := ((j : Int) + g.my + b.dy).toNat

/-- The columns of a source line that make a row (R54). -/
def cutRow (g : Geometry) (b : BandRec) (px : List Nat) : List Nat := (px.drop ((g.mx : Int) + b.dx).toNat).take g.wOut

/-- The band of row `j`. -/
def FrameRec.bandOf (r : FrameRec) (j : Nat) : BandRec :=
  r.bands.getD (j / r.lb) ⟨false, 0, 0, false, false, false, false⟩

/-- The line's ring entry, or the oldest entry in its place, and whether that is a ring miss (R55). -/
def ringLine (ring : List RingEntry) (line : Nat) : List Nat × Bool :=
  match ring.find? fun e => e.line = line with
  | some e => (e.pixels, false)
  | none => ((ring.head?.map RingEntry.pixels).getD [], true)

/-- The next row is releasable: its band is decided and its source line has been taken (R54). -/
def releasable (g : Geometry) (r : FrameRec) : Bool :=
  let b := r.bandOf r.rows
  b.decided && decide (sourceLine g r.rows b < r.lines)

/-- The pixels of the next row, cut from its source line or the oldest line in the ring, with its count of a miss. -/
def cutNext (g : Geometry) (r : FrameRec) (s : State) : List Nat × State :=
  let b := r.bandOf r.rows
  let l := ringLine s.frame.ring (sourceLine g r.rows b)
  (cutRow g b l.1, if l.2 then s.mapCounters fun c => { c with ringMisses := satAdd c.ringMisses 1 } else s)

/-- A row leaves; the room before a frame's first row is drained first (R54, R60). -/
def sendRow (r : FrameRec) (px : List Nat) (s : State) : State :=
  let s := if r.rows = 0 then drainRoom s else s
  updateFrame (fun r => { r with rows := r.rows + 1, lastRow := some px }) (s.emit (.row px))

/-- The slot after a row that is not the frame's last (R54, R60). -/
def slotAfter (g : Geometry) (r : FrameRec) (s : State) : State := if r.rows + 1 < g.hOut then fillSlot s else s

/-! ### The end of a frame (R56 to R59) -/

/-- The frame's trailer (R58). -/
def FrameRec.trailer (r : FrameRec) : Trailer :=
  ⟨r.number, r.sensorCount, r.start, r.mode, r.lens, r.bands, r.yaw, r.pitch, r.roll⟩

/-- The trailer is made pending, its content handed to Record Intake, FRAME_CLAMPED raised where a clamp flag is set, the frame
counted out, and the frame is COMPLETE (R56, R58, R59). Then the room between frames is open, and what waits leaves, the trailer
first (R60); a report that the firings of FRAME_CLAMPED issue joins the Report Queue before, or is lost against a full one, as
Table 10-4 shows. -/
def buildTrailer (s : State) : State :=
  match s.frame.record with
  | none => s
  | some r =>
    let s := motionPacket r.trailer (s.mapFrame fun f => { f with trailer := some r.trailer })
    let s := if r.bands.any BandRec.clamped then pulse condFrameClamped s else s
    let s := s.mapCounters fun c => { c with framesOut := satAdd c.framesOut 1 }
    leaveAll (s.mapFrame fun f => { f with state := .complete })

/-- Every releasable row is sent, at most `n`; the last row completes the frame (R54, R56). -/
def releaseRows (g : Geometry) : Nat → State → State
  | 0, s => s
  | n + 1, s =>
    match s.frame.record with
    | none => s
    | some r =>
      if r.rows < g.hOut ∧ releasable g r then
        let k := cutNext g r s
        let t := sendRow r k.1 k.2
        if r.rows + 1 < g.hOut then releaseRows g n (fillSlot t)
        else buildTrailer t
      else s

/-- Each undecided band takes the offsets of the band before it, with the not-decided flag (R57). -/
def fillBands : Int → Int → List BandRec → List BandRec
  | _, _, [] => []
  | dx, dy, b :: bs =>
    if b.decided then b :: fillBands b.dx b.dy bs
    else ⟨false, dx, dy, false, false, false, true⟩ :: fillBands dx dy bs

/-- Every row not yet sent is sent, at most `n`: cut while its band was decided and its line taken, else a copy of the
last row, else zero pixels (R57). -/
def finishRows (g : Geometry) : Nat → State → State
  | 0, s => s
  | n + 1, s =>
    match s.frame.record with
    | none => s
    | some r =>
      if r.rows < g.hOut then
        let k := if releasable g r then cutNext g r s else (r.lastRow.getD (List.replicate g.wOut 0), s)
        finishRows g n (slotAfter g r (sendRow r k.1 k.2))
      else s

/-- An OPEN frame ends short (R57). -/
def endShort (s : State) : State :=
  match s.frame.geometry with
  | none => s
  | some g =>
    let s := updateFrame (fun r => { r with bands := fillBands 0 0 r.bands }) s
    let s := buildTrailer (finishRows g g.hOut s)
    s.mapCounters fun c => { c with shortFrames := satAdd c.shortFrames 1 }

/-! ### The beginning of a frame (R50) -/

/-- The settings pending are applied, with the LENS page selected since, and the margin angles follow (R24, R49, R50). -/
def applyPending (s : State) : State :=
  let page := s.link.waitLens.getD s.frame.lensPage
  let s := (s.mapFrame fun f =>
    { f with geometry := f.pendGeometry.or f.geometry, lens := f.pendLens.getD f.lens,
             exposure := f.pendExposure.getD f.exposure, pendGeometry := none, pendLens := none, pendExposure := none,
             lensPage := page }).mapLink fun l => { l with waitLens := none }
  match s.frame.geometry with
  | none => s
  | some g =>
    let e := page.getD s.frame.lens ⟨256, 256, 0⟩
    s.mapFilter fun f => { f with marginX := marginAngle g.mx e.ppdx, marginY := marginAngle g.my e.ppdy }

/-- The effective mode is resolved; a change is reported and moves STAB_OFF (R36 to R38). -/
def resolveMode (s : State) : State :=
  let m := resolvedMode s
  let old := s.filter.effMode
  if m = old then s
  else
    setLevel condStabOff (m = .off)
      (report (.modeChanged m old s.filter.reqMode s.frame.nextNumber) (s.mapFilter fun f => { f with effMode := m }))

/-- Nb_f of a frame: one band in ECO (R37). -/
def bandCount (g : Geometry) (m : Mode) : Nat := if m = .eco then 1 else g.nb

/-- slew_eff of a frame (R33). -/
def effectiveSlew (g : Geometry) (m : Mode) : Nat := min (min g.slew (g.hOut / bandCount g m - 1)) 15

/-- The record of a frame that begins (R50, step 5). -/
def newFrame (g : Geometry) (count : BitVec 16) (s : State) : FrameRec :=
  let m := s.filter.effMode
  let nb := bandCount g m
  { number := s.frame.nextNumber, sensorCount := count, start := s.partTime, mode := m, lens := s.frame.lens,
    exposure := s.frame.exposure, nb := nb, lb := g.hOut / nb, slewEff := effectiveSlew g m, yaw := s.filter.yaw,
    pitch := s.filter.pitch, roll := s.filter.roll,
    bands := List.replicate nb ⟨false, 0, 0, false, false, false, false⟩, lines := 0, rows := 0, lastRow := none,
    long := false }

/-- A frame begins, or is discarded for want of a geometry (R50, steps 4 and 5). -/
def beginFrame (count : BitVec 16) (s : State) : State :=
  match s.frame.geometry with
  | none =>
    (s.mapFrame fun f => { f with state := .discard, record := none }).mapCounters
      fun c => { c with unconfigured := satAdd c.unconfigured 1 }
  | some g =>
    let r := newFrame g count s
    s.mapFrame fun f =>
      { f with state := .opened, record := some r, lastNb := r.nb, lastSlew := r.slewEff, ring := [],
               nextNumber := (f.nextNumber + 1) % 4294967296 }

/-! ### Link reset and sleep (R62, R63) -/

/-- The frame in progress is abandoned (R62). -/
def frameReset (s : State) : State :=
  s.mapFrame fun f => { f with state := .idle, record := none, ring := [], nextNumber := 0, trailer := none }

/-- The frame in progress is finished, and the block is idle (R63). -/
def frameSleep (s : State) : State :=
  let s := if s.frame.state = .opened then endShort s else s
  s.mapFrame fun f => { f with state := .idle, record := none, ring := [] }

/-! ### The commands -/

/-- FRAME_START_MARKER (R50). -/
def execFrameStartMarker (dt : Nat) (count : BitVec 16) (s : State) : Host.Outcome State Fault Refusal :=
  act dt (fun s =>
    if s.link.awake then
      let s := if s.frame.state = .opened then endShort s else s
      beginFrame count (resolveMode (applyPending s))
    else s) s

/-- A line taken in OPEN or COMPLETE (R45 to R47, R52 to R54, LOG 18). -/
def takeLine (px : List Nat) (s : State) : State :=
  match s.frame.geometry, s.frame.record with
  | some g, some r =>
    if g.hIn ≤ r.lines then longLine r s
    else
      let t := enterLine g r px s
      if s.frame.state = .opened then releaseRows g g.hOut (decideBand g r.lines t) else t
  | _, _ => s

/-- SENSOR_LINE (R45). -/
def execSensorLine (dt : Nat) (pixels : List Nat) (s : State) : Host.Outcome State Fault Refusal :=
  act dt (fun s =>
    if s.link.awake && (s.frame.state = .opened || s.frame.state = .complete) then takeLine pixels s else s) s

/-- FRAME_END_MARKER (R45, R56, R57). -/
def execFrameEndMarker (dt : Nat) (s : State) : Host.Outcome State Fault Refusal :=
  act dt (fun s =>
    if s.link.awake then
      let s := if s.frame.state = .opened then endShort s else s
      s.mapFrame fun f => { f with state := .idle, record := none }
    else s) s

/-- SIDE_SLOT: a slot of the room opens (R60, LOG 19). -/
def execSideSlot (dt : Nat) (s : State) : Host.Outcome State Fault Refusal :=
  act dt (fun s => if roomOpen s then fillSlot s else s) s

/-- The mode of a mode code (Table 11-2). -/
def Mode.ofCode : Nat → Option Mode
  | 0 => some .off
  | 1 => some .steady
  | 2 => some .eco
  | 3 => some .steadyWhileRecording
  | _ => none

/-- SET MODE, taken from the record link (R39). -/
def onSetMode (tag : Byte) (params : Bytes) : State → State :=
  directive 48 (some 2) tag params fun s =>
    match Mode.ofCode (uintAt params 0 1) with
    | some m =>
      if uintAt params 1 1 ≤ 3 then
        answer 48 tag .ok [] (s.mapFilter fun f => { f with reqMode := m, profile := uintAt params 1 1 })
      else answer 48 tag .range [] s
    | none => answer 48 tag .range [] s

/-- SET_MODE (R39). -/
def execSetMode (dt : Nat) (tag : Byte) (params : Bytes) (s : State) : Host.Outcome State Fault Refusal :=
  act dt (onSetMode tag params) s

/-- RECENTER, taken from the record link (R29). -/
def onRecenter (tag : Byte) (params : Bytes) : State → State :=
  directive 49 (some 0) tag params fun s => answer 49 tag .ok [] (recenterNow s)

/-- RECENTER (R29). -/
def execRecenter (dt : Nat) (tag : Byte) (params : Bytes) (s : State) : Host.Outcome State Fault Refusal :=
  act dt (onRecenter tag params) s

/-- The geometry of SET GEOMETRY's parameters, its slew taken as R48 says. -/
def Geometry.parse (p : Bytes) : Geometry :=
  ⟨uintAt p 0 2, uintAt p 2 2, uintAt p 4 2, uintAt p 6 2, uintAt p 8 1, min 15 (max 1 (uintAt p 9 1))⟩

/-- The checks of R48. -/
def Geometry.valid (g : Geometry) : Bool :=
  within g.wIn 640 4096 && g.wIn % 16 == 0 && within g.hIn 360 3072 && within g.wOut 320 g.wIn && within g.hOut 180 g.hIn &&
    (g.wIn - g.wOut) % 2 == 0 && (g.hIn - g.hOut) % 2 == 0 && [1, 2, 4, 8, 16].contains g.nb && g.hOut % g.nb == 0

/-- SET GEOMETRY, taken from the record link (R48). -/
def onSetGeometry (tag : Byte) (params : Bytes) : State → State :=
  directive 50 (some 10) tag params fun s =>
    let g := Geometry.parse params
    if g.valid then answer 50 tag .ok [] (s.mapFrame fun f => { f with pendGeometry := some g })
    else answer 50 tag .range [] s

/-- SET_GEOMETRY (R48). -/
def execSetGeometry (dt : Nat) (tag : Byte) (params : Bytes) (s : State) : Host.Outcome State Fault Refusal :=
  act dt (onSetGeometry tag params) s

/-- SET LENS, taken from the record link (R49). -/
def onSetLens (tag : Byte) (params : Bytes) : State → State :=
  directive 51 (some 1) tag params fun s =>
    if uintAt params 0 1 ≤ 3 then
      answer 51 tag .ok [] (s.mapFrame fun f => { f with pendLens := some (uintAt params 0 1) })
    else answer 51 tag .range [] s

/-- SET_LENS (R49). -/
def execSetLens (dt : Nat) (tag : Byte) (params : Bytes) (s : State) : Host.Outcome State Fault Refusal :=
  act dt (onSetLens tag params) s

/-- SET EXPOSURE, taken from the record link (R49). -/
def onSetExposure (tag : Byte) (params : Bytes) : State → State :=
  directive 52 (some 4) tag params fun s =>
    answer 52 tag .ok [] (s.mapFrame fun f => { f with pendExposure := some (min 1000000 (uintAt params 0 4)) })

/-- SET_EXPOSURE (R49). -/
def execSetExposure (dt : Nat) (tag : Byte) (params : Bytes) (s : State) : Host.Outcome State Fault Refusal :=
  act dt (onSetExposure tag params) s

end Sys2Proof.Machine
end

