-- ==== Sys2Proof/Machine/Clips.lean ====
section
/-! DEFINITION. Clip packets and the stall timer (chapter 4): CLIP_PACKET, STALL_TIMER_EXPIRY. -/

namespace Sys2Proof.Machine

/-! ### Acceptance and splitting (R67, R76, R77) -/

/-- One more discarded clip packet. -/
def discardPacket (s : State) : State :=
  s.mapCounters fun c => { c with packetsDiscarded := satAdd c.packetsDiscarded 1 }

/-- The stream of a stored packet made from a clip packet (Table 4-3). -/
def streamOf : ClipStream → Stream
  | .video => .video
  | .audio => .audio

/-- A VIDEO packet with SYNC. -/
def isKey (stream : ClipStream) (flags : Byte) : Bool := stream = .video && isSync flags

/-- R76: the SYNC video packet of PTS `pts` splits the OPEN clip `c`. -/
def splitWanted (c : Clip) (r : IntakeRec) (pts : Nat) (s : State) : Bool :=
  r.syncMet && (r.splitMark || decide (sec s.store.tab.maxDuration ≤ pts - c.firstPts.getD pts))

/-- A split of the OPEN clip `c` (R77): whether a new clip was opened, and the state after. -/
def splitClip (c : Clip) (s : State) : Bool × State :=
  let s := updateClip c.number (setClosing .split) (completePacking c.number s)
  let t := openingTest s
  if t.1 then
    (true, judgeStore (freshIntake t.2.store.nextClip (openRecord c.start .opened false none t.2)))
  else (false, afterClose (setWriter .stopping (endIntake (updateClip c.number (setClosing .full) t.2))))

/-- An accepted clip packet (R67, R76 to R78). -/
def acceptPacket (c : Clip) (r : IntakeRec) (stream : ClipStream) (flags : Byte) (pts : Nat) (payload : Bytes) (s : State) : State :=
  let s := startStall s
  if isKey stream flags && splitWanted c r pts s then
    let t := splitClip c s
    if t.1 then
      match t.2.intake.record with
      | some r' => packOrDrop r' (streamOf stream) flags pts payload t.2
      | none => t.2
    else discardPacket t.2
  else packOrDrop r (streamOf stream) flags pts payload s

/-- A clip packet that has passed R65 (R67, Table 4-2). -/
def takeClipPacket (stream : ClipStream) (flags : Byte) (pts : Nat) (payload : Bytes) (s : State) : State :=
  match s.store.openClip, s.intake.record with
  | some c, some r =>
    if s.store.writer = .recording && (r.syncMet || isKey stream flags) then acceptPacket c r stream flags pts payload s
    else discardPacket s
  | _, _ => discardPacket s

/-! ### The commands -/

/-- CLIP_PACKET (R64, R67): a payload past 65,525 bytes makes a packet malformed by its length. -/
def execClipPacket (dt : Nat) (stream : ClipStream) (flags : Byte) (pts : BitVec 64) (payload : Bytes) (s : State) :
    Host.Outcome State Fault Refusal :=
  act dt (fun s =>
    if s.link.awake then
      if Config.bodyLimit < payload.length + Config.clipHeaderBytes then countMalformed (clearReceive s)
      else takeClipPacket stream flags pts.toNat payload (clearReceive s)
    else s) s

/-- STALL_TIMER_EXPIRY (R78). -/
def execStallTimerExpiry (dt : Nat) (s : State) : Host.Outcome State Fault Refusal :=
  act dt (fun s => if s.intake.stallEnd.any fun t => t ≤ s.partTime then stopRecording .stall s else s) s

end Sys2Proof.Machine
end

