-- ==== Sys2Proof/Machine/StoreOps.lean ====
section
/-! DEFINITION. The Clip Store's directives (chapter 5): MOUNT, UNMOUNT, START_RECORDING, STOP_RECORDING, MARK, LOCK_CLIP,
UNLOCK_CLIP, DELETE_CLIP, READ_INDEX, READ_CLIP. -/

namespace Sys2Proof.Machine

/-! ### MOUNT and UNMOUNT (R85, R89) -/

/-- Q of an extent count under a quota percentage (R85). -/
def quotaOf (n percent : Nat) : Nat := n * percent / 100

/-- The store of an accepted MOUNT with mode BLANK (R85). -/
def mountBlank (start n gen : Nat) (st : Store) : Store :=
  let q := quotaOf n st.tab.quotaPercent
  { st with state := .ready, areaStart := start, count := n, generation := gen, extents := List.replicate n .free,
            free := List.range n, index := [], nextClip := 1, quota := q, quotaEff := q, scan := none }

/-- The store of an accepted MOUNT with mode SCAN (R85, R86). -/
def mountScan (start n gen : Nat) (st : Store) : Store :=
  let q := quotaOf n st.tab.quotaPercent
  { st with state := .scanning, areaStart := start, count := n, generation := gen, extents := [], free := [], index := [],
            quota := q, quotaEff := q, scan := some ⟨0, false, [], false⟩ }

/-- MOUNT, taken from the record link (R85). -/
def onMount (tag : Byte) (params : Bytes) : State → State :=
  directive 64 (some 11) tag params fun s =>
    let start := uintAt params 0 4
    let n := uintAt params 4 2
    let gen := uintAt params 6 4
    let mode := uintAt params 10 1
    if !within n 8 16384 || decide (Config.cardBlocks < start + n * Config.extentBlocks) || decide (1 < mode) then
      answer 64 tag .range [] s
    else if s.store.state ≠ .unmounted ∨ s.card.state = .absent ∨ s.card.state = .failed then answer 64 tag .state [] s
    else if mode = 0 then judgeStore ((answer 64 tag .ok [] s).mapStore (mountBlank start n gen))
    else judgeStore ((answer 64 tag .ok [] s).mapStore (mountScan start n gen))

/-- MOUNT (R85). -/
def execMount (dt : Nat) (tag : Byte) (params : Bytes) (s : State) : Host.Outcome State Fault Refusal :=
  act dt (onMount tag params) s

/-- A scan ends by UNMOUNT: at once, or when the read in flight has ended (R86). -/
def stopScan (s : State) : State :=
  if s.card.scanning then s.mapStore fun st => { st with scan := st.scan.map fun k => { k with abandoned := true } }
  else toUnmounted s

/-- UNMOUNT, taken from the record link (R89). -/
def onUnmount (tag : Byte) (params : Bytes) : State → State :=
  directive 65 (some 0) tag params fun s =>
    match s.store.state with
    | .unmounted => answer 65 tag .state [] s
    | .scanning => stopScan (answer 65 tag .ok [] s)
    | .ready =>
      if s.store.writer ≠ .idle || !s.card.updates.isEmpty then answer 65 tag .busy [] s
      else toUnmounted (answer 65 tag .ok [] s)
    | .fault => toUnmounted ((answer 65 tag .ok [] s).mapCard fun c => { c with updates := [] })

/-- UNMOUNT (R89). -/
def execUnmount (dt : Nat) (tag : Byte) (params : Bytes) (s : State) : Host.Outcome State Fault Refusal :=
  act dt (onUnmount tag params) s

/-! ### Recording (R98, R99, R101) -/

/-- START RECORDING, taken from the record link (R98). -/
def onStartRecording (tag : Byte) (params : Bytes) : State → State :=
  directive 66 (some 8) tag params (answerThen 66 tag (startRecording (uintAt params 0 8)))

/-- START_RECORDING (R98). -/
def execStartRecording (dt : Nat) (tag : Byte) (params : Bytes) (s : State) : Host.Outcome State Fault Refusal :=
  act dt (onStartRecording tag params) s

/-- STOP RECORDING, taken from the record link (R99). -/
def onStopRecording (tag : Byte) (params : Bytes) : State → State :=
  directive 67 (some 0) tag params fun s =>
    if s.store.writer = .recording then stopRecording .stop (answer 67 tag .ok [] s) else answer 67 tag .state [] s

/-- STOP_RECORDING (R99). -/
def execStopRecording (dt : Nat) (tag : Byte) (params : Bytes) (s : State) : Host.Outcome State Fault Refusal :=
  act dt (onStopRecording tag params) s

/-- MARK, taken from the record link (R101). -/
def onMark (tag : Byte) (params : Bytes) : State → State :=
  directive 68 (some 0) tag params fun s =>
    let r := addMarker 16 s
    answer 68 tag r.1 [] r.2.2

/-- MARK (R101). -/
def execMark (dt : Nat) (tag : Byte) (params : Bytes) (s : State) : Host.Outcome State Fault Refusal :=
  act dt (onMark tag params) s

/-! ### Locks and deletion (R103, R105) -/

/-- A directive that names a clip: STATE unless the store is READY, NOT_FOUND unless the record exists, then `f`
(R103, R105). -/
def onClip (n : Nat) (f : Clip → State → AnswerCode × State) (s : State) : AnswerCode × State :=
  if s.store.state ≠ .ready then (.state, s)
  else match s.store.named n with
    | none => (.notFound, s)
    | some c => f c s

/-- LOCK CLIP, taken from the record link (R103). -/
def onLockClip (tag : Byte) (params : Bytes) : State → State :=
  directive 69 (some 4) tag params (answerThen 69 tag (onClip (uintAt params 0 4) lockRecord))

/-- LOCK_CLIP (R103). -/
def execLockClip (dt : Nat) (tag : Byte) (params : Bytes) (s : State) : Host.Outcome State Fault Refusal :=
  act dt (onLockClip tag params) s

/-- UNLOCK CLIP, taken from the record link (R103). -/
def onUnlockClip (tag : Byte) (params : Bytes) : State → State :=
  directive 70 (some 4) tag params (answerThen 70 tag (onClip (uintAt params 0 4) unlockRecord))

/-- UNLOCK_CLIP (R103). -/
def execUnlockClip (dt : Nat) (tag : Byte) (params : Bytes) (s : State) : Host.Outcome State Fault Refusal :=
  act dt (onUnlockClip tag params) s

/-- DELETE of a record (R105). -/
def deleteRecord (c : Clip) (s : State) : AnswerCode × State :=
  if c.live then (.state, s)
  else if c.locked then (.protectedBlocks, s)
  else (.ok, dropClip c s)

/-- DELETE CLIP, taken from the record link (R105). -/
def onDeleteClip (tag : Byte) (params : Bytes) : State → State :=
  directive 71 (some 4) tag params (answerThen 71 tag (onClip (uintAt params 0 4) deleteRecord))

/-- DELETE_CLIP (R105). -/
def execDeleteClip (dt : Nat) (tag : Byte) (params : Bytes) (s : State) : Host.Outcome State Fault Refusal :=
  act dt (onDeleteClip tag params) s

/-! ### Reading the store (R107) -/

/-- The store answers READ INDEX and READ CLIP. -/
def readable (s : State) : Bool := s.store.state = .ready || s.store.state = .fault

/-- READ INDEX, taken from the record link (R107). -/
def onReadIndex (tag : Byte) (params : Bytes) : State → State :=
  directive 72 (some 5) tag params fun s =>
    let n := uintAt params 4 1
    if !within n 1 16 then answer 72 tag .range [] s
    else if !readable s then answer 72 tag .state [] s
    else
      let found := (s.store.index.filter fun c => uintAt params 0 4 ≤ c.number).take n
      answer 72 tag .ok (le 1 found.length ++ found.flatMap Clip.summary) s

/-- READ_INDEX (R107). -/
def execReadIndex (dt : Nat) (tag : Byte) (params : Bytes) (s : State) : Host.Outcome State Fault Refusal :=
  act dt (onReadIndex tag params) s

/-- READ CLIP, taken from the record link (R107). -/
def onReadClip (tag : Byte) (params : Bytes) : State → State :=
  directive 73 (some 4) tag params fun s =>
    if !readable s then answer 73 tag .state [] s
    else match s.store.named (uintAt params 0 4) with
      | none => answer 73 tag .notFound [] s
      | some c => answer 73 tag .ok c.encode s

/-- READ_CLIP (R107). -/
def execReadClip (dt : Nat) (tag : Byte) (params : Bytes) (s : State) : Host.Outcome State Fault Refusal :=
  act dt (onReadClip tag params) s

end Sys2Proof.Machine
end

