-- ==== Sys2Proof/Machine/CardOps.lean ====
section
/-! DEFINITION. The card's commands (chapter 6): CARD_READ, CARD_WRITE, CARD_OP_COMPLETION, CARD_TIMEOUT, CARD_INSERTION,
CARD_REMOVAL. -/

namespace Sys2Proof.Machine

/-! ### Passthrough directives (R126) -/

/-- A passthrough directive that has passed its length check: STATE, BUSY, or the slot (R126, checks 3 and 4). -/
def takePass (code : Nat) (tag : Byte) (kind : OpKind) (addr count : Nat) (data : Bytes) (s : State) : State :=
  if s.card.state = .absent ∨ s.card.state = .failed then answer code tag .state [] s
  else if s.card.slot.isSome then answer code tag .busy [] s
  else s.mapCard fun c => { c with slot := some ⟨tag, kind, addr, count, data, .pending⟩ }

/-- R126, check 1: the count or the address is outside its range. -/
def passRange (addr count : Nat) : Bool := !within count 1 Config.passLimit || decide (Config.cardBlocks < addr + count)

/-- CARD READ, taken from the record link (R126). -/
def onCardRead (tag : Byte) (params : Bytes) : State → State :=
  directive 74 (some 5) tag params fun s =>
    let addr := uintAt params 0 4
    let count := uintAt params 4 1
    if passRange addr count then answer 74 tag .range [] s else takePass 74 tag .read addr count [] s

/-- CARD_READ (R126). -/
def execCardRead (dt : Nat) (tag : Byte) (params : Bytes) (s : State) : Host.Outcome State Fault Refusal :=
  act dt (onCardRead tag params) s

/-- CARD WRITE, taken from the record link (R126; a field too short to hold address and count: LOG 30). -/
def onCardWrite (tag : Byte) (params : Bytes) : State → State :=
  directive 75 none tag params fun s =>
    let addr := uintAt params 0 4
    let count := uintAt params 4 1
    if params.length < 5 then answer 75 tag .malformed [] (countMalformed s)
    else if passRange addr count then answer 75 tag .range [] s
    else if params.length ≠ 5 + Config.blockBytes * count then answer 75 tag .malformed [] (countMalformed s)
    else takePass 75 tag .write addr count (params.drop 5) s

/-- CARD_WRITE (R126). -/
def execCardWrite (dt : Nat) (tag : Byte) (params : Bytes) (s : State) : Host.Outcome State Fault Refusal :=
  act dt (onCardWrite tag params) s

/-! ### The end of an operation (R116, R117, R124) -/

/-- The card becomes IDLE, with no operation in flight. -/
def cardIdle (s : State) : State := s.mapCard fun c => { c with state := .idle, op := none }

/-- The queue's rewrite has ended with ERROR (R124): tried once more, or given up; an entry whose clip has left the index
just leaves (R123). -/
def updateError (s : State) : State :=
  match s.card.updates with
  | [] => s
  | u :: us =>
    if (s.store.find u.clip).isNone then popUpdate s
    else if u.failed then setCardFlag u.clip (popUpdate s)
    else s.mapCard fun c => { c with updates := { u with failed := true } :: us }

/-- The data of CARD READ's answer: the count of blocks, of 4 bytes as a block count of R188 (DEDUCED, LOG 66), and their bytes
(R126, LOG 28). -/
def readData (o : CardOp) (data : Bytes) : Bytes :=
  match o.kind with
  | .read => le 4 o.count ++ data
  | .write => []

/-- The source of an operation that ended with OK is told (R116). -/
def tellOk (o : CardOp) (data : Bytes) (s : State) : State :=
  match o.source with
  | .writer w => writerOk w s
  | .update _ => popUpdate s
  | .scan => scanOk data s
  | .pass => endPass .ok (readData o data) s

/-- The source of an operation that ended with ERROR on a card that goes on is told (R117, step 4). -/
def tellError (o : CardOp) (s : State) : State :=
  match o.source with
  | .writer w => writerError w s
  | .update _ => updateError s
  | .scan => scanError s
  | .pass => endPass .card [] s

/-- The card becomes FAILED (R117, step 5). -/
def cardFail (s : State) : State :=
  let s := report .cardFailed (s.mapCard fun c => { c with state := .failed, op := none })
  failPass ((enterFault .cardFailed s).mapCard fun c => { c with updates := [] })

/-- An operation ends with ERROR (R117). -/
def opError (o : CardOp) (timeout : Bool) (s : State) : State :=
  let n := s.card.fails + 1
  let s := (s.mapCounters fun c => { c with cardErrors := satAdd c.cardErrors 1 }).mapCard fun c => { c with fails := n }
  let s := pulse condCardError (report (.cardError o.cls o.kind o.addr o.count timeout n) s)
  if n < Config.failLimit then tellError o (cardIdle s) else cardFail s

/-- An operation ends with OK (R116). -/
def opOk (o : CardOp) (data : Bytes) (s : State) : State :=
  tellOk o data ((cardIdle s).mapCard fun c => { c with fails := 0 })

/-- A completion of the card (R116). One that comes together with the timeout, after it, is the ended operation's: it is
ignored, whatever operation has started meanwhile (LOG 57). With no operation in flight a completion is ignored too. -/
def takeCompletion (ok : Bool) (data : Bytes) (s : State) : State :=
  if s.card.timedOut = some s.partTime then s.mapCard fun c => { c with timedOut := none }
  else match s.card.op with
    | some o => if ok then opOk o data s else opError o false s
    | none => s

/-- CARD_OP_COMPLETION (R116). -/
def execCardOpCompletion (dt : Nat) (ok : Bool) (data : Bytes) (s : State) : Host.Outcome State Fault Refusal :=
  act dt (takeCompletion ok data) s

/-- CARD_TIMEOUT (R116): the operation has ended at the card, and a completion that comes together with the timeout is
late. -/
def execCardTimeout (dt : Nat) (s : State) : Host.Outcome State Fault Refusal :=
  act dt (fun s =>
    match s.card.op with
    | some o =>
      if o.start + o.limit ≤ s.partTime then
        opError o true (s.mapCard fun c => { c with timedOut := some s.partTime })
      else s
    | none => s) s

/-! ### Card detect (R114, R115) -/

/-- CARD_INSERTION (R114). -/
def execCardInsertion (dt : Nat) (s : State) : Host.Outcome State Fault Refusal :=
  act dt (fun s =>
    if s.card.state = .absent then report .cardInserted (s.mapCard fun c => { c with state := .idle, fails := 0 })
    else s) s

/-- CARD_REMOVAL (R115). -/
def execCardRemoval (dt : Nat) (s : State) : Host.Outcome State Fault Refusal :=
  act dt (fun s =>
    if s.card.state = .absent then s
    else
      failPass (enterFault .cardRemoved
        (report .cardRemoved (s.mapCard fun c => { c with state := .absent, op := none })))) s

end Sys2Proof.Machine
end

