-- ==== Sys2Proof/Machine/Charging.lean ====
section
/-! DEFINITION. The Charge Controller (chapter 8): the evaluation's seven stages, CHARGE_EVALUATION's work, and the charge
directives SET_INPUT_LIMIT, SET_CHARGE_REQUEST, CHARGE_RESTART, SET_GAUGE, READ_POWER. -/

namespace Sys2Proof.Machine

/-! ### Stage 1: the battery band (R145) -/

/-- The plain band of a temperature (Table 8-1). -/
def ChargeTab.plainBand (t : ChargeTab) (x : Int) : Band :=
  if x < t.coldCool then .cold
  else if x < t.coolStandard then .cool
  else if x < t.standardWarm then .standard
  else if x < t.warmHot then .warm
  else .hot

/-- The place of a band: 0 for STANDARD, negative on its cold side, positive on its warm side. -/
def Band.place : Band → Int
  | .cold => -2
  | .cool => -1
  | .warm => 1
  | .hot => 2
  | _ => 0

/-- The band moving in from `b` by 2 °C of margin (R145, step 5). -/
def ChargeTab.inward (t : ChargeTab) (b : Band) (x : Int) : Band :=
  if 0 < b.place then (if (t.plainBand (x + 4)).place < b.place then t.plainBand (x + 4) else b)
  else if b.place < (t.plainBand (x - 4)).place then t.plainBand (x - 4)
  else b

/-- The band after an evaluation that reads temperature `x` (R145). -/
def ChargeTab.nextBand (t : ChargeTab) (old : Option Band) (x : Int) : Band :=
  if x < -80 ∨ 250 < x then .invalid
  else
    let f := t.plainBand x
    match old with
    | none => f
    | some b =>
      if b = .invalid then f
      else if f = b then b
      else if f.place * b.place < 0 ∨ b.place.natAbs < f.place.natAbs then f
      else t.inward b x

/-- The charge voltage of a band; none where no charge is permitted. -/
def ChargeTab.voltage (t : ChargeTab) : Band → Option Nat
  | .cool => some t.voltageCool
  | .standard => some t.voltageStandard
  | .warm => some t.voltageWarm
  | _ => none

/-- The fast current of a band. -/
def ChargeTab.current (t : ChargeTab) : Band → Nat
  | .cool => t.currentCool
  | .standard => t.currentStandard
  | .warm => t.currentWarm
  | _ => 0

/-! ### Stage 2: the input limit (R154) -/

/-- ILIM_eff after regulation against VIN. -/
def Charge.regulated (c : Charge) (ilim : Nat) : Nat :=
  if c.meas.vin < c.tab.vinReg then max 100 (ilim - 100)
  else if c.tab.vinReg + 200 ≤ c.meas.vin ∧ ilim < c.ilimHost then min c.ilimHost (ilim + 100)
  else ilim

/-! ### Stage 3: the state (R147 to R150) -/

/-- PRECHARGE, FAST or TAPER. -/
def ChargeState.charging : ChargeState → Bool
  | .precharge => true
  | .fast => true
  | .taper => true
  | _ => false

/-- The reason to suspend, if any (R149). -/
def suspension (b : Band) (tier : Tier) : Option ChargeReason :=
  match b with
  | .invalid => some .thermistor
  | .cold => some .batteryCold
  | .hot => some .batteryHot
  | _ => if tier = .limit ∨ tier = .cutoff then some .dieLimit else none

/-- The phase of the entry test (R147, case 5). -/
def Charge.entry (c : Charge) (cv : Nat) : ChargeState :=
  if c.meas.vbat < c.tab.prechargeThreshold then .precharge
  else if c.meas.vbat < cv - c.tab.rechargeDrop then .fast
  else .done

/-- The termination count after an evaluation in TAPER (R148). -/
def Charge.termNext (c : Charge) : Nat :=
  if c.meas.ibat < c.tab.terminationCurrent ∧ c.tab.terminationCurrent < c.setpoint then c.termCount + 1 else 0

/-- The move of a charging state or DONE (R148, R150). -/
def Charge.phase (c : Charge) (cv : Nat) : ChargeState × ChargeReason :=
  if c.state.charging ∧ cv + 100 < c.meas.vbat then (.fault, .overvoltage)
  else match c.state with
    | .precharge => (if c.tab.prechargeThreshold + 100 ≤ c.meas.vbat then .fast else .precharge, .none)
    | .fast => (if cv - 10 ≤ c.meas.vbat then .taper else .fast, .none)
    | .taper => (if c.termNext = 3 then .done else .taper, .none)
    | .done => (if c.meas.vbat < cv - c.tab.rechargeDrop then .fast else .done, .none)
    | st => (st, c.reason)

/-- The entry test of an evaluation (R147, case 5); at the first one after a CHARGE RESTART that cleared an
overvoltage, one that persists is entered again (R157, LOG 47). -/
def Charge.entered (c : Charge) (cv : Nat) : ChargeState × ChargeReason :=
  if c.restarted ∧ cv + 100 < c.meas.vbat then (.fault, .overvoltage) else (c.entry cv, .none)

/-- The state and reason after stage 3 (R147): the first case that applies. -/
def Charge.moved (c : Charge) (b : Band) (tier : Tier) : ChargeState × ChargeReason :=
  if !c.vin then (.noInput, .none)
  else if c.state = .fault then (.fault, c.reason)
  else if c.request = 0 then (.standby, .none)
  else match suspension b tier with
    | some r => (.suspended, r)
    | none =>
      let cv := (c.tab.voltage b).getD 0
      if c.state = .noInput ∨ c.state = .standby ∨ c.state = .suspended then c.entered cv else c.phase cv

/-- Stage 3, with the timers and the termination count that follow it (R148, R151). -/
def Charge.stage3 (c : Charge) (b : Band) (tier : Tier) : Charge :=
  let m := c.moved b tier
  let fresh := (m.1 = .precharge || m.1 = .fast) && (c.state = .standby || c.state = .noInput || c.state = .done)
  { c with
    state := m.1, reason := m.2, restarted := false
    preTimer := if fresh then 0 else c.preTimer
    chargeTimer := if fresh then 0 else c.chargeTimer
    termCount := if m.1 = .taper ∧ c.state = .taper then c.termNext else 0 }

/-! ### Stage 4: the setpoint (R152) -/

/-- The current drawn at VIN for the rest of the system. -/
def Charge.systemCurrent (c : Charge) : Int := c.meas.iin - max c.meas.ibat 0

/-- The budget B. -/
def Charge.budget (c : Charge) : Nat := ((c.ilimEff.getD 0 : Int) - c.systemCurrent - c.tab.headroom).toNat

/-- The derated phase current P'. -/
def Charge.phaseCurrent (c : Charge) (b : Band) (tier : Tier) : Nat :=
  let p := if c.state = .precharge then 100 else c.tab.current b
  if tier = .derate then p / 2 else p

/-- The target (R152, step 5). -/
def Charge.target (c : Charge) (b : Band) (tier : Tier) : Nat :=
  min (min (c.phaseCurrent b tier) c.request) c.budget / 25 * 25

/-- The setpoint of the evaluation, from the setpoint in force before it (R152). -/
def Charge.nextSetpoint (c : Charge) (b : Band) (tier : Tier) : Nat :=
  if c.state.charging then
    let t := c.target b tier
    if t ≤ c.setpoint then t else min t (c.setpoint + c.tab.step)
  else 0

/-! ### Stage 5: the timers (R151) -/

/-- A timer that has risen reaches its limit; the termination count is 0 outside TAPER (R148). -/
def Charge.stage5 (c : Charge) : Charge :=
  if c.setpoint = 0 then c
  else match c.state with
    | .precharge =>
      let n := c.preTimer + 1
      if c.tab.prechargeTimeout * Config.periodsPerMinute ≤ n then
        { c with preTimer := n, state := .fault, reason := .prechargeTimeout, setpoint := 0 }
      else { c with preTimer := n }
    | .fast | .taper =>
      let n := c.chargeTimer + 1
      if c.tab.chargeTimeout * Config.periodsPerMinute ≤ n then
        { c with chargeTimer := n, state := .fault, reason := .chargeTimeout, setpoint := 0, termCount := 0 }
      else { c with chargeTimer := n }
    | _ => c

/-! ### Stage 6: the gauge (R158, R159) -/

/-- The capacity in counter units. -/
def ChargeTab.capacityUnits (t : ChargeTab) : Nat := t.capacity * Config.countsPerMah

/-- The gauge percent. -/
def Charge.percent (c : Charge) : Nat := c.cq * 100 / c.tab.capacityUnits

/-- The gauge counts; `full` at a termination. -/
def Charge.stage6 (full : Bool) (c : Charge) : Charge :=
  if full then { c with cq := c.tab.capacityUnits, known := true }
  else if c.known then { c with cq := (clampInt ((c.cq : Int) + c.meas.ibat) 0 c.tab.capacityUnits).toNat }
  else c

/-! ### The evaluation (R146) -/

/-- A waiting CHARGE page applies, and a changed capacity rescales Cq (R159, R160). -/
def Charge.withTab (t : ChargeTab) (c : Charge) : Charge :=
  { c with tab := t, cq := if t.capacity = c.tab.capacity then c.cq else c.cq * t.capacity / c.tab.capacity }

/-- Stages 1 to 5 under a die tier, and whether the state became DONE by termination. -/
def Charge.evaluated (tier : Tier) (c : Charge) : Charge × Bool :=
  let b := c.tab.nextBand c.band c.meas.batTemp
  let c := { c with band := some b, ilimEff := if c.vin then c.ilimEff.map c.regulated else c.ilimEff }
  let d := c.stage3 b tier
  let full := c.state = .taper && d.state = .done
  (Charge.stage5 { d with setpoint := d.nextSetpoint b tier, voltage := d.tab.voltage b }, full)

/-- Stage 7's judgement of CHARGING and LOW_CHARGE (R159, R161). -/
def Charge.judged (c : Charge) : Charge :=
  { c with charging := c.state.charging, lowCharge := c.known && decide (c.percent ≤ c.tab.lowMark), evalDue := false }

/-- A CHARGE_STATE report of a change from `old` to `c` (R161). -/
def reportCharge (old c : Charge) (s : State) : State :=
  report (.chargeState c.state c.reason old.state old.reason c.band c.meas.vbat c.setpoint) s

/-- A waiting CHARGE selection, if any, applied to the block. -/
def chargeReady (s : State) : Charge :=
  match s.link.waitCharge with
  | some t => s.charge.withTab t
  | none => s.charge

/-- One evaluation (R146). -/
def evaluate (s : State) : State :=
  let old := chargeReady s
  let e := old.evaluated s.thermal.tier
  let c := (e.1.stage6 e.2).judged
  let s := (s.mapCharge fun _ => c).mapLink fun l => { l with waitCharge := none }
  let s := if c.state ≠ old.state ∨ c.reason ≠ old.reason then reportCharge old c s else s
  hand [⟨condCharging ||| condLowCharge, condIf condCharging c.charging ||| condIf condLowCharge c.lowCharge⟩] s

/-- The due evaluation ends in a safety timer's timeout (R151). -/
def timesOut (s : State) : Bool :=
  let e := ((chargeReady s).evaluated s.thermal.tier).1
  (chargeReady s).state ≠ .fault && (e.reason = .prechargeTimeout || e.reason = .chargeTimeout)

/-! ### The directives -/

/-- SET INPUT LIMIT, taken from the record link (R155); its 16 bits are read unsigned (LOG 48). -/
def onSetInputLimit (tag : Byte) (params : Bytes) : State → State :=
  directive 80 (some 2) tag params fun s =>
    let v := min 3000 (max 100 (uintAt params 0 2))
    answer 80 tag .ok [] (s.mapCharge fun c => { c with ilimHost := v, ilimEff := c.ilimEff.map (min v) })

/-- SET_INPUT_LIMIT (R155). -/
def execSetInputLimit (dt : Nat) (tag : Byte) (params : Bytes) (s : State) : Host.Outcome State Fault Refusal :=
  act dt (onSetInputLimit tag params) s

/-- SET CHARGE REQUEST, taken from the record link (R156); its 16 bits are read unsigned (LOG 48). -/
def onSetChargeRequest (tag : Byte) (params : Bytes) : State → State :=
  directive 81 (some 2) tag params fun s =>
    answer 81 tag .ok [] (s.mapCharge fun c => { c with request := min 3000 (uintAt params 0 2) })

/-- SET_CHARGE_REQUEST (R156). -/
def execSetChargeRequest (dt : Nat) (tag : Byte) (params : Bytes) (s : State) : Host.Outcome State Fault Refusal :=
  act dt (onSetChargeRequest tag params) s

/-- CHARGE RESTART, taken from the record link (R157); its report carries the VBAT of the latest update (LOG 49). A cleared
overvoltage is remembered for the next evaluation (LOG 47). -/
def onChargeRestart (tag : Byte) (params : Bytes) : State → State :=
  directive 82 (some 0) tag params fun s =>
    if s.charge.state = .fault then
      let c := { s.charge with state := .standby, reason := .none, preTimer := 0, chargeTimer := 0,
                               restarted := decide (s.charge.reason = .overvoltage) }
      reportCharge s.charge c ((answer 82 tag .ok [] s).mapCharge fun _ => c)
    else answer 82 tag .state [] s

/-- CHARGE_RESTART (R157). -/
def execChargeRestart (dt : Nat) (tag : Byte) (params : Bytes) (s : State) : Host.Outcome State Fault Refusal :=
  act dt (onChargeRestart tag params) s

/-- SET GAUGE, taken from the record link (R159). -/
def onSetGauge (tag : Byte) (params : Bytes) : State → State :=
  directive 83 (some 1) tag params fun s =>
    let p := uintAt params 0 1
    if 100 < p then answer 83 tag .range [] s
    else answer 83 tag .ok [] (s.mapCharge fun c => { c with cq := c.tab.capacityUnits * p / 100, known := true })

/-- SET_GAUGE (R159). -/
def execSetGauge (dt : Nat) (tag : Byte) (params : Bytes) (s : State) : Host.Outcome State Fault Refusal :=
  act dt (onSetGauge tag params) s

/-- The data of READ POWER's answer (R162, LOG 28). -/
def powerData (s : State) : Bytes :=
  let c := s.charge
  let m := c.meas
  le 2 m.vin ++ le 2 m.iin ++ le 2 m.vbat ++ leInt 2 m.ibat ++ leInt 2 m.batTemp ++ leInt 2 m.dieTemp ++
    markByte c.vin ++ le 1 (bandCode c.band) ++ le 1 c.state.code ++ le 1 c.reason.code ++ le 2 c.setpoint ++
    le 2 c.request ++ le 2 (c.ilimEff.getD 0) ++ le 2 c.ilimHost ++ le 4 c.preTimer ++ le 4 c.chargeTimer ++
    le 1 c.termCount ++ markByte c.known ++ le 1 (if c.known then c.percent else 0) ++
    le 4 (if c.known then c.cq else 0) ++ le 1 s.thermal.tier.code ++ le 1 s.thermal.supply.code

/-- READ POWER, taken from the record link (R162). -/
def onReadPower (tag : Byte) (params : Bytes) : State → State :=
  directive 84 (some 0) tag params fun s => answer 84 tag .ok (powerData s) s

/-- READ_POWER (R162). -/
def execReadPower (dt : Nat) (tag : Byte) (params : Bytes) (s : State) : Host.Outcome State Fault Refusal :=
  act dt (onReadPower tag params) s

end Sys2Proof.Machine
end

