-- ==== Sys2Proof/Machine/Power.lean ====
section
/-! DEFINITION. The power monitor's updates, the die tier and the supply state (chapters 8 and 9): POWER_UPDATE,
CHARGE_EVALUATION, SAFETY_TIMER_TIMEOUT. -/

namespace Sys2Proof.Machine

/-! ### VIN presence (R144) -/

/-- VIN presence after a reading. -/
def vinPresent (old : Bool) (vin : Nat) : Bool :=
  if 4300 ≤ vin then true else if vin < 4100 then false else old

/-- VIN presence is judged; a change sets ILIM_eff, is reported with the limit after it, absent at a departure (LOG 45), and
moves VIN_PRESENT; what that starts is done before the next change. -/
def judgeVin (s : State) : State :=
  let p := vinPresent s.charge.vin s.charge.meas.vin
  if p = s.charge.vin then s
  else
    let e := if p then some s.charge.ilimHost else none
    settle (setLevel condVinPresent p
      (report (.inputChanged p s.charge.meas.vin e) (s.mapCharge fun c => { c with vin := p, ilimEff := e })))

/-! ### Tiers (R164 to R166) -/

/-- The tier of a number. -/
def Tier.ofNumber : Nat → Tier
  | 0 => .clear
  | 1 => .derate
  | 2 => .limit
  | _ => .cutoff

/-- U: the tiers whose rising threshold D has reached. -/
def ThermalTab.risen (t : ThermalTab) (d : Int) : Nat :=
  (if t.riseDerate ≤ d then 1 else 0) + (if t.riseLimit ≤ d then 1 else 0) + (if t.riseCutoff ≤ d then 1 else 0)

/-- The falling threshold of tier `k` is met; tier 0 is always met. -/
def ThermalTab.holds (t : ThermalTab) (d : Int) : Nat → Bool
  | 0 => true
  | 1 => t.fallDerate ≤ d
  | 2 => t.fallLimit ≤ d
  | _ => t.fallCutoff ≤ d

/-- The highest tier from 0 up to `k` that D still meets. -/
def ThermalTab.kept (t : ThermalTab) (d : Int) : Nat → Nat
  | 0 => 0
  | k + 1 => if t.holds d (k + 1) then k + 1 else t.kept d k

/-- The tier after an update (R164). -/
def ThermalTab.nextTier (t : ThermalTab) (old : Tier) (d : Int) : Tier :=
  if old.code < t.risen d then Tier.ofNumber (t.risen d) else Tier.ofNumber (t.kept d old.code)

/-- A tier change is reported and handed to its neighbours, and what they start is done (R165, R166, R169). The setpoint and the
emergency entry follow the tier at once, before any entry fires on the change, so that a trigger finds the writer in EMERGENCY;
the change of the conditions reaches the Trigger Unit ahead of those of the close (DESIGN CHOICE, LOG 17, LOG 64). -/
def changeTier (new : Tier) (s : State) : State :=
  let old := s.thermal.tier
  let s := report (.tier new old s.charge.meas.dieTemp) (s.mapThermal fun t => { t with tier := new })
  let s := notify ⟨condTierDerate ||| condTierLimit,
    condIf condTierDerate (1 ≤ new.code) ||| condIf condTierLimit (2 ≤ new.code)⟩ s
  let s := if 2 ≤ new.code ∧ old.code < new.code then s.mapCharge fun c => { c with setpoint := 0 } else s
  settle (if new = .cutoff then enterEmergency .thermal s else s)

def judgeTier (s : State) : State :=
  let n := s.thermal.tab.nextTier s.thermal.tier s.charge.meas.dieTemp
  if n = s.thermal.tier then s else changeTier n s

/-! ### Supply states (R167, R168) -/

/-- The supply state after an update (R167). -/
def ThermalTab.nextSupply (t : ThermalTab) (old : Supply) (v : Nat) : Supply :=
  match old with
  | .normal => if v < t.emergencyEntry then .emergency else if v < t.warnEntry then .warn else .normal
  | .warn => if v < t.emergencyEntry then .emergency else if t.warnExit ≤ v then .normal else .warn
  | .emergency =>
    if t.emergencyExit ≤ v ∧ t.warnExit ≤ v then .normal else if t.emergencyExit ≤ v then .warn else .emergency

/-- A supply change is reported and handed to its neighbours, and what they start is done (R168, R169). As at a tier change the
emergency entry comes before any entry fires (DESIGN CHOICE, LOG 17, LOG 64). -/
def changeSupply (new : Supply) (s : State) : State :=
  let old := s.thermal.supply
  let s := report (.supply new old s.charge.meas.vbat) (s.mapThermal fun t => { t with supply := new })
  let s := notify (setCond condSupplyWarn (new ≠ .normal)) s
  settle (if new = .emergency then enterEmergency .power s else s)

def judgeSupply (s : State) : State :=
  let n := s.thermal.tab.nextSupply s.thermal.supply s.charge.meas.vbat
  if n = s.thermal.supply then s else changeSupply n s

/-- The Thermal and Supply Monitor's handling of an update; either change may be handed on first, and all its effects come
before the second (R169, LOG 11). -/
def handleUpdate (supplyFirst : Bool) (s : State) : State :=
  if supplyFirst then judgeTier (judgeSupply s) else judgeSupply (judgeTier s)

/-- The handling left until after the evaluation, if any: an event of its own, taken when what came before it is done
(R143). -/
def handleDeferred (s : State) : State :=
  match s.thermal.deferred with
  | some supplyFirst => handleUpdate supplyFirst ((settle s).mapThermal fun t => { t with deferred := none })
  | none => s

/-- A waiting THERMAL & SUPPLY selection applies (R170). -/
def applyThermal (s : State) : State :=
  match s.link.waitThermal with
  | some p => (s.mapThermal fun t => { t with tab := p }).mapLink fun l => { l with waitThermal := none }
  | none => s

/-! ### The commands -/

/-- One update of the power monitor (R143): the change of VIN presence comes before the monitor's tier and supply changes of
the same update (R132, LOG 46). -/
def takeUpdate (m : Measurements) (supplyFirst monitorLast : Bool) (s : State) : State :=
  let s := applyThermal (handleDeferred s)
  let tenth := (s.charge.updates + 1) % 10 = 0
  let s := judgeVin (s.mapCharge fun c =>
    { c with meas := m, updates := c.updates + 1, evalDue := c.evalDue || decide tenth })
  if tenth ∧ monitorLast then s.mapThermal fun t => { t with deferred := some supplyFirst }
  else handleUpdate supplyFirst s

/-- POWER_UPDATE (R143, LOG 11). -/
def execPowerUpdate (dt : Nat) (m : Measurements) (supplyFirst monitorLast : Bool) (s : State) :
    Host.Outcome State Fault Refusal :=
  act dt (takeUpdate m supplyFirst monitorLast) s

/-- CHARGE_EVALUATION: the evaluation that is due (R143, R146). -/
def execChargeEvaluation (dt : Nat) (s : State) : Host.Outcome State Fault Refusal :=
  act dt (fun s => if s.charge.evalDue then handleDeferred (evaluate s) else s) s

/-- SAFETY_TIMER_TIMEOUT: the due evaluation, when it ends in a timeout (R150, R151, LOG 10). -/
def execSafetyTimerTimeout (dt : Nat) (s : State) : Host.Outcome State Fault Refusal :=
  act dt (fun s => if s.charge.evalDue && timesOut s then handleDeferred (evaluate s) else s) s

end Sys2Proof.Machine
end

