-- ==== Sys2Proof/Machine/Status.lean ====
section
/-! DEFINITION. What READ STATUS and READ COUNTERS return (R183, R184; the widths: LOG 28). -/

namespace Sys2Proof.Machine

/-! ### The link (R183) -/

/-- A selection of table `t` waits. -/
def Link.waits (l : Link) : Nat → Bool
  | 0 => l.waitImu.isSome
  | 1 => l.waitLens.isSome
  | 2 => l.waitSmoothing.isSome
  | 6 => l.waitCharge.isSome
  | 7 => l.waitThermal.isSome
  | _ => false

/-- The loaded page of table `t` is active (R179), which while a selection waits need not be the page in force. -/
def Link.loadedActive (l : Link) (t : Nat) : Bool := l.active.getD t false

/-- The link's items. The page of a table is its active page, not the page in force, where a selection waits and the two differ:
R183 and R179 name the first, R172 the second for THERMAL & SUPPLY (DESIGN CHOICE, LOG 65). -/
def linkPart (s : State) : Bytes :=
  let l := s.link
  markByte l.awake ++ le 1 l.answers.length ++ le 1 l.reports.length ++ le 4 l.lost ++ markByte l.held.isSome ++
    markByte s.motion.wake ++ (List.range 8).flatMap fun t => markByte (l.loadedActive t) ++ markByte (l.waits t)

/-! ### Requested and effective values (R183) -/

/-- The pairs. The effective mode is the one held since the last frame start (R36), also where what forced it has ended since
(DESIGN CHOICE, LOG 73). -/
def pairsPart (s : State) : Bytes :=
  le 1 s.filter.reqMode.code ++ le 1 s.filter.effMode.code ++ optLe 1 (s.frame.geometry.map Geometry.slew) ++
    le 1 s.frame.lastSlew ++ le 2 s.charge.request ++ le 2 s.charge.setpoint ++ le 2 s.charge.ilimHost ++
    le 2 (s.charge.ilimEff.getD 0)

/-! ### The blocks -/

/-- Motion status and bias (R13). -/
def motionPart (s : State) : Bytes :=
  le 1 s.motion.status.code ++ leInt 2 s.motion.bias.yaw ++ leInt 2 s.motion.bias.pitch ++ leInt 2 s.motion.bias.roll

/-- Profile, angles, smoothed angles (R39), and last, in 1 byte, the entry count of the Angle History, which Table 2-1 has
returned and no rule gives a place (DESIGN CHOICE, LOG 68). -/
def filterPart (s : State) : Bytes :=
  let f := s.filter
  le 1 f.profile ++ le 4 f.yaw ++ le 4 f.pitch ++ le 4 f.roll ++ le 4 f.smoothYaw ++ le 4 f.smoothPitch ++
    le 1 f.history.length

/-- R51. -/
def framePart (s : State) : Bytes :=
  let f := s.frame
  let geo : Bytes := match f.geometry with
    | some g => 1#8 :: (le 2 g.wIn ++ le 2 g.hIn ++ le 2 g.wOut ++ le 2 g.hOut ++ le 1 g.nb ++ le 1 g.slew)
    | none => List.replicate 11 0#8
  geo ++ le 1 f.lens ++ le 4 f.exposure ++ markByte f.pendGeometry.isSome ++ markByte f.pendLens.isSome ++
    markByte f.pendExposure.isSome ++ le 1 f.lastSlew ++ le 1 f.lastNb ++ le 1 f.state.code ++ le 4 f.nextNumber

/-- R80. The time remaining on the stall timer is in microseconds, an optional value of 8 bytes (DEDUCED, LOG 55). -/
def intakePart (s : State) : Bytes :=
  let i := s.intake
  let clip : Bytes := match i.record with
    | some r => 1#8 :: (le 4 r.clip ++ markByte r.syncMet ++ markByte r.splitMark)
    | none => List.replicate 7 0#8
  le 4 i.buffer.length ++ le 2 i.packing.length ++ le 4 i.occupancy ++ le 4 i.freeBlocks ++ markByte i.hold ++
    markByte i.bufCause ++ markByte i.ansCause ++ clip ++ optLe 8 (i.stallEnd.map fun t => t - s.partTime)

/-- R107. The area start is sent without a presence byte: 0 at cold start, the old start after an UNMOUNT (DESIGN CHOICE,
LOG 58), and so is the next clip number, which shows as 0 where there is none (DESIGN CHOICE, LOG 62). One past 4,294,967,295
(R97) shows the low 32 bits, 0 (LOG 51). -/
def storePart (s : State) : Bytes :=
  let t := s.store
  le 1 t.state.code ++ le 1 t.writer.code ++ le 4 t.areaStart ++ le 2 t.count ++ le 4 t.generation ++
    le 2 t.free.length ++ le 2 t.badCount ++ le 2 t.index.length ++ le 4 t.nextClip ++ le 2 t.lockedExtents ++
    le 2 t.quota ++ le 2 t.quotaEff ++ optLe 4 (t.openClip.map Clip.number)

/-- R130. -/
def cardPart (s : State) : Bytes :=
  let c := s.card
  let op : Bytes := match c.op with
    | some o => 1#8 :: (le 1 o.cls ++ le 1 o.kind.code ++ le 4 o.addr ++ le 4 o.count)
    | none => List.replicate 11 0#8
  let claims := pendingClasses s
  le 1 c.state.code ++ le 1 c.fails ++ op ++ le 1 claims.length ++ claims.flatMap (le 1) ++ le 1 c.updates.length ++
    markByte c.slot.isSome

/-- Conditions, last values, page in force (R142). The sixteen conditions are sent as one condition mask, the eight last values
as eight marks (DESIGN CHOICE, LOG 63). -/
def trigPart (s : State) : Bytes :=
  le 2 s.trig.conds.toNat ++ s.trig.last.flatMap markByte ++ markByte (s.link.loadedActive 5)

/-- Tier, supply state, die temperature, VBAT (R172). -/
def thermalPart (s : State) : Bytes :=
  le 1 s.thermal.tier.code ++ le 1 s.thermal.supply.code ++ leInt 2 s.charge.meas.dieTemp ++ le 2 s.charge.meas.vbat

/-- The data of READ STATUS's answer (R183). -/
def statusData (s : State) : Bytes :=
  linkPart s ++ pairsPart s ++ motionPart s ++ filterPart s ++ framePart s ++ intakePart s ++ storePart s ++ cardPart s ++
    trigPart s ++ thermalPart s ++ le 8 s.partTime

/-- The nineteen counters in the order of Table 10-6. -/
def Counters.toList (c : Counters) : List Nat :=
  [c.framesOut, c.unconfigured, c.shortFrames, c.longFrames, c.paddedLines, c.bandClamps, c.historyClamps, c.ringMisses,
    c.samplesLost, c.shocks, c.shocksAsleep, c.packetsDiscarded, c.packetsDropped, c.malformed, c.directivesDiscarded,
    c.cardErrors, c.cardRetries, c.emergencyCloses, c.reclaimedClips]

/-- The data of READ COUNTERS's answer (R184). -/
def counterData (s : State) : Bytes := s.counters.toList.flatMap (le 4)

end Sys2Proof.Machine
end

