-- ==== Sys2Proof/Machine/LinkOps.lean ====
section
/-! DEFINITION. The Link Controller's and the Table Store's commands, and the supply (chapter 10, R171): LINK_RESET,
RSTIN_ASSERTION, SLEEP, READ_STATUS, READ_COUNTERS, CLEAR_COUNTERS, WRITE_ENTRY, READ_ENTRY, SELECT_PAGE, COLD_START,
BROWN_OUT. -/

namespace Sys2Proof.Machine

/-! ### Supply (R171, R187) -/

/-- COLD_START: every block takes its cold-start values (R187); the commands that wait stay (LOG 7). -/
def execColdStart (cardDet : Bool) (s : State) : Host.Outcome State Fault Refusal :=
  .next (State.cold s.pending cardDet)

/-- BROWN_OUT: the part stops and its state is lost (R171, LOG 35). -/
def execBrownOut (_dt : Nat) (s : State) : Host.Outcome State Fault Refusal :=
  .next { State.cold s.pending false with powered := false }

/-! ### Link reset (R186) -/

/-- Steps 1 and 2: the queues are emptied and the link is AWAKE. -/
def clearLink (l : Link) : Link :=
  { l with awake := true, drain := false, answers := [], held := none, reports := [], lost := 0 }

/-- A link reset: the link's own steps, then each block's reset work (R186, step 3). The Frame Path's comes first, so that the
answer `f` of a LINK RESET finds the room open and leaves ahead of any report of the reset work (R186, step 4);
the Motion Front-End's comes before the Clip Store's (DESIGN CHOICE, LOG 74). -/
def linkReset (f : State → State) (s : State) : State :=
  let s := recenterNow (motionReset (f (frameReset (s.mapLink clearLink))))
  judgeHold (stopRecording .reset (clearReceive (s.mapCard fun c => { c with slot := none })))

/-- RSTIN_ASSERTION (R186). -/
def execRstinAssertion (dt : Nat) (s : State) : Host.Outcome State Fault Refusal :=
  act dt (linkReset id) s

/-- LINK RESET, taken from the record link: performed whatever the Answer Queue holds (R175, R186, LOG 31). -/
def onLinkReset (tag : Byte) (params : Bytes) (s : State) : State :=
  if s.link.awake && params.isEmpty then linkReset (answer 1 tag .ok []) s
  else directive 1 (some 0) tag params id s

/-- LINK_RESET (R186). -/
def execLinkReset (dt : Nat) (tag : Byte) (params : Bytes) (s : State) : Host.Outcome State Fault Refusal :=
  act dt (onLinkReset tag params) s

/-! ### Sleep (R185) -/

/-- The sleep work of an accepted SLEEP, its answer in the queue (R17, R63, R185): the Motion Front-End's before the Frame
Path's (DESIGN CHOICE, LOG 74). -/
def goAsleep (watch : Bool) (s : State) : State :=
  frameSleep (motionSleep watch (s.mapLink fun l => { l with awake := false, drain := true }))

/-- SLEEP, taken from the record link (R185). -/
def onSleep (tag : Byte) (params : Bytes) : State → State :=
  directive 2 (some 1) tag params fun s =>
    let flag := uintAt params 0 1
    if 1 < flag then answer 2 tag .range [] s
    else if s.store.writer ≠ .idle then answer 2 tag .state [] s
    else goAsleep (flag = 1) (answer 2 tag .ok [] s)

/-- SLEEP (R185). -/
def execSleep (dt : Nat) (tag : Byte) (params : Bytes) (s : State) : Host.Outcome State Fault Refusal :=
  act dt (onSleep tag params) s

/-! ### Status and counters (R183, R184) -/

/-- READ STATUS, taken from the record link (R183); the Answer Queue's length is the one before this answer joins it
(LOG 54). -/
def onReadStatus (tag : Byte) (params : Bytes) : State → State :=
  directive 3 (some 0) tag params fun s => answer 3 tag .ok (statusData s) s

/-- READ_STATUS (R183). -/
def execReadStatus (dt : Nat) (tag : Byte) (params : Bytes) (s : State) : Host.Outcome State Fault Refusal :=
  act dt (onReadStatus tag params) s

/-- READ COUNTERS, taken from the record link (R184). -/
def onReadCounters (tag : Byte) (params : Bytes) : State → State :=
  directive 4 (some 0) tag params fun s => answer 4 tag .ok (counterData s) s

/-- READ_COUNTERS (R184). -/
def execReadCounters (dt : Nat) (tag : Byte) (params : Bytes) (s : State) : Host.Outcome State Fault Refusal :=
  act dt (onReadCounters tag params) s

/-- CLEAR COUNTERS, taken from the record link (R184). -/
def onClearCounters (tag : Byte) (params : Bytes) : State → State :=
  directive 5 (some 0) tag params fun s => answer 5 tag .ok [] (s.mapCounters fun _ => zeroCounters)

/-- CLEAR_COUNTERS (R184). -/
def execClearCounters (dt : Nat) (tag : Byte) (params : Bytes) (s : State) : Host.Outcome State Fault Refusal :=
  act dt (onClearCounters tag params) s

/-! ### The Table Store (R179 to R182) -/

/-- The table number and the entry index lie in their ranges (R180, R181). -/
def entryExists (t i : Nat) : Bool := decide (t ≤ 7) && decide (i < entryCount t)

/-- WRITE ENTRY, taken from the record link (R180; a field without table and index: LOG 30). -/
def onWriteEntry (tag : Byte) (params : Bytes) : State → State :=
  directive 16 none tag params fun s =>
    let t := uintAt params 0 1
    let i := uintAt params 1 1
    if params.length < 2 then answer 16 tag .malformed [] (countMalformed s)
    else if !entryExists t i then answer 16 tag .range [] s
    else if params.length ≠ 2 + entryLength t then answer 16 tag .malformed [] (countMalformed s)
    else if s.link.loadedActive t then answer 16 tag .inUse [] s
    else match s.link.loaded.writeEntry t i (params.drop 2) with
      | some p => answer 16 tag .ok [] (s.mapLink fun l => { l with loaded := p })
      | none => answer 16 tag .range [] s

/-- WRITE_ENTRY (R180). -/
def execWriteEntry (dt : Nat) (tag : Byte) (params : Bytes) (s : State) : Host.Outcome State Fault Refusal :=
  act dt (onWriteEntry tag params) s

/-- The pages of a page value: 0 FIXED, 1 LOADED. -/
def Link.pages (l : Link) (page : Nat) : Pages := if page = 0 then fixedPages else l.loaded

/-- READ ENTRY, taken from the record link (R181). -/
def onReadEntry (tag : Byte) (params : Bytes) : State → State :=
  directive 17 (some 3) tag params fun s =>
    let t := uintAt params 0 1
    let page := uintAt params 1 1
    let i := uintAt params 2 1
    if !entryExists t i || decide (1 < page) then answer 17 tag .range [] s
    else answer 17 tag .ok ((s.link.pages page).readEntry t i) s

/-- READ_ENTRY (R181). -/
def execReadEntry (dt : Nat) (tag : Byte) (params : Bytes) (s : State) : Host.Outcome State Fault Refusal :=
  act dt (onReadEntry tag params) s

/-- A selection of STORE takes effect (R79, R111, R129). -/
def selectStore (t : StoreTab) (s : State) : State :=
  let s := s.mapStore fun st => { st with tab := t, quota := quotaOf st.count t.quotaPercent }
  judgeStore (judgeHold (s.mapStore fun st => { st with quotaEff := max st.quota st.lockedExtents }))

/-- The values of table `t` of a selected page are captured for the owning block, and applied where the table applies at
once (Table 10-5). -/
def capture (p : Pages) (t : Nat) (s : State) : State :=
  match t with
  | 0 => selectImu p.imu s
  | 1 => s.mapLink fun l => { l with waitLens := some p.lens }
  | 2 => s.mapLink fun l => { l with waitSmoothing := some p.smoothing }
  | 3 => s.mapMotion fun m => { m with limits := p.limits }
  | 4 => selectStore p.store s
  | 5 => rePrime (s.mapTrig fun u => { u with entries := p.triggers })
  | 6 => s.mapLink fun l => { l with waitCharge := some p.charge }
  | _ => s.mapLink fun l => { l with waitThermal := some p.thermal }

/-- SELECT PAGE, taken from the record link (R182). -/
def onSelectPage (tag : Byte) (params : Bytes) : State → State :=
  directive 18 (some 2) tag params fun s =>
    let t := uintAt params 0 1
    let page := uintAt params 1 1
    if 7 < t ∨ 1 < page then answer 18 tag .range [] s
    else if s.link.loadedActive t = decide (page = 1) then answer 18 tag .ok [] s
    else if page = 1 ∧ s.link.loaded.consistent t = false then answer 18 tag .inconsistent [] s
    else
      let s := answer 18 tag .ok [] (s.mapLink fun l => { l with active := l.active.set t (page = 1) })
      capture (s.link.pages page) t s

/-- SELECT_PAGE (R182). -/
def execSelectPage (dt : Nat) (tag : Byte) (params : Bytes) (s : State) : Host.Outcome State Fault Refusal :=
  act dt (onSelectPage tag params) s

end Sys2Proof.Machine
end

