-- ==== Sys2Proof/Machine/Packets.lean ====
section
/-! DEFINITION. Record link packets by their bytes (R64 to R66, R175): MALFORMED_PACKET, UNKNOWN_DIRECTIVE. A packet that
a sender put under the wrong row is taken as what its bytes are (LOG 5). -/

namespace Sys2Proof.Machine

/-- Whether a directive code is in Table 11-4. -/
def knownCode (code : Nat) : Bool :=
  within code 1 5 || within code 16 18 || code == 32 || within code 48 52 || within code 64 75 || within code 80 84

/-- A directive of unknown code (R175, step 3). -/
def onUnknown (code : Byte) (tag : Byte) (params : Bytes) : State → State :=
  directive code.toNat none tag params fun s => answer code.toNat tag .unknown [] s

/-- A directive by its code (Table 11-4). -/
def routeDirective (code : Byte) (tag : Byte) (params : Bytes) : State → State :=
  match code.toNat with
  | 1 => onLinkReset tag params
  | 2 => onSleep tag params
  | 3 => onReadStatus tag params
  | 4 => onReadCounters tag params
  | 5 => onClearCounters tag params
  | 16 => onWriteEntry tag params
  | 17 => onReadEntry tag params
  | 18 => onSelectPage tag params
  | 32 => onCalibrate tag params
  | 48 => onSetMode tag params
  | 49 => onRecenter tag params
  | 50 => onSetGeometry tag params
  | 51 => onSetLens tag params
  | 52 => onSetExposure tag params
  | 64 => onMount tag params
  | 65 => onUnmount tag params
  | 66 => onStartRecording tag params
  | 67 => onStopRecording tag params
  | 68 => onMark tag params
  | 69 => onLockClip tag params
  | 70 => onUnlockClip tag params
  | 71 => onDeleteClip tag params
  | 72 => onReadIndex tag params
  | 73 => onReadClip tag params
  | 74 => onCardRead tag params
  | 75 => onCardWrite tag params
  | 80 => onSetInputLimit tag params
  | 81 => onSetChargeRequest tag params
  | 82 => onChargeRestart tag params
  | 83 => onSetGauge tag params
  | 84 => onReadPower tag params
  | _ => onUnknown code tag params

/-- A packet malformed by its header (R64); a DIRECTIVE whose tag can be read is answered MALFORMED (R66). -/
def malformedHeader (bytes : Bytes) (s : State) : State :=
  let s := countMalformed s
  match bytes with
  | kind :: _ :: _ :: tag :: rest =>
    if kind = 2#8 then answerMalformedPacket tag (rest.headD 0#8) s else s
  | _ => s

/-- A CLIP packet's body (R65). -/
def receiveClip (body : Bytes) (s : State) : State :=
  match body with
  | stream :: flags :: rest =>
    if rest.length < 8 then countMalformed s
    else if stream = 1#8 then takeClipPacket .video flags (fromLe (rest.take 8)) (rest.drop 8) s
    else if stream = 2#8 then takeClipPacket .audio flags (fromLe (rest.take 8)) (rest.drop 8) s
    else countMalformed s
  | _ => countMalformed s

/-- A DIRECTIVE packet's body (R66, R175, steps 1 and 2). -/
def receiveDirective (body : Bytes) (s : State) : State :=
  match body with
  | [] => if queueFull s then countDiscarded s else countMalformed s
  | [tag] => if queueFull s then countDiscarded s else answer 0 tag .malformed [] (countMalformed s)
  | tag :: code :: params => routeDirective code tag params s

/-- A record link packet as the bytes it delivered, taken at its end (R64). -/
def receivePacket (bytes : Bytes) (s : State) : State :=
  let s := clearReceive s
  match bytes with
  | kind :: l0 :: l1 :: body =>
    if kind ≠ 1#8 ∧ kind ≠ 2#8 then countMalformed s
    else if l0.toNat + 256 * l1.toNat ≠ body.length then malformedHeader bytes s
    else if kind = 1#8 then receiveClip body s
    else receiveDirective body s
  | _ => countMalformed s

/-- MALFORMED_PACKET (R64). -/
def execMalformedPacket (dt : Nat) (bytes : Bytes) (s : State) : Host.Outcome State Fault Refusal :=
  act dt (fun s => if s.link.awake then receivePacket bytes s else s) s

/-- UNKNOWN_DIRECTIVE (R175). -/
def execUnknownDirective (dt : Nat) (tag code : Byte) (params : Bytes) (s : State) : Host.Outcome State Fault Refusal :=
  act dt (routeDirective code tag params) s

end Sys2Proof.Machine
end

