-- ==== Sys2Proof/Machine/Dispatch.lean ====
section
/-! DEFINITION. One arm per command: a direct call of its meaning. -/

namespace Sys2Proof.Machine

def exec (i : Instr) (s : State) : Host.Outcome State Fault Refusal :=
  match i with
  | .coldStart c => Sys2Proof.Machine.execColdStart c s
  | .brownOut dt => Sys2Proof.Machine.execBrownOut dt s
  | .rstinAssertion dt => Sys2Proof.Machine.execRstinAssertion dt s
  | .imuDrdyEdge dt => Sys2Proof.Machine.execImuDrdyEdge dt s
  | .sampleTaken dt r => Sys2Proof.Machine.execSampleTaken dt r s
  | .motionLost dt => Sys2Proof.Machine.execMotionLost dt s
  | .identityCheck dt ident => Sys2Proof.Machine.execIdentityCheck dt ident s
  | .frameStartMarker dt n => Sys2Proof.Machine.execFrameStartMarker dt n s
  | .sensorLine dt px => Sys2Proof.Machine.execSensorLine dt px s
  | .frameEndMarker dt => Sys2Proof.Machine.execFrameEndMarker dt s
  | .sideSlot dt => Sys2Proof.Machine.execSideSlot dt s
  | .clipPacket dt st fl pts pl => Sys2Proof.Machine.execClipPacket dt st fl pts pl s
  | .malformedPacket dt bs => Sys2Proof.Machine.execMalformedPacket dt bs s
  | .unknownDirective dt tag code p => Sys2Proof.Machine.execUnknownDirective dt tag code p s
  | .linkReset dt tag p => Sys2Proof.Machine.execLinkReset dt tag p s
  | .sleep dt tag p => Sys2Proof.Machine.execSleep dt tag p s
  | .readStatus dt tag p => Sys2Proof.Machine.execReadStatus dt tag p s
  | .readCounters dt tag p => Sys2Proof.Machine.execReadCounters dt tag p s
  | .clearCounters dt tag p => Sys2Proof.Machine.execClearCounters dt tag p s
  | .writeEntry dt tag p => Sys2Proof.Machine.execWriteEntry dt tag p s
  | .readEntry dt tag p => Sys2Proof.Machine.execReadEntry dt tag p s
  | .selectPage dt tag p => Sys2Proof.Machine.execSelectPage dt tag p s
  | .calibrate dt tag p => Sys2Proof.Machine.execCalibrate dt tag p s
  | .setMode dt tag p => Sys2Proof.Machine.execSetMode dt tag p s
  | .recenter dt tag p => Sys2Proof.Machine.execRecenter dt tag p s
  | .setGeometry dt tag p => Sys2Proof.Machine.execSetGeometry dt tag p s
  | .setLens dt tag p => Sys2Proof.Machine.execSetLens dt tag p s
  | .setExposure dt tag p => Sys2Proof.Machine.execSetExposure dt tag p s
  | .mount dt tag p => Sys2Proof.Machine.execMount dt tag p s
  | .unmount dt tag p => Sys2Proof.Machine.execUnmount dt tag p s
  | .startRecording dt tag p => Sys2Proof.Machine.execStartRecording dt tag p s
  | .stopRecording dt tag p => Sys2Proof.Machine.execStopRecording dt tag p s
  | .mark dt tag p => Sys2Proof.Machine.execMark dt tag p s
  | .lockClip dt tag p => Sys2Proof.Machine.execLockClip dt tag p s
  | .unlockClip dt tag p => Sys2Proof.Machine.execUnlockClip dt tag p s
  | .deleteClip dt tag p => Sys2Proof.Machine.execDeleteClip dt tag p s
  | .readIndex dt tag p => Sys2Proof.Machine.execReadIndex dt tag p s
  | .readClip dt tag p => Sys2Proof.Machine.execReadClip dt tag p s
  | .cardRead dt tag p => Sys2Proof.Machine.execCardRead dt tag p s
  | .cardWrite dt tag p => Sys2Proof.Machine.execCardWrite dt tag p s
  | .setInputLimit dt tag p => Sys2Proof.Machine.execSetInputLimit dt tag p s
  | .setChargeRequest dt tag p => Sys2Proof.Machine.execSetChargeRequest dt tag p s
  | .chargeRestart dt tag p => Sys2Proof.Machine.execChargeRestart dt tag p s
  | .setGauge dt tag p => Sys2Proof.Machine.execSetGauge dt tag p s
  | .readPower dt tag p => Sys2Proof.Machine.execReadPower dt tag p s
  | .stallTimerExpiry dt => Sys2Proof.Machine.execStallTimerExpiry dt s
  | .cardOpCompletion dt ok d => Sys2Proof.Machine.execCardOpCompletion dt ok d s
  | .cardTimeout dt => Sys2Proof.Machine.execCardTimeout dt s
  | .cardInsertion dt => Sys2Proof.Machine.execCardInsertion dt s
  | .cardRemoval dt => Sys2Proof.Machine.execCardRemoval dt s
  | .powerUpdate dt m a b => Sys2Proof.Machine.execPowerUpdate dt m a b s
  | .chargeEvaluation dt => Sys2Proof.Machine.execChargeEvaluation dt s
  | .safetyTimerTimeout dt => Sys2Proof.Machine.execSafetyTimerTimeout dt s

end Sys2Proof.Machine
end

