-- ==== Sys2Proof/Safety.lean ====
section
/-! DEFINITION. The words statements about runs use: when the part is at rest, when a directive finds the link ready, and
the properties that the manual says hold of every state. -/

namespace Sys2Proof.Machine

/-! ### Situations -/

/-- Nothing a command has started is left to do: no change waits, the store and the card have no work due, HOLD is as its
causes are judged, and no packet waits in an open room. -/
def AtRest (s : State) : Prop := settleStep s = none ∧ judgeHold s = s ∧ departed s = true

/-- A directive is received and answered at once: the part is powered, the link AWAKE, no packet is half received, and the
Answer Queue has room for the answer without asserting HOLD. -/
def LinkReady (s : State) : Prop :=
  s.powered = true ∧ s.link.awake = true ∧ s.intake.receive = [] ∧ s.link.answers.length + 1 < Config.answerLimit

/-- The part is powered and at rest, and a directive is received and answered at once. -/
def Ready (s : State) : Prop := LinkReady s ∧ AtRest s

/-- An answer leaves the part at once in an open room (R60), and joins the Answer Queue's tail otherwise (R176). -/
def sent (a : Answer) (s : State) : State :=
  if atOnce s then s.emit (.packet a.encode) else s.mapLink fun l => { l with answers := l.answers ++ [a] }

/-- `dt` µs pass in `s`, and the directive `code` of `tag` is answered `ac` with `data`; nothing else changes. -/
def answered (dt code : Nat) (tag : Byte) (ac : AnswerCode) (data : Bytes) (s : State) : State :=
  sent ⟨tag, BitVec.ofNat 8 code, ac, data⟩ (s.tick dt)

/-- A report leaves the part at once in an open room (R60), and joins a Report Queue that has room otherwise (R177). -/
def reported (p : Payload) (s : State) : State :=
  if atOnce s then s.emit (.packet (Report.encode ⟨s.partTime, p⟩))
  else s.mapLink fun l => { l with reports := l.reports ++ [⟨s.partTime, p⟩] }

/-- STORE_LOW and LOCK_NEAR are as the store's state gives them (R95, R102). -/
def StoreJudged (s : State) : Prop := s.store.storeLow = storeLowNow s ∧ s.store.lockNear = lockNearNow s

/-- The writer is IDLE and has nothing to write: every record is CLOSED and nothing is buffered. -/
def NoRecording (s : State) : Prop :=
  s.store.writer = .idle ∧ (∀ c ∈ s.store.index, c.state = .closed) ∧ s.intake.buffer = [] ∧ s.intake.packing = [] ∧
    s.store.retry = none

/-- The writer is RECORDING into the OPEN clip `c`, the newest of the index: some of its blocks are written, its extent takes
data, only its blocks are buffered, and the card is taken or absent, so that no claim starts. -/
def RecordingInto (before : List Clip) (c : Clip) (s : State) : Prop :=
  s.store.state = .ready ∧ s.store.writer = .recording ∧ s.store.index = before ++ [c] ∧
    (∀ d ∈ before, d.state = .closed ∧ d.number ≠ c.number) ∧ c.state = .opened ∧ 0 < c.dataBlocks ∧ c.phase = .writing ∧
    (∀ b ∈ s.intake.buffer, b.clip = c.number) ∧ s.card.state ≠ .idle ∧ StoreJudged s

/-- The passthrough operation `o` is in flight for the directive `p`, and no other work waits at the card. -/
def PassInFlight (o : CardOp) (p : Pass) (s : State) : Prop :=
  s.card.state = .busy ∧ s.card.op = some o ∧ o.source = .pass ∧ s.card.slot = some p ∧ p.progress = .inFlight ∧
    p.kind = o.kind ∧ s.card.updates = [] ∧ s.store.scan = none ∧ NoRecording s

/-- No trigger entry watches the condition `c`, which is false. -/
def Unwatched (c : BitVec 16) (s : State) : Prop :=
  s.trig.conds &&& c = 0#16 ∧ ∀ e ∈ s.trig.entries, e.mask &&& c = 0#16

/-- No enabled trigger entry watches a condition of `c`. -/
def Quiet (c : BitVec 16) (s : State) : Prop := ∀ e ∈ s.trig.entries, e.enabled = true → e.mask &&& c = 0#16

/-- What a link reset leaves (R8, R28, R43, R62, R81, R99, R128, R186): of what waited nothing is sent; the new session opens
with the answers `answers` and then reports that the reset itself has issued, and nothing is left waiting. -/
def LinkResetDone (dt : Nat) (answers : List Answer) (s t : State) : Prop :=
  t.partTime = s.partTime + dt ∧ t.link.awake = true ∧ t.link.drain = false ∧ t.link.answers = [] ∧
    t.link.reports = [] ∧ t.link.lost = 0 ∧
    (∃ own : List Report, (∀ r ∈ own, r.time = s.partTime + dt) ∧
      t.captureOut = answers.map (fun a => .packet a.encode) ++ own.map fun r => .packet r.encode) ∧
    t.link.held = none ∧ t.link.loaded = s.link.loaded ∧ t.link.active = s.link.active ∧
    t.motion =
      { s.motion with
        status := statusInCheck (if s.motion.cal = none then s.motion.status else .running), expected := none,
        lastStamp := none, reading := none, wake := false,
        watchCount := 0, checking := true, cal := none, freefallRun := none, stillRun := none, freefall := false,
        still := false } ∧
    t.filter = { s.filter with smoothYaw := s.filter.yaw, smoothPitch := s.filter.pitch, history := [] } ∧
    t.frame = { s.frame with state := .idle, record := none, ring := [], nextNumber := 0, trailer := none } ∧
    t.intake.receive = [] ∧ t.store.writer ≠ .recording ∧ t.card.slot = none ∧ t.charge = s.charge ∧
    t.thermal = s.thermal ∧ t.counters.framesOut = s.counters.framesOut ∧ t.counters.shortFrames = s.counters.shortFrames

/-- The report of payload `p`, issued at the part time of `t`, waits in `t` or has left during the command. -/
def Issued (p : Payload) (t : State) : Prop :=
  ⟨t.partTime, p⟩ ∈ t.link.reports ∨ .packet (Report.encode ⟨t.partTime, p⟩) ∈ t.captureOut

/-- The reports of payloads `ps`, issued in this order at the part time of `t`, wait in `t` or have left during the
command. -/
def IssuedInOrder (ps : List Payload) (t : State) : Prop :=
  (ps.map fun p => (⟨t.partTime, p⟩ : Report)).Sublist t.link.reports ∨
    (ps.map fun p => CaptureItem.packet (Report.encode ⟨t.partTime, p⟩)).Sublist t.captureOut

/-- The passthrough directive of `s`, in flight or pending, has been answered CARD in `t`, and the slot is free. -/
def PassAnsweredCard (s t : State) : Prop :=
  ∀ p, s.card.slot = some p → p.progress ≠ .answered → s.link.answers.length < 16 →
    let a : Answer := ⟨p.tag, if p.kind = .read then 74#8 else 75#8, .card, []⟩
    t.card.slot = none ∧ (a ∈ t.link.answers ∨ .packet a.encode ∈ t.captureOut)

/-- A record after the store's entry to FAULT: CLOSED, with the CARD flag and, unless one was set, the reason CARD (R90). -/
def closedByCard (c : Clip) : Clip :=
  if c.state = .closed then c
  else { c with state := .closed, flags := { c.flags with card := true }, reason := some (c.reason.getD .card) }

/-- The store has entered FAULT between `s` and `t` (R83, R90, R99): the writer IDLE with nothing left of its work, every
record CLOSED or, for want of a written block, removed, and, with room in the Report Queue or an open room, and STORE_LOW and LOCK_NEAR judged
before, the reports `lead`, a CLIP_CLOSED for each record that was OPEN or CLOSING, and STORE_FAULT, in this order. -/
def FaultEntered (cause : FaultCause) (lead : List Payload) (s t : State) : Prop :=
  let live := s.store.index.filter fun c => c.state ≠ .closed
  let closes := (live.map closedByCard).map fun c =>
    Payload.clipClosed c.number (c.reason.getD .card) c.flags c.extentCount c.dataBlocks c.duration (decide (c.dataBlocks = 0))
  t.store.state = .fault ∧ t.store.writer = .idle ∧ t.store.scan = none ∧ t.store.retry = none ∧ t.store.flush = none ∧
    t.card.op = none ∧ t.card.updates = [] ∧ t.intake.buffer = [] ∧ t.intake.packing = [] ∧ t.intake.record = none ∧
    t.intake.stallEnd = none ∧
    ((s.store.index.map Clip.number).Pairwise (· < ·) →
      t.store.index = (s.store.index.filter fun c => c.state = .closed ∨ 0 < c.dataBlocks).map closedByCard ∧
      ((∀ c ∈ live, 0 < c.dataBlocks) → t.store.extents = s.store.extents ∧ t.store.free = s.store.free) ∧
      (StoreJudged s → atOnce s = true ∨ s.link.reports.length + lead.length + live.length < 32 →
        IssuedInOrder (lead ++ closes ++ [.storeFault cause s.store.state]) t))

/-- The smoothed angle `new` and the correction `c` of a sample of angle `angle` in STEADY or ECO, from the smoothed angle
`old`, under the profile entry `e` and the margin angle `margin` (R23, R25, R26). -/
def Smoothed (e : SmoothEntry) (margin angle old new : Nat) (c : Int) : Prop :=
  ∃ d : Int, -11796480 ≤ d ∧ d < 11796480 ∧ ((angle : Int) - old - d) % 23592960 = 0 ∧
    (let q := if margin = 0 then 3 else min 3 (4 * d.natAbs / margin)
     let k := [e.k0, e.k1, e.k2, e.k3].getD q 0
     new = (((old : Int) + d / (2 ^ k : Nat)) % 23592960).toNat) ∧
    -11796480 ≤ c ∧ c < 11796480 ∧ ((angle : Int) - new - c) % 23592960 = 0

/-- The entry `found` that the band lookup takes from history `h`, in order of time, for the exposure centre `te`, and whether
every entry is newer (R30). -/
def LookedUp (h : List HistoryEntry) (te : Int) (found : Option HistoryEntry) (early : Bool) : Prop :=
  (h = [] ∧ found = none ∧ early = false) ∨
    (h ≠ [] ∧ (∀ x ∈ h, te < x.time) ∧ found = h.head? ∧ early = true) ∨
    ∃ older x newer, h = older ++ x :: newer ∧ (x.time : Int) ≤ te ∧ (∀ y ∈ newer, te < y.time) ∧ found = some x ∧
      early = false

/-- `q` is `x` / `d` rounded to the nearest integer, halves away from zero (00_scope.md 4.4, R31). -/
def Rounded (x : Int) (d : Nat) (q : Int) : Prop := q.natAbs = (2 * x.natAbs + d) / (2 * d) ∧ 0 ≤ q * x

/-- A lock of record `c` by a trigger LOCK, its outcome `o` and the state `t` after it, where STORE_LOW cannot change: without
effect on a locked record, FULL with LOCK_REFUSED against the quota, BUSY for want of room for the rewrite of its trailer, and
otherwise made, with the rewrite enqueued where one is needed, and LOCK_NEAR judged, whose change waits (R102 to R104, R138). -/
def LockTried (c : Clip) (s : State) (o : Outcome) (t : State) : Prop :=
  let held := s.store.lockedExtents
  let rewrite : Prop := c.state = .closed ∨ (c.state = .closing ∧ c.finalBegun = true)
  let waits : Prop := ∃ u ∈ s.card.updates, u.clip = c.number ∧ u.started = false
  (c.locked = true → o = ⟨.noEffect, .ok, c.number⟩ ∧ t = s) ∧
    (c.locked = false → s.store.quotaEff < held + c.extentCount → o = ⟨.refused, .full, c.number⟩ ∧
      t = report (.lockRefused c.number c.extentCount held s.store.quotaEff) s) ∧
    (c.locked = false → held + c.extentCount ≤ s.store.quotaEff →
      (rewrite → ¬waits → 16 ≤ s.card.updates.length → o = ⟨.refused, .busy, c.number⟩ ∧ t = s) ∧
      (¬rewrite ∨ waits ∨ s.card.updates.length < 16 → o = ⟨.done, .ok, c.number⟩ ∧
        ∃ us near, (rewrite ∧ ¬waits → us = s.card.updates ++ [⟨c.number, false, false⟩]) ∧
          (¬rewrite ∨ waits → us = s.card.updates) ∧
          (near = true ↔ 0 < s.store.quotaEff ∧ 9 * s.store.quotaEff ≤ 10 * (held + c.extentCount)) ∧
          t = ((s.mapStore fun st =>
            { st with lockNear := near,
                      index := st.index.map fun d => if d.number = c.number then { d with locked := true } else d }).mapCard
            fun k => { k with updates := us }).mapTrig fun u =>
            { u with waiting := u.waiting ++
                if near = s.store.lockNear then [] else [⟨condLockNear, if near then condLockNear else 0#16⟩] }))

/-- The full trailer of clip `c`'s last extent `e` is in flight while the clip records, no other work waits at the card, and
the blocks waiting are enough for a burst of them to be a claim: at the trailer's end an allocation is due (R94, R119). -/
def AllocationNear (before : List Clip) (c : Clip) (e : Nat) (s : State) : Prop :=
  s.powered = true ∧ AtRest s ∧ s.store.writer = .recording ∧ s.store.index = before ++ [c] ∧
    (∀ d ∈ before, d.state = .closed) ∧ c.state = .opened ∧ c.lastExtent = some e ∧ 0 < c.dataBlocks ∧
    s.intake.buffer ≠ [] ∧ (s.store.tab.urgentMark ≤ s.intake.occupancy ∨ s.store.tab.burstSize ≤ s.intake.occupancy) ∧
    s.intake.bufCause = false ∧ s.store.retry = none ∧ s.store.scan = none ∧ s.card.state = .busy ∧
    (∃ o, s.card.op = some o ∧ o.source = .writer (.fullTrailer c.number e)) ∧ s.card.updates = [] ∧
    s.card.slot = none ∧ Quiet (condStoreLow ||| condLockNear) s

/-- The writer's trailer write `w` of the contents `i` into extent `e` has just started, as one block at the trailer position,
under the class its urgency gives (R91, R116, R119, R120). -/
def TrailerStarted (w : WWrite) (e : Nat) (i : TrailerInfo) (t : State) : Prop :=
  t.card.state = .busy ∧
    t.card.op = some ⟨.writer w, if t.store.tab.urgentMark ≤ t.intake.occupancy then 2 else 6, .write,
                      t.store.areaStart + e * 16384 + 16383, 1, t.partTime, 1000 * t.store.tab.cardTimeout,
                      trailerBlock t.store.generation i⟩

/-- The valid trailer that a scan found in extent `e`. -/
def trailerIn (found : List Finding) (e : Nat) : Option TrailerInfo :=
  match found[e]? with
  | some (.valid t) => some t
  | _ => none

/-- `e` is the one candidate of clip `n` and sequence `q`, with the trailer `v` (R87, step 1). -/
def SoleCandidate (found : List Finding) (n q e : Nat) (v : TrailerInfo) : Prop :=
  trailerIn found e = some v ∧ v.clip = n ∧ v.seq = q ∧ 0 < v.data ∧
    ∀ e' v', trailerIn found e' = some v' → v'.clip = n → v'.seq = q → 0 < v'.data → e' = e

/-- Candidate trailer `v` may follow the run `l` of kept extents: the last one's trailer is not final, and `v` names it as its
previous extent (R87, step 2). -/
def MayFollow (found : List Finding) (l : List Nat) (v : TrailerInfo) : Prop :=
  ∀ p, l.getLast? = some p → v.prev = some p ∧ ∀ u, trailerIn found p = some u → u.final = false

/-- `l` is the kept chain of clip `n` (R87): a run of candidates of the sequences from 0 on, each of which may follow those
before it, that no further candidate prolongs. -/
def KeptChain (found : List Finding) (n : Nat) (l : List Nat) : Prop :=
  (∀ (q e : Nat), l[q]? = some e → ∃ v, SoleCandidate found n q e v ∧ MayFollow found (l.take q) v) ∧
    ∀ e v, SoleCandidate found n l.length e v → ¬MayFollow found l v

/-- The record of the kept chain `l` of a clip, whose highest-sequence trailer is `v` (R88). -/
def RebuiltRecord (found : List Finding) (l : List Nat) (v : TrailerInfo) (d : Clip) : Prop :=
  d.number = v.clip ∧ d.state = .closed ∧ d.locked = v.locked ∧ d.start = v.start ∧ d.duration = v.duration ∧
    d.openTime = none ∧ d.firstPts = none ∧ d.reason = none ∧ d.markers = [] ∧ d.firstExtent = l.head? ∧
    d.lastExtent = l.getLast? ∧ d.extentCount = l.length ∧
    d.dataBlocks + 1 = (l.map fun e => ((trailerIn found e).map TrailerInfo.data).getD 0).sum ∧
    ((∃ e ∈ l, ∃ u, trailerIn found e = some u ∧ u.final = true) → d.flags = v.flags) ∧
    ((∀ e ∈ l, ∀ u, trailerIn found e = some u → u.final = false) → d.flags = { v.flags with unfinished := true })

/-- The store `st` is what the findings of a scan give (R86 to R88): an extent is BAD where its read failed twice, OWNED in the
kept chain of a record, weak where it is short and a further extent follows, and FREE otherwise; the records are those of the
512 highest-numbered clips that keep a chain; and the Free List, the next clip number and Q_eff follow. -/
def Rebuilt (found : List Finding) (st : Store) : Prop :=
  st.state = .ready ∧ st.scan = none ∧ st.extents.length = found.length ∧
    (∀ i : Nat, st.extents[i]? = some .bad ↔ found[i]? = some .bad) ∧
    (∀ (i : Nat) o, st.owned i = some o → ∃ d ∈ st.index, d.number = o.owner ∧ ∃ l, KeptChain found d.number l ∧ i ∈ l) ∧
    (∀ d ∈ st.index, ∃ l v, KeptChain found d.number l ∧ l.getLast?.bind (trailerIn found) = some v ∧
      RebuiltRecord found l v d ∧ ∀ (q e : Nat) u, l[q]? = some e → trailerIn found e = some u →
        st.owned e = some ⟨decide (u.data < 16383 ∧ q + 1 < l.length), d.number, q, l[q + 1]?, u.data⟩) ∧
    (st.index.map Clip.number).Pairwise (· < ·) ∧ st.index.length ≤ 512 ∧
    (∀ n l, l ≠ [] → KeptChain found n l →
      (∃ d ∈ st.index, d.number = n) ∨ (st.index.length = 512 ∧ ∀ d ∈ st.index, n < d.number)) ∧
    st.free = (List.range found.length).filter (fun i => st.extents[i]? = some .free) ∧
    (∀ (i : Nat) v, trailerIn found i = some v → v.clip < st.nextClip) ∧
    (st.nextClip = 1 ∨ ∃ i v, trailerIn found i = some v ∧ st.nextClip = v.clip + 1) ∧
    st.quotaEff = max st.quota st.lockedExtents

/-! ### Tables -/

/-- The unsigned fields of an entry of table `t` that have a range, in order: offset, width in bytes, least and largest value
(Tables 1-2, 1-3, 2-2, 4-4, 5-5, 6-5, 7-2, 8-5, 9-5). -/
def unsignedFields : Nat → List (Nat × Nat × Nat × Nat)
  | 0 => [(4, 1, 0, 2), (6, 1, 0, 2), (8, 1, 0, 2)]
  | 1 => []
  | 2 => [(0, 1, 2, 14), (1, 1, 2, 14), (2, 1, 2, 14), (3, 1, 2, 14)]
  | 3 => [(0, 2, 1, 32767), (2, 2, 0, 10000), (4, 2, 1, 32767), (6, 2, 10, 1000), (8, 2, 1, 2047), (10, 2, 1, 600)]
  | 4 => [(0, 2, 16, 8191), (2, 2, 17, 8192), (4, 2, 10, 3600), (6, 2, 250, 60000), (8, 1, 0, 90), (9, 1, 1, 64),
      (10, 1, 0, 60), (11, 2, 0, 8192), (13, 2, 16, 256), (15, 2, 16, 8192), (17, 2, 250, 2000)]
  | 5 => [(0, 1, 0, 1), (3, 1, 0, 1), (4, 1, 0, 4)]
  | 6 => [(8, 2, 0, 3000), (10, 2, 0, 3000), (12, 2, 0, 3000), (14, 2, 3900, 4400), (16, 2, 3900, 4400),
      (18, 2, 3900, 4400), (20, 2, 2800, 3400), (22, 2, 50, 300), (24, 2, 25, 500), (26, 2, 0, 500), (28, 2, 25, 1000),
      (30, 2, 4200, 5200), (32, 1, 1, 120), (33, 2, 10, 1200), (35, 2, 100, 10000), (37, 1, 0, 100)]
  | _ => [(12, 2, 2900, 4200), (14, 2, 2900, 4200), (16, 2, 2900, 4200), (18, 2, 2900, 4200)]

/-- The signed fields of two bytes of an entry of table `t`: offset, least and largest value (Tables 8-5 and 9-5). -/
def signedFields : Nat → List (Nat × Int × Int)
  | 6 => [(0, -80, 250), (2, -80, 250), (4, -80, 250), (6, -80, 250)]
  | 7 => [(0, 100, 300), (2, 100, 300), (4, 100, 300), (6, 100, 300), (8, 100, 300), (10, 100, 300)]
  | _ => []

/-- Every field of the bytes `b` of an entry of table `t` lies in its range; of IMU SETUP also the ODR, the FS and the signs,
which take listed values (Table 1-2). -/
def EntryInRange (t : Nat) (b : Bytes) : Prop :=
  (∀ f ∈ unsignedFields t, f.2.2.1 ≤ uintAt b f.1 f.2.1 ∧ uintAt b f.1 f.2.1 ≤ f.2.2.2) ∧
    (∀ f ∈ signedFields t, f.2.1 ≤ int16At b f.1 ∧ int16At b f.1 ≤ f.2.2) ∧
    (t = 0 → uintAt b 0 2 ∈ [800, 1600, 3200] ∧ uintAt b 2 2 ∈ [250, 500, 1000, 2000] ∧
      ∀ i ∈ [5, 7, 9], uintAt b i 1 = 1 ∨ uintAt b i 1 = 255)

/-- `l` is strictly ascending. -/
def Ascending (l : List Int) : Prop := l.Pairwise (· < ·)

/-- The thresholds of a THERMAL & SUPPLY page stand in order (R170). -/
def ThresholdsOrdered (b : ThermalTab) : Prop :=
  b.fallDerate < b.riseDerate ∧ b.fallLimit < b.riseLimit ∧ b.fallCutoff < b.riseCutoff ∧
    Ascending [b.riseDerate, b.riseLimit, b.riseCutoff] ∧ Ascending [b.fallDerate, b.fallLimit, b.fallCutoff] ∧
    b.warnEntry < b.warnExit ∧ b.emergencyEntry < b.emergencyExit ∧ b.emergencyEntry < b.warnEntry

/-- Page `g` passes the consistency test of table `t` (R182): a LENS page with no density below 256 (R35), a SMOOTHING page
with no k below the next (R40), a STORE page with the hold mark below the release mark (R79), a CHARGE page with its
boundaries ascending (R160), and a THERMAL & SUPPLY page with its thresholds in order (R170). -/
def PageConsistent (g : Pages) (t : Nat) : Prop :=
  (t = 1 → ∀ e ∈ g.lens, 256 ≤ e.ppdx ∧ 256 ≤ e.ppdy) ∧
    (t = 2 → ∀ e ∈ g.smoothing, ¬(e.k0 < e.k1 ∨ e.k1 < e.k2 ∨ e.k2 < e.k3)) ∧
    (t = 4 → g.store.holdMark < g.store.releaseMark) ∧
    (t = 6 → Ascending [g.charge.coldCool, g.charge.coolStandard, g.charge.standardWarm, g.charge.warmHot]) ∧
    (t = 7 → ThresholdsOrdered g.thermal)

/-- `f` is the row of Table 8-1 into which temperature `x` falls (R145, step 2). -/
def PlainBand (t : ChargeTab) (x : Int) : Band → Prop
  | .cold => x < t.coldCool
  | .cool => t.coldCool ≤ x ∧ x < t.coolStandard
  | .standard => t.coldCool ≤ x ∧ t.coolStandard ≤ x ∧ x < t.standardWarm
  | .warm => t.coldCool ≤ x ∧ t.coolStandard ≤ x ∧ t.standardWarm ≤ x ∧ x < t.warmHot
  | .hot => t.coldCool ≤ x ∧ t.coolStandard ≤ x ∧ t.standardWarm ≤ x ∧ t.warmHot ≤ x
  | .invalid => False

/-- How far a band stands from STANDARD, negative on the cold side (R145, step 3). -/
def Band.rank : Band → Int
  | .cold => -2
  | .cool => -1
  | .standard => 0
  | .warm => 1
  | .hot => 2
  | .invalid => 0

/-- The band after an evaluation that reads temperature `x`, from the band before (R145). -/
def BandFollows (t : ChargeTab) (old : Option Band) (x : Int) (new : Band) : Prop :=
  (x < -80 ∨ 250 < x → new = .invalid) ∧
    (-80 ≤ x → x ≤ 250 → ∀ f, PlainBand t x f →
      (old = none ∨ old = some .invalid → new = f) ∧
      ∀ b, old = some b → b ≠ .invalid →
        (f = b → new = b) ∧
        (b.rank.natAbs < f.rank.natAbs ∨ f.rank * b.rank < 0 → new = f) ∧
        (f.rank.natAbs < b.rank.natAbs → 0 ≤ f.rank * b.rank →
          ∀ g, PlainBand t (if 0 < b.rank then x + 4 else x - 4) g →
            (0 < b.rank ∧ g.rank < b.rank ∨ b.rank < 0 ∧ b.rank < g.rank → new = g) ∧
            (¬(0 < b.rank ∧ g.rank < b.rank ∨ b.rank < 0 ∧ b.rank < g.rank) → new = b)))

/-- The charge voltage of a band that permits a charge, 0 of the others (Table 8-1). -/
def ChargeTab.voltageOf (t : ChargeTab) : Band → Nat
  | .cool => t.voltageCool
  | .standard => t.voltageStandard
  | .warm => t.voltageWarm
  | _ => 0

/-- The fast current of a band that permits a charge, 0 of the others (Table 8-1). -/
def ChargeTab.currentOf (t : ChargeTab) : Band → Nat
  | .cool => t.currentCool
  | .standard => t.currentStandard
  | .warm => t.currentWarm
  | _ => 0

/-- The band permits a charge: COOL, STANDARD or WARM. -/
def Band.permits (b : Band) : Prop := b = .cool ∨ b = .standard ∨ b = .warm

/-- ILIM_eff after regulation against VIN (R154). -/
def Charge.regulatedLimit (c : Charge) (t : ChargeTab) (e : Nat) : Nat :=
  if c.meas.vin < t.vinReg then max 100 (e - 100)
  else if t.vinReg + 200 ≤ c.meas.vin ∧ e < c.ilimHost then min c.ilimHost (e + 100) else e

/-- The termination count after an evaluation in TAPER (R148). -/
def Charge.termAfter (c : Charge) (t : ChargeTab) : Nat :=
  if c.meas.ibat < t.terminationCurrent ∧ t.terminationCurrent < c.setpoint then c.termCount + 1 else 0

/-- The state and reason that stage 3 gives with nothing that suspends, under the charge voltage `cv` (R147, case 5, R148,
R150; after a CHARGE RESTART from an overvoltage R157, LOG 47). -/
def ChargeMoves (t : ChargeTab) (c : Charge) (cv : Nat) (m : ChargeState) (r : ChargeReason) : Prop :=
  let v := c.meas.vbat
  (c.state = .noInput ∨ c.state = .standby ∨ c.state = .suspended →
    (c.restarted = true ∧ cv + 100 < v → m = .fault ∧ r = .overvoltage) ∧
    (¬(c.restarted = true ∧ cv + 100 < v) → r = .none ∧
      m = if v < t.prechargeThreshold then .precharge else if v + t.rechargeDrop < cv then .fast else .done)) ∧
  (c.state = .precharge ∨ c.state = .fast ∨ c.state = .taper →
    (cv + 100 < v → m = .fault ∧ r = .overvoltage) ∧
    (v ≤ cv + 100 → r = .none ∧
      (c.state = .precharge → m = if t.prechargeThreshold + 100 ≤ v then .fast else .precharge) ∧
      (c.state = .fast → m = if cv ≤ v + 10 then .taper else .fast) ∧
      (c.state = .taper → m = if c.termAfter t = 3 then .done else .taper))) ∧
  (c.state = .done → r = .none ∧ m = if v + t.rechargeDrop < cv then .fast else .done)

/-- The rising threshold of tier `k` (Table 9-1). -/
def ThermalTab.rise (t : ThermalTab) : Nat → Int
  | 1 => t.riseDerate
  | 2 => t.riseLimit
  | _ => t.riseCutoff

/-- The falling threshold of tier `k` (Table 9-1). -/
def ThermalTab.fall (t : ThermalTab) : Nat → Int
  | 1 => t.fallDerate
  | 2 => t.fallLimit
  | _ => t.fallCutoff

/-- The tier after an update that reads the die temperature `d` (R164): U when U lies above the tier before, otherwise the
highest tier up to the one before that is 0 or whose falling threshold is met. -/
def TierFollows (t : ThermalTab) (old : Tier) (d : Int) (new : Tier) : Prop :=
  let u := ([1, 2, 3].filter fun k => decide (t.rise k ≤ d)).length
  (old.code < u → new.code = u) ∧
    (u ≤ old.code → new.code ≤ old.code ∧ (new.code = 0 ∨ t.fall new.code ≤ d) ∧
      ∀ k, new.code < k → k ≤ old.code → d < t.fall k)

/-- The rows of a list of capture items. -/
def rowsOf (items : List CaptureItem) : List CaptureItem :=
  items.filter fun i => match i with
    | .row _ => true
    | .packet _ => false

/-- The bands of a frame that ends short (R57): a decided band stays, and one not decided takes the offsets of the band before it,
0 and 0 for band 0, with the not-decided flag alone. -/
def FilledBands (old new : List BandRec) : Prop :=
  new.length = old.length ∧ ∀ (i : Nat) (b : BandRec), old[i]? = some b →
    let before := if i = 0 then none else new[i - 1]?
    new[i]? = some (if b.decided then b
      else ⟨false, (before.map BandRec.dx).getD 0, (before.map BandRec.dy).getD 0, false, false, false, true⟩)

/-- The frame of record `r` that was OPEN in `s` has ended short in `t` (R57): every row not yet sent has left, the trailer of
the filled bands behind it, and the frame is counted out and short. A row whose band was decided and whose source line was
taken is cut from that line, or from the oldest line in the ring, which is counted as a ring miss (R55); any other row is a copy
of the row before it, of zeros where no row had been sent. -/
def FrameFinished (g : Geometry) (r : FrameRec) (s t : State) : Prop :=
  ∃ (bands : List BandRec) (rows : List (List Nat)) (before rest : List CaptureItem),
    let mx : Int := ((g.wIn - g.wOut) / 2 : Nat)
    let my : Int := ((g.hIn - g.hOut) / 2 : Nat)
    let band (j : Nat) := bands.getD (j / r.lb) ⟨false, 0, 0, false, false, false, false⟩
    let source (j : Nat) : Nat := ((j : Int) + my + (band j).dy).toNat
    let held (j : Nat) := s.frame.ring.find? fun x => x.line = source j
    let cut (j : Nat) : Prop := (band j).decided = true ∧ source j < r.lines
    let missed (k : Nat) : Bool :=
      (band (r.rows + k)).decided && decide (source (r.rows + k) < r.lines) && (held (r.rows + k)).isNone
    let misses := ((List.range rows.length).filter missed).length
    FilledBands r.bands bands ∧ rows.length = g.hOut - r.rows ∧ rowsOf before = rows.map CaptureItem.row ∧
    rowsOf rest = [] ∧ t.captureOut = before ++ .packet (Trailer.encode
      ⟨r.number, r.sensorCount, r.start, r.mode, r.lens, bands, r.yaw, r.pitch, r.roll⟩) :: rest ∧ t.frame.trailer = none ∧
    (∀ k < rows.length,
      (cut (r.rows + k) → rows[k]? = some
        ((((((held (r.rows + k)).or s.frame.ring.head?).map RingEntry.pixels).getD []).drop
          (mx + (band (r.rows + k)).dx).toNat).take g.wOut)) ∧
      (¬cut (r.rows + k) → rows[k]? =
        if k = 0 then some (r.lastRow.getD (List.replicate g.wOut 0)) else rows[k - 1]?)) ∧
    t.counters.ringMisses = (if misses = 0 then s.counters.ringMisses else satAdd s.counters.ringMisses misses) ∧
    t.counters.shortFrames = satAdd s.counters.shortFrames 1 ∧ t.counters.framesOut = satAdd s.counters.framesOut 1

/-- What Record Intake has made, in `t`, of the content of trailer `tr`, built in `s` (R59, R70): nothing with no clip OPEN or
before the OPEN clip's first sync; otherwise a stored packet of stream MOTION, of the clip's last video PTS, packed behind the
packing block with its blocks tagged with the clip, or, where it does not fit, dropped: counted, GAP set, and BUFFER_DROP
issued at the clip's first drop. That the writer starts nothing on the packed blocks is for a write in flight. -/
def MotionHanded (tr : Trailer) (s t : State) : Prop :=
  let kept (i : Intake) : Intake :=
    { i with hold := t.intake.hold, bufCause := t.intake.bufCause, ansCause := t.intake.ansCause }
  ((s.store.openClip = none ∨ ∃ r, s.intake.record = some r ∧ r.syncMet = false) →
    t.intake = kept s.intake ∧ t.store = s.store ∧ t.counters.packetsDropped = s.counters.packetsDropped) ∧
  ∀ c r, s.store.openClip = some c → s.intake.record = some r → r.clip = c.number → r.syncMet = true →
    let body := Trailer.body tr
    let pts := r.lastPts.getD 0
    let laid := s.intake.lay c.number
      (List.replicate (zeroFill s.intake.packing.length) 0#8 ++ (storedHeader .motion 0#8 body.length pts ++ body))
    (s.intake.fits body.length = true → s.card.state ≠ .idle → s.card.writing = true →
      t.intake = kept { s.intake with buffer := laid.buffer, packing := laid.packing } ∧ t.store = s.store ∧
        t.counters.packetsDropped = s.counters.packetsDropped) ∧
    (s.intake.fits body.length = false →
      t.intake = kept { s.intake with record := some { r with dropReported := true } } ∧
        t.store = { s.store with index := s.store.index.map fun d =>
          if d.number = c.number then { d with flags := { d.flags with gap := true } } else d } ∧
        t.counters.packetsDropped = satAdd s.counters.packetsDropped 1 ∧
        (r.dropReported = false → s.link.reports.length < 32 → Issued (.bufferDrop c.number .motion pts) t))

/-! ### Properties of every state -/

/-- The Report Queue holds up to 32 reports (R177). -/
def ReportsBounded (s : State) : Prop := s.link.reports.length ≤ Config.reportLimit

/-- The Answer Queue holds 16 answers at most (R176). -/
def AnswersBounded (s : State) : Prop := s.link.answers.length ≤ Config.answerLimit

/-- The Angle History holds at most 64 entries (R27), the Line Ring at most 32 (R53). -/
def RingsBounded (s : State) : Prop :=
  s.filter.history.length ≤ Config.historySize ∧ s.frame.ring.length ≤ Config.ringSize

/-- The occupancy of the Segment Buffer, the packing block included while it holds a byte, is at most 8192 blocks (R69,
R72). -/
def BufferBounded (s : State) : Prop := s.intake.occupancy ≤ Config.bufferBlocks

/-- No completion now would be the late one of an operation that a timeout has ended (R116, LOG 57). -/
def NotLate (dt : Nat) (s : State) : Prop := s.card.timedOut ≠ some (s.partTime + dt)

/-- HOLD is asserted while either cause is set, and the answer cause is set while the Answer Queue holds 16 answers
(R74). -/
def HoldFollows (s : State) : Prop :=
  s.intake.hold = (s.intake.bufCause || s.intake.ansCause) ∧
    s.intake.ansCause = decide (Config.answerLimit ≤ s.link.answers.length)

/-- A value of −2048 to 2047. -/
def inBiasRange (b : Int) : Prop := -2048 ≤ b ∧ b ≤ 2047

/-- The bias of each axis lies in −2048 to 2047 (R13). -/
def BiasInRange (s : State) : Prop :=
  inBiasRange s.motion.bias.yaw ∧ inBiasRange s.motion.bias.pitch ∧ inBiasRange s.motion.bias.roll

/-- ILIM_host lies between 100 and 3000 mA; ILIM_eff is there while VIN is present, between 100 mA and ILIM_host (R144,
R154, R155). -/
def InputLimitBounded (s : State) : Prop :=
  100 ≤ s.charge.ilimHost ∧ s.charge.ilimHost ≤ 3000 ∧
    match s.charge.vin, s.charge.ilimEff with
    | true, some e => 100 ≤ e ∧ e ≤ s.charge.ilimHost
    | false, none => True
    | _, _ => False

/-- The setpoint is 0 unless the charge state is PRECHARGE, FAST or TAPER and the die tier below LIMIT (R153), and the
termination count is 0 outside TAPER (R148). -/
def SetpointAllowed (s : State) : Prop :=
  (s.charge.setpoint ≠ 0 → s.charge.state.charging = true ∧ s.thermal.tier ≠ .limit ∧ s.thermal.tier ≠ .cutoff) ∧
    (s.charge.state ≠ .taper → s.charge.termCount = 0)

/-- The gauge lies between 0 and the capacity (R158). -/
def GaugeBounded (s : State) : Prop := s.charge.cq ≤ s.charge.tab.capacityUnits

/-- The effective mode is OFF, STEADY or ECO (R36). -/
def EffectiveMode (s : State) : Prop := s.filter.effMode ≠ .steadyWhileRecording

/-- The Clip Index holds at most 512 records (R92) and the trailer-update queue at most 16 entries (R123). -/
def StoreBounded (s : State) : Prop :=
  s.store.index.length ≤ Config.indexSize ∧ s.card.updates.length ≤ Config.updateLimit

/-- The records stand in ascending number below the next clip number, one of them at most is OPEN, the writer is then
RECORDING, and it is IDLE while the store is not READY; a scan runs only while the store is SCANNING (R84, R86, R92). -/
def ClipsOrdered (s : State) : Prop :=
  (s.store.index.map Clip.number).Pairwise (· < ·) ∧ (∀ c ∈ s.store.index, c.number < s.store.nextClip) ∧
    (∀ c ∈ s.store.index, ∀ d ∈ s.store.index, c.state = .opened → d.state = .opened → c.number = d.number) ∧
    (∀ c ∈ s.store.index, c.state = .opened → s.store.writer = .recording) ∧
    (∀ c ∈ s.store.index, c.state = .closing → s.store.writer ≠ .idle) ∧
    (s.store.writer ≠ .idle → s.store.state = .ready) ∧ (s.store.scan ≠ none → s.store.state = .scanning)

/-- While the supply is EMERGENCY or the die tier CUTOFF the writer does not record and no record is OPEN (R84). -/
def NoneOpenUnderEmergency (s : State) : Prop :=
  s.thermal.supply = .emergency ∨ s.thermal.tier = .cutoff →
    s.store.writer ≠ .recording ∧ ∀ c ∈ s.store.index, c.state ≠ .opened

/-- L is at most Q_eff (R102). -/
def LocksWithinQuota (s : State) : Prop := s.store.lockedExtents ≤ s.store.quotaEff

/-- `l` is the chain of record `c`, with its first and last extent, each extent OWNED by the clip with its sequence and the
next (R91). -/
def Placed (st : Store) (c : Clip) (l : List Nat) : Prop :=
  l.length = c.extentCount ∧ l.head? = c.firstExtent ∧ l.getLast? = c.lastExtent ∧ l.Nodup ∧
    ∀ k ∈ List.range l.length, ∃ e ∈ l[k]?, ∃ o ∈ st.owned e, o.owner = c.number ∧ o.seq = k ∧ o.next = l[k + 1]?

/-- While the store is READY every extent of the area is in exactly one place: once in the Free List, in the chain of exactly
one record, or BAD (R91). -/
def ExtentsPlaced (s : State) : Prop :=
  s.store.state = .ready →
    s.store.extents.length = s.store.count ∧ s.store.free.Nodup ∧
    (∀ i ∈ s.store.free, s.store.extents[i]? = some .free) ∧
    (∀ i ∈ List.range s.store.extents.length, s.store.extents[i]? = some .free → i ∈ s.store.free) ∧
    (∀ c ∈ s.store.index, Placed s.store c (s.store.chain c.extentCount c.firstExtent)) ∧
    ∀ i ∈ List.range s.store.extents.length, ∀ o ∈ s.store.owned i, ∃ c ∈ s.store.index,
      c.number = o.owner ∧ i ∈ s.store.chain c.extentCount c.firstExtent

/-- What write `w` of the writer stands on while it is in flight or waits for its retry: a record OPEN or CLOSING whose last
extent it goes to, a burst's blocks at the head of the Segment Buffer, and for a final trailer a CLOSING record with
written blocks and none buffered (R93, R96, R121). -/
def WriteStands (s : State) (w : WWrite) : Prop :=
  s.store.state = .ready ∧ ∃ c ∈ s.store.index, c.number = w.clip ∧ c.state ≠ .closed ∧
    match w with
    | .openTrailer _ e => c.lastExtent = some e
    | .burst _ e _ n .. =>
      c.lastExtent = some e ∧ n ≤ s.intake.buffer.length ∧ ∀ b ∈ s.intake.buffer.take n, b.clip = c.number
    | .fullTrailer _ e => c.lastExtent = some e
    | .weakTrailer _ e => c.lastExtent = some e
    | .finalTrailer _ _ => c.state = .closing ∧ 0 < c.dataBlocks ∧ ∀ b ∈ s.intake.buffer, b.clip ≠ c.number

/-- The writer's writes in flight and waiting for a retry. -/
def State.writes (s : State) : List WWrite :=
  s.store.retry.toList ++
    match s.card.op with
    | some o => match o.source with
      | .writer w => [w]
      | _ => []
    | none => []

/-- What the buffer, the intake record, the writes and the scan stand on: blocks and the intake record belong to records OPEN
or CLOSING, a record with an extent and no written block has blocks buffered, each write stands, and the scan has one
finding for each extent read (R72, R84, R86, R93, R99, R109). -/
def StoreSound (s : State) : Prop :=
  (∀ b ∈ s.intake.buffer, ∃ c ∈ s.store.index, c.number = b.clip ∧ c.state ≠ .closed) ∧
    (∀ r ∈ s.intake.record, ∃ c ∈ s.store.index, c.number = r.clip ∧ c.state = .opened) ∧
    (∀ c ∈ s.store.index, c.state ≠ .closed → 0 < c.extentCount → c.dataBlocks = 0 → s.intake.holds c.number = true) ∧
    (∀ w ∈ s.writes, WriteStands s w) ∧
    (∀ k ∈ s.store.scan, k.found.length = k.ext ∧ k.ext < s.store.count)

/-- The loaded pages have the entries of Table 10-5, and the mask of active pages the eight tables. -/
def TablesSized (s : State) : Prop :=
  s.link.loaded.lens.length = 4 ∧ s.link.loaded.smoothing.length = 4 ∧ s.link.loaded.triggers.length = 8 ∧
    s.link.active.length = 8

/-- No counter passes 4,294,967,295 (00_scope.md 4.4, R184). -/
def CountersBounded (s : State) : Prop := ∀ n ∈ s.counters.toList, n ≤ Config.counterMax

end Sys2Proof.Machine
end

