-- ==== Sys2Proof/WellFormed.lean ====
section
/-! DEFINITION. Which commands can occur: the ranges the manual gives to what an event brings (R64, R65, R143, R174,
R189). `exec` gives every command a meaning, well formed or not. -/

namespace Sys2Proof

/-- A directive code of Table 11-4. -/
def codeKnown (code : Nat) : Bool :=
  (1 ≤ code && code ≤ 5) || (16 ≤ code && code ≤ 18) || code == 32 || (48 ≤ code && code ≤ 52) ||
    (64 ≤ code && code ≤ 75) || (80 ≤ code && code ≤ 84)

/-- A parameter field that a record link packet can carry (R189). -/
def paramsFit (p : Bytes) : Bool := p.length + Config.directiveHeaderBytes ≤ Config.bodyLimit

/-- The measurements lie in the ranges of R143. -/
def Measurements.inRange (m : Measurements) : Bool :=
  m.vin ≤ 16000 && m.iin ≤ 6000 && m.vbat ≤ 5000 && (-6000 ≤ m.ibat && m.ibat ≤ 6000) &&
    (-32768 ≤ m.batTemp && m.batTemp ≤ 32767) && (-32768 ≤ m.dieTemp && m.dieTemp ≤ 32767)

/-- A record link packet that is malformed by its header, or a CLIP packet malformed by its body, or a DIRECTIVE packet
whose body is shorter than tag and code (R64, R65, R175). -/
def bytesMalformed (bytes : Bytes) : Bool :=
  match bytes with
  | kind :: l0 :: l1 :: body =>
    if l0.toNat + 256 * l1.toNat ≠ body.length then true
    else if kind = 1#8 then
      decide (body.length < Config.clipHeaderBytes) || !(body.headD 0#8 = 1#8 || body.headD 0#8 = 2#8)
    else if kind = 2#8 then decide (body.length < Config.directiveHeaderBytes)
    else true
  | _ => true

/-- The bytes of a READ's blocks: whole blocks, none where the operation failed (R116). -/
def readDataFits (ok : Bool) (data : Bytes) : Bool :=
  data.length % Config.blockBytes == 0 && decide (data.length ≤ 256 * Config.blockBytes) && (ok || data.isEmpty)

/-- The elapsed part time a command carries. -/
def Instr.elapsed : Instr → Nat
  | .coldStart _ => 0
  | .brownOut dt => dt
  | .rstinAssertion dt => dt
  | .imuDrdyEdge dt => dt
  | .sampleTaken dt _ => dt
  | .motionLost dt => dt
  | .identityCheck dt _ => dt
  | .frameStartMarker dt _ => dt
  | .sensorLine dt _ => dt
  | .frameEndMarker dt => dt
  | .sideSlot dt => dt
  | .clipPacket dt _ _ _ _ => dt
  | .malformedPacket dt _ => dt
  | .unknownDirective dt _ _ _ => dt
  | .linkReset dt _ _ => dt
  | .sleep dt _ _ => dt
  | .readStatus dt _ _ => dt
  | .readCounters dt _ _ => dt
  | .clearCounters dt _ _ => dt
  | .writeEntry dt _ _ => dt
  | .readEntry dt _ _ => dt
  | .selectPage dt _ _ => dt
  | .calibrate dt _ _ => dt
  | .setMode dt _ _ => dt
  | .recenter dt _ _ => dt
  | .setGeometry dt _ _ => dt
  | .setLens dt _ _ => dt
  | .setExposure dt _ _ => dt
  | .mount dt _ _ => dt
  | .unmount dt _ _ => dt
  | .startRecording dt _ _ => dt
  | .stopRecording dt _ _ => dt
  | .mark dt _ _ => dt
  | .lockClip dt _ _ => dt
  | .unlockClip dt _ _ => dt
  | .deleteClip dt _ _ => dt
  | .readIndex dt _ _ => dt
  | .readClip dt _ _ => dt
  | .cardRead dt _ _ => dt
  | .cardWrite dt _ _ => dt
  | .setInputLimit dt _ _ => dt
  | .setChargeRequest dt _ _ => dt
  | .chargeRestart dt _ _ => dt
  | .setGauge dt _ _ => dt
  | .readPower dt _ _ => dt
  | .stallTimerExpiry dt => dt
  | .cardOpCompletion dt _ _ => dt
  | .cardTimeout dt => dt
  | .cardInsertion dt => dt
  | .cardRemoval dt => dt
  | .powerUpdate dt _ _ _ => dt
  | .chargeEvaluation dt => dt
  | .safetyTimerTimeout dt => dt

/-- The parameter field of a directive row, none for the other rows. -/
def Instr.params : Instr → Option Bytes
  | .unknownDirective _ _ _ p => some p
  | .linkReset _ _ p => some p
  | .sleep _ _ p => some p
  | .readStatus _ _ p => some p
  | .readCounters _ _ p => some p
  | .clearCounters _ _ p => some p
  | .writeEntry _ _ p => some p
  | .readEntry _ _ p => some p
  | .selectPage _ _ p => some p
  | .calibrate _ _ p => some p
  | .setMode _ _ p => some p
  | .recenter _ _ p => some p
  | .setGeometry _ _ p => some p
  | .setLens _ _ p => some p
  | .setExposure _ _ p => some p
  | .mount _ _ p => some p
  | .unmount _ _ p => some p
  | .startRecording _ _ p => some p
  | .stopRecording _ _ p => some p
  | .mark _ _ p => some p
  | .lockClip _ _ p => some p
  | .unlockClip _ _ p => some p
  | .deleteClip _ _ p => some p
  | .readIndex _ _ p => some p
  | .readClip _ _ p => some p
  | .cardRead _ _ p => some p
  | .cardWrite _ _ p => some p
  | .setInputLimit _ _ p => some p
  | .setChargeRequest _ _ p => some p
  | .chargeRestart _ _ p => some p
  | .setGauge _ _ p => some p
  | .readPower _ _ p => some p
  | .coldStart _ | .brownOut _ | .rstinAssertion _ | .imuDrdyEdge _ | .sampleTaken _ _ | .motionLost _
  | .identityCheck _ _ | .frameStartMarker _ _ | .sensorLine _ _ | .frameEndMarker _ | .sideSlot _
  | .clipPacket _ _ _ _ _ | .malformedPacket _ _ | .stallTimerExpiry _ | .cardOpCompletion _ _ _ | .cardTimeout _
  | .cardInsertion _ | .cardRemoval _ | .powerUpdate _ _ _ _ | .chargeEvaluation _ | .safetyTimerTimeout _ => none

/-- What else a row's operands must satisfy. -/
def Instr.operandsFit : Instr → Bool
  | .clipPacket _ _ _ _ payload => payload.length + Config.clipHeaderBytes ≤ Config.bodyLimit
  | .malformedPacket _ bytes => bytesMalformed bytes
  | .unknownDirective _ _ code _ => !codeKnown code.toNat
  | .cardOpCompletion _ ok data => readDataFits ok data
  | .powerUpdate _ m _ _ => m.inRange
  | .coldStart _ | .brownOut _ | .rstinAssertion _ | .imuDrdyEdge _ | .sampleTaken _ _ | .motionLost _
  | .identityCheck _ _ | .frameStartMarker _ _ | .sensorLine _ _ | .frameEndMarker _ | .sideSlot _ | .linkReset _ _ _
  | .sleep _ _ _ | .readStatus _ _ _ | .readCounters _ _ _ | .clearCounters _ _ _ | .writeEntry _ _ _
  | .readEntry _ _ _ | .selectPage _ _ _ | .calibrate _ _ _ | .setMode _ _ _ | .recenter _ _ _ | .setGeometry _ _ _
  | .setLens _ _ _ | .setExposure _ _ _ | .mount _ _ _ | .unmount _ _ _ | .startRecording _ _ _
  | .stopRecording _ _ _ | .mark _ _ _ | .lockClip _ _ _ | .unlockClip _ _ _ | .deleteClip _ _ _ | .readIndex _ _ _
  | .readClip _ _ _ | .cardRead _ _ _ | .cardWrite _ _ _ | .setInputLimit _ _ _ | .setChargeRequest _ _ _
  | .chargeRestart _ _ _ | .setGauge _ _ _ | .readPower _ _ _ | .stallTimerExpiry _ | .cardTimeout _
  | .cardInsertion _ | .cardRemoval _ | .chargeEvaluation _ | .safetyTimerTimeout _ => true

/-- The command can occur: its elapsed time is a part time, its parameter field fits a packet, its operands lie in their
ranges. -/
def Instr.wellFormed (i : Instr) : Bool :=
  decide (i.elapsed < 18446744073709551616) && i.params.all paramsFit && i.operandsFit

/-- A directive by its code (Table 11-4), the fixed length of its parameter field (Table 10-1; none where it has none), its
tag and its parameter field. -/
structure Directive where
  code : Nat
  length : Option Nat
  tag : Byte
  params : Bytes
deriving DecidableEq, Repr

/-- The directive a row stands for, none for the other rows. -/
def Instr.directive : Instr → Option Directive
  | .unknownDirective _ tag code p => some ⟨code.toNat, none, tag, p⟩
  | .linkReset _ tag p => some ⟨1, some 0, tag, p⟩
  | .sleep _ tag p => some ⟨2, some 1, tag, p⟩
  | .readStatus _ tag p => some ⟨3, some 0, tag, p⟩
  | .readCounters _ tag p => some ⟨4, some 0, tag, p⟩
  | .clearCounters _ tag p => some ⟨5, some 0, tag, p⟩
  | .writeEntry _ tag p => some ⟨16, none, tag, p⟩
  | .readEntry _ tag p => some ⟨17, some 3, tag, p⟩
  | .selectPage _ tag p => some ⟨18, some 2, tag, p⟩
  | .calibrate _ tag p => some ⟨32, some 0, tag, p⟩
  | .setMode _ tag p => some ⟨48, some 2, tag, p⟩
  | .recenter _ tag p => some ⟨49, some 0, tag, p⟩
  | .setGeometry _ tag p => some ⟨50, some 10, tag, p⟩
  | .setLens _ tag p => some ⟨51, some 1, tag, p⟩
  | .setExposure _ tag p => some ⟨52, some 4, tag, p⟩
  | .mount _ tag p => some ⟨64, some 11, tag, p⟩
  | .unmount _ tag p => some ⟨65, some 0, tag, p⟩
  | .startRecording _ tag p => some ⟨66, some 8, tag, p⟩
  | .stopRecording _ tag p => some ⟨67, some 0, tag, p⟩
  | .mark _ tag p => some ⟨68, some 0, tag, p⟩
  | .lockClip _ tag p => some ⟨69, some 4, tag, p⟩
  | .unlockClip _ tag p => some ⟨70, some 4, tag, p⟩
  | .deleteClip _ tag p => some ⟨71, some 4, tag, p⟩
  | .readIndex _ tag p => some ⟨72, some 5, tag, p⟩
  | .readClip _ tag p => some ⟨73, some 4, tag, p⟩
  | .cardRead _ tag p => some ⟨74, some 5, tag, p⟩
  | .cardWrite _ tag p => some ⟨75, none, tag, p⟩
  | .setInputLimit _ tag p => some ⟨80, some 2, tag, p⟩
  | .setChargeRequest _ tag p => some ⟨81, some 2, tag, p⟩
  | .chargeRestart _ tag p => some ⟨82, some 0, tag, p⟩
  | .setGauge _ tag p => some ⟨83, some 1, tag, p⟩
  | .readPower _ tag p => some ⟨84, some 0, tag, p⟩
  | .coldStart _ | .brownOut _ | .rstinAssertion _ | .imuDrdyEdge _ | .sampleTaken _ _ | .motionLost _
  | .identityCheck _ _ | .frameStartMarker _ _ | .sensorLine _ _ | .frameEndMarker _ | .sideSlot _
  | .clipPacket _ _ _ _ _ | .malformedPacket _ _ | .stallTimerExpiry _ | .cardOpCompletion _ _ _ | .cardTimeout _
  | .cardInsertion _ | .cardRemoval _ | .powerUpdate _ _ _ _ | .chargeEvaluation _ | .safetyTimerTimeout _ => none

/-- The row arrives on the record link or on the sensor link, neither of which an ASLEEP link receives (R45, R64). -/
def Instr.onLink : Instr → Bool
  | .frameStartMarker _ _ | .sensorLine _ _ | .frameEndMarker _ | .clipPacket _ _ _ _ _ | .malformedPacket _ _ => true
  | i => i.directive.isSome

end Sys2Proof
end

