-- ==== Sys2Proof/Certificates/Slice0/Obligations.lean ====
section
/-! DEFINITION. The statements for the provers. A statement about a command holds for every state that meets its
hypotheses, reachable or not; `Ready` and `AtRest` (Safety.lean) say that nothing waits to be done. -/

open Sys2Proof Sys2Proof.Machine

/-! ### Steps, supply, link -/

/-- A step runs the command at the front of the queue with the queue's rest; an empty queue idles (LOG 2: the model's own
reading of a block that waits). -/
def Obligations.StepRunsFrontCommand : Prop :=
  (∀ (c : Instr) (rest : List Instr) (s : State),
    step { s with pending := c :: rest } = exec c { s with pending := rest }) ∧
  ∀ s : State, s.pending = [] → step s = .next s

/-- COLD_START: every block takes its cold-start values, the commands that wait stay (LOG 7). -/
def Obligations.ColdStartValues : Prop :=
  ∀ (present : Bool) (s : State), ∃ t, exec (.coldStart present) s = .next t ∧
    t.pending = s.pending ∧ t.powered = true ∧ t.partTime = 0 ∧
    t.motion.status = .absent ∧ t.motion.bias = ⟨0, 0, 0⟩ ∧ t.motion.setup = fixedImu ∧ t.motion.limits = fixedLimits ∧
    t.filter.effMode = .off ∧ t.filter.reqMode = .off ∧ t.filter.history = [] ∧
    t.frame.state = .idle ∧ t.frame.geometry = none ∧ t.frame.exposure = 10000 ∧
    t.intake.buffer = [] ∧ t.intake.packing = [] ∧ t.intake.hold = false ∧
    t.store.state = .unmounted ∧ t.store.writer = .idle ∧ t.store.index = [] ∧ t.store.extents = [] ∧
    t.card.state = (if present then .idle else .absent) ∧ t.card.fails = 0 ∧ t.card.updates = [] ∧
    t.trig.conds = 0x0800#16 ∧ t.trig.entries = fixedTriggers ∧
    t.charge.state = .noInput ∧ t.charge.request = 3000 ∧ t.charge.ilimHost = 500 ∧ t.charge.known = false ∧
    t.thermal.tier = .clear ∧ t.thermal.supply = .normal ∧
    t.link.awake = false ∧ t.link.answers = [] ∧ t.link.reports = [] ∧ t.link.loaded = fixedPages ∧
    t.counters.toList = List.replicate 19 0

/-- BROWN_OUT stops the part with its state lost, the next cold start starts it, and no other command reaches a stopped
part (LOG 7, LOG 35: which commands a stopped part ignores is the model's reading). -/
def Obligations.SupplyLossStopsThePart : Prop :=
  (∀ (dt : Nat) (s : State), ∃ t, exec (.brownOut dt) s = .next t ∧ t.powered = false ∧ t.pending = s.pending ∧
    t.intake.buffer = [] ∧ t.intake.hold = false ∧ t.motion.wake = false ∧ t.link.reports = [] ∧ t.link.answers = [] ∧
    t.store.index = [] ∧ t.card.op = none ∧
    ∀ present, exec (.coldStart present) t = exec (.coldStart present) s) ∧
  ∀ (c : Instr) (s : State), s.powered = false → (∀ p, c ≠ .coldStart p) → (∀ dt, c ≠ .brownOut dt) → exec c s = .next s

/-- RSTIN_ASSERTION and LINK_RESET reset the link alike: the queues are emptied unsent, and what the new session then sends at
once is the answer of a LINK RESET and reports of the reset itself. LINK RESET, received while AWAKE, is performed whatever
the Answer Queue holds. The status that stands during the check (LOG 15), the end of a read in progress (LOG 14) and the
recenter made at the reset (LOG 16) are the model's readings, and that the answer leaves before the reports its choice
(LOG 19). -/
def Obligations.LinkResetResetsTheLink : Prop :=
  (∀ (dt : Nat) (s : State), s.powered = true →
    ∃ t, exec (.rstinAssertion dt) s = .next t ∧ LinkResetDone dt [] s t) ∧
  ∀ (dt : Nat) (tag : Byte) (s : State), s.powered = true → s.link.awake = true →
    ∃ t, exec (.linkReset dt tag []) s = .next t ∧ LinkResetDone dt [⟨tag, 1#8, .ok, []⟩] s t

/-- SLEEP with no frame in progress and no condition of the motion sensor set: answered OK, the link ASLEEP with nothing left
to drain, the frame IDLE, the sensor stopped or watching. In an OPEN frame: the frame ends short (`FrameFinished`), every
answer and report leaves too, and the drain ends. With the writer not IDLE: answered STATE, and nothing else
changes. That a read or an identity check in progress ends at SLEEP is the model's choice (LOG 14). -/
def Obligations.SleepPutsTheLinkAsleep : Prop :=
  (∀ (dt : Nat) (tag flag : Byte) (s : State), Ready s → flag.toNat ≤ 1 → s.store.writer = .idle →
    s.frame.state ≠ .opened → s.motion.cal = none → s.motion.freefall = false → s.motion.still = false →
    s.trig.conds &&& condMotionLost = 0#16 →
    exec (.sleep dt tag [flag]) s = .next
      ((((answered dt 2 tag .ok [] s).mapLink fun l => { l with awake := false, drain := false }).mapFrame fun f =>
        { f with state := .idle, record := none, ring := [] }).mapMotion fun m =>
        if flag = 1#8 ∧ m.status ≠ .absent then
          { m with status := .watching, watchCount := 0, reading := none, checking := false, freefallRun := none,
                   stillRun := none, sensor := some ⟨100, (m.sensor.map SensorConfig.fs).getD m.setup.fs⟩ }
        else
          { m with reading := none, checking := false, freefallRun := none, stillRun := none, sensor := none })) ∧
  (∀ (dt : Nat) (tag flag : Byte) (s : State), Ready s → flag.toNat ≤ 1 → s.store.writer ≠ .idle →
    exec (.sleep dt tag [flag]) s = .next (answered dt 2 tag .state [] s)) ∧
  ∀ (dt : Nat) (tag flag : Byte) (g : Geometry) (r : FrameRec) (s : State), s.powered = true → s.link.awake = true →
    AtRest s → s.link.answers.length < 16 → flag.toNat ≤ 1 → s.store.writer = .idle → s.frame.state = .opened →
    s.frame.geometry = some g → s.frame.record = some r →
    ∃ t, exec (.sleep dt tag [flag]) s = .next t ∧ t.link.awake = false ∧ t.link.drain = false ∧ t.link.answers = [] ∧
      t.link.reports = [] ∧ t.frame.state = .idle ∧ t.frame.record = none ∧ FrameFinished g r s t

/-- Every directive but LINK RESET is discarded against a full Answer Queue: the directives-discarded counter rises and
nothing else changes. -/
def Obligations.FullQueueDiscardsDirective : Prop :=
  ∀ (c : Instr) (d : Directive) (s : State), c.directive = some d → c.wellFormed = true → d.code ≠ 1 →
    s.powered = true → s.link.awake = true → s.intake.receive = [] → AtRest s → 16 ≤ s.link.answers.length →
    exec c s = .next ((s.tick c.elapsed).mapCounters fun k =>
      { k with directivesDiscarded := satAdd k.directivesDiscarded 1 })

/-- While the link is ASLEEP nothing is received: items of the sensor link and packets of the record link change nothing. -/
def Obligations.AsleepLinkReceivesNothing : Prop :=
  ∀ (c : Instr) (s : State), c.onLink = true → s.powered = true → s.link.awake = false → AtRest s →
    exec c s = .next (s.tick c.elapsed)

/-- A directive of a fixed length whose parameter field has another length is answered MALFORMED and counted; a directive whose
code is none of Table 11-4 is answered UNKNOWN, and nothing else changes. -/
def Obligations.WrongDirectivesAreAnswered : Prop :=
  (∀ (c : Instr) (d : Directive) (n : Nat) (s : State), c.directive = some d → d.length = some n → d.params.length ≠ n →
    d.params.length ≤ 65533 → Ready s →
    exec c s = .next ((answered c.elapsed d.code d.tag .malformed [] s).mapCounters fun k =>
      { k with malformed := satAdd k.malformed 1 })) ∧
  ∀ (dt : Nat) (tag code : Byte) (p : Bytes) (s : State), codeKnown code.toNat = false → p.length ≤ 65533 → Ready s →
    exec (.unknownDirective dt tag code p) s = .next (answered dt code.toNat tag .unknown [] s)

/-- A parameter outside its range is answered RANGE, and nothing else changes: SLEEP, SET MODE, SET LENS, SET GAUGE, READ
INDEX, MOUNT. -/
def Obligations.OutOfRangeAnsweredRange : Prop :=
  ∀ (dt : Nat) (tag : Byte) (s : State), Ready s →
    (∀ flag : Byte, 1 < flag.toNat → exec (.sleep dt tag [flag]) s = .next (answered dt 2 tag .range [] s)) ∧
    (∀ mode profile : Byte, 3 < mode.toNat ∨ 3 < profile.toNat →
      exec (.setMode dt tag [mode, profile]) s = .next (answered dt 48 tag .range [] s)) ∧
    (∀ lens : Byte, 3 < lens.toNat → exec (.setLens dt tag [lens]) s = .next (answered dt 51 tag .range [] s)) ∧
    (∀ percent : Byte, 100 < percent.toNat →
      exec (.setGauge dt tag [percent]) s = .next (answered dt 83 tag .range [] s)) ∧
    (∀ p : Bytes, p.length = 5 → uintAt p 4 1 = 0 ∨ 16 < uintAt p 4 1 →
      exec (.readIndex dt tag p) s = .next (answered dt 72 tag .range [] s)) ∧
    ∀ p : Bytes, p.length = 11 →
      uintAt p 4 2 < 8 ∨ 16384 < uintAt p 4 2 ∨ 4294967296 < uintAt p 0 4 + uintAt p 4 2 * 16384 ∨ 1 < uintAt p 10 1 →
      exec (.mount dt tag p) s = .next (answered dt 64 tag .range [] s)

/-! ### Reading and tables -/

/-- READ STATUS, READ COUNTERS, READ POWER, READ INDEX and READ CLIP answer OK with what the part holds and change nothing
else; CLEAR COUNTERS sets every counter to 0. Every item of READ STATUS's data, of READ COUNTERS's, of READ POWER's, of a
summary and of a record is written out here. The model's readings and choices are: the layouts of the data (LOG 28, LOG 55, LOG
58), a summary without the first video PTS (LOG 69), each class of the pending claims once, highest first (LOG 72), the
effective mode that the last frame start resolved (LOG 73), the claims listed beside a write of the writer in flight
(`pendingClasses`, LOG 50), the place and the width of the Angle History's entry count (LOG 68), a next clip number past
4,294,967,295 shown by its low 32 bits as 0 (LOG 51), the next clip number sent without a presence byte, 0 for none (LOG 62),
the conditions sent as one mask and the last values as marks (LOG 63), and that READ STATUS does not count its own answer in
the length of the Answer Queue (LOG 54), and that it returns each table's active page, which while a selection waits need not
be the page in force (LOG 65). -/
def Obligations.ReadsAnswerWhatThePartHolds : Prop :=
  ∀ (dt : Nat) (tag : Byte) (s : State), Ready s →
    let flags (f : ClipFlags) : Byte := BitVec.ofNat 8 ((if f.gap then 1 else 0) + (if f.truncated then 2 else 0) +
      (if f.unfinished then 4 else 0) + (if f.card then 8 else 0) + if f.continued then 16 else 0)
    let head (c : Clip) : Bytes := le 4 c.number ++ le 1 c.state.code ++ markByte c.locked ++ [flags c.flags]
    let summary (c : Clip) : Bytes := head c ++ optLe 1 (c.reason.map CloseReason.code) ++ le 8 c.start ++ le 8 c.duration ++
      le 2 c.extentCount ++ le 4 c.dataBlocks ++ le 1 c.markers.length
    let record (c : Clip) : Bytes := head c ++ le 8 c.start ++ optLe 8 c.openTime ++ optLe 8 c.firstPts ++ le 8 c.duration ++
      optLe 2 c.firstExtent ++ optLe 2 c.lastExtent ++ le 2 c.extentCount ++ le 4 c.dataBlocks ++ le 1 c.markers.length ++
      c.markers.flatMap (fun m => le 8 m.time ++ le 8 m.pts ++ le 1 m.kind) ++ optLe 1 (c.reason.map CloseReason.code)
    let occupied := s.intake.buffer.length + if s.intake.packing = [] then 0 else 1
    exec (.readStatus dt tag []) s = .next (answered dt 3 tag .ok
      ((markByte s.link.awake ++ le 1 s.link.answers.length ++ le 1 s.link.reports.length ++ le 4 s.link.lost ++
        markByte s.link.held.isSome ++ markByte s.motion.wake ++
        (List.range 8).flatMap (fun t => markByte (s.link.loadedActive t) ++ markByte (s.link.waits t)) ++
        le 1 s.filter.reqMode.code ++ le 1 s.filter.effMode.code ++ optLe 1 (s.frame.geometry.map Geometry.slew) ++
        le 1 s.frame.lastSlew ++ le 2 s.charge.request ++ le 2 s.charge.setpoint ++ le 2 s.charge.ilimHost ++
        le 2 (s.charge.ilimEff.getD 0) ++ le 1 s.motion.status.code ++ leInt 2 s.motion.bias.yaw ++
        leInt 2 s.motion.bias.pitch ++ leInt 2 s.motion.bias.roll) ++
      (le 1 s.filter.profile ++ le 4 (s.filter.accYaw / s.filter.rate) ++ le 4 (s.filter.accPitch / s.filter.rate) ++
        le 4 (s.filter.accRoll / s.filter.rate) ++ le 4 s.filter.smoothYaw ++ le 4 s.filter.smoothPitch ++
        le 1 s.filter.history.length) ++
      ((s.frame.geometry.elim (List.replicate 11 0#8) fun g =>
          1#8 :: (le 2 g.wIn ++ le 2 g.hIn ++ le 2 g.wOut ++ le 2 g.hOut ++ le 1 g.nb ++ le 1 g.slew)) ++
        le 1 s.frame.lens ++ le 4 s.frame.exposure ++ markByte s.frame.pendGeometry.isSome ++
        markByte s.frame.pendLens.isSome ++ markByte s.frame.pendExposure.isSome ++ le 1 s.frame.lastSlew ++
        le 1 s.frame.lastNb ++ le 1 s.frame.state.code ++ le 4 s.frame.nextNumber) ++
      (le 4 s.intake.buffer.length ++ le 2 s.intake.packing.length ++ le 4 occupied ++ le 4 (8192 - occupied) ++
        markByte s.intake.hold ++ markByte s.intake.bufCause ++ markByte s.intake.ansCause ++
        (s.intake.record.elim (List.replicate 7 0#8) fun r =>
          1#8 :: (le 4 r.clip ++ markByte r.syncMet ++ markByte r.splitMark)) ++
        optLe 8 (s.intake.stallEnd.map fun t => t - (s.partTime + dt))) ++
      (le 1 s.store.state.code ++ le 1 s.store.writer.code ++ le 4 s.store.areaStart ++ le 2 s.store.count ++
        le 4 s.store.generation ++ le 2 s.store.free.length ++ le 2 (s.store.extents.filter fun e => e = .bad).length ++
        le 2 s.store.index.length ++ le 4 s.store.nextClip ++ le 2 s.store.lockedExtents ++ le 2 s.store.quota ++
        le 2 s.store.quotaEff ++ optLe 4 (s.store.openClip.map Clip.number) ++
        le 1 s.card.state.code ++ le 1 s.card.fails ++
        (s.card.op.elim (List.replicate 11 0#8) fun o =>
          1#8 :: (le 1 o.cls ++ le 1 o.kind.code ++ le 4 o.addr ++ le 4 o.count)) ++
        le 1 (pendingClasses s).length ++ (pendingClasses s).flatMap (le 1) ++ le 1 s.card.updates.length ++
        markByte s.card.slot.isSome ++ le 2 s.trig.conds.toNat ++ s.trig.last.flatMap markByte ++
        markByte (s.link.loadedActive 5) ++ le 1 s.thermal.tier.code ++ le 1 s.thermal.supply.code ++
        leInt 2 s.charge.meas.dieTemp ++ le 2 s.charge.meas.vbat ++ le 8 (s.partTime + dt))) s) ∧
    (let k := s.counters
     exec (.readCounters dt tag []) s = .next (answered dt 4 tag .ok
      ([k.framesOut, k.unconfigured, k.shortFrames, k.longFrames, k.paddedLines, k.bandClamps, k.historyClamps, k.ringMisses,
        k.samplesLost, k.shocks, k.shocksAsleep, k.packetsDiscarded, k.packetsDropped, k.malformed, k.directivesDiscarded,
        k.cardErrors, k.cardRetries, k.emergencyCloses, k.reclaimedClips].flatMap (le 4)) s)) ∧
    exec (.clearCounters dt tag []) s = .next ((answered dt 5 tag .ok [] s).mapCounters fun _ => zeroCounters) ∧
    (let q := s.charge
     exec (.readPower dt tag []) s = .next (answered dt 84 tag .ok
      (le 2 q.meas.vin ++ le 2 q.meas.iin ++ le 2 q.meas.vbat ++ leInt 2 q.meas.ibat ++ leInt 2 q.meas.batTemp ++
        leInt 2 q.meas.dieTemp ++ markByte q.vin ++ le 1 (bandCode q.band) ++ le 1 q.state.code ++ le 1 q.reason.code ++
        le 2 q.setpoint ++ le 2 q.request ++ le 2 (q.ilimEff.getD 0) ++ le 2 q.ilimHost ++ le 4 q.preTimer ++
        le 4 q.chargeTimer ++ le 1 q.termCount ++ markByte q.known ++
        le 1 (if q.known then q.cq * 100 / (q.tab.capacity * 36000) else 0) ++ le 4 (if q.known then q.cq else 0) ++
        le 1 s.thermal.tier.code ++ le 1 s.thermal.supply.code) s)) ∧
    (∀ p : Bytes, p.length = 5 → 1 ≤ uintAt p 4 1 → uintAt p 4 1 ≤ 16 → s.store.state = .ready ∨ s.store.state = .fault →
      exec (.readIndex dt tag p) s = .next (answered dt 72 tag .ok
        (let found := (s.store.index.filter fun c => uintAt p 0 4 ≤ c.number).take (uintAt p 4 1)
         le 1 found.length ++ found.flatMap summary) s)) ∧
    ∀ (p : Bytes) (c : Clip), p.length = 4 → s.store.state = .ready ∨ s.store.state = .fault →
      s.store.named (uintAt p 0 4) = some c →
      exec (.readClip dt tag p) s = .next (answered dt 73 tag .ok (record c) s)

/-- READ ENTRY: RANGE outside its ranges, otherwise the entry as the named page holds it, active or not. What a write to the
loaded page stored is what a read of it gives, a write leaves every other entry as it was, and no command but those that can
carry a WRITE ENTRY, and a loss of the supply, changes a loaded page. -/
def Obligations.ReadEntryReturnsThePage : Prop :=
  (∀ (dt : Nat) (tag t page i : Byte) (s : State), Ready s →
    (7 < t.toNat ∨ 1 < page.toNat ∨ entryCount t.toNat ≤ i.toNat →
      exec (.readEntry dt tag [t, page, i]) s = .next (answered dt 17 tag .range [] s)) ∧
    (t.toNat ≤ 7 → i.toNat < entryCount t.toNat → page = 0#8 →
      exec (.readEntry dt tag [t, page, i]) s = .next (answered dt 17 tag .ok (fixedPages.readEntry t.toNat i.toNat) s)) ∧
    (t.toNat ≤ 7 → i.toNat < entryCount t.toNat → page = 1#8 →
      exec (.readEntry dt tag [t, page, i]) s =
        .next (answered dt 17 tag .ok (s.link.loaded.readEntry t.toNat i.toNat) s))) ∧
  (∀ (g g' : Pages) (t i : Nat) (b : Bytes), t ≤ 7 → i < entryCount t → b.length = entryLength t → g.lens.length = 4 →
    g.smoothing.length = 4 → g.triggers.length = 8 → g.writeEntry t i b = some g' →
    g'.readEntry t i = b ∧
      ∀ t' i' : Nat, t' ≤ 7 → i' < entryCount t' → (t', i') ≠ (t, i) → g'.readEntry t' i' = g.readEntry t' i') ∧
  ∀ (c : Instr) (s t : State), (∀ dt tag p, c ≠ .writeEntry dt tag p) → (∀ dt bytes, c ≠ .malformedPacket dt bytes) →
    (∀ dt tag code p, c ≠ .unknownDirective dt tag code p) → (∀ present, c ≠ .coldStart present) →
    (∀ dt, c ≠ .brownOut dt) → exec c s = .next t → t.link.loaded = s.link.loaded

/-- WRITE ENTRY, checked in the order of R180: RANGE, MALFORMED, IN_USE, RANGE where a field lies outside its range in its
table, and otherwise the loaded page takes the entry, which is then what the page holds there. The layout of an entry's bytes
is R188's, the sign of an axis map in one byte the model's reading (LOG 28). -/
def Obligations.WriteEntryWritesTheLoadedPage : Prop :=
  ∀ (dt : Nat) (tag t i : Byte) (b : Bytes) (s : State), Ready s → b.length ≤ 65531 →
    (7 < t.toNat ∨ entryCount t.toNat ≤ i.toNat →
      exec (.writeEntry dt tag (t :: i :: b)) s = .next (answered dt 16 tag .range [] s)) ∧
    (t.toNat ≤ 7 → i.toNat < entryCount t.toNat → b.length ≠ entryLength t.toNat →
      exec (.writeEntry dt tag (t :: i :: b)) s =
        .next ((answered dt 16 tag .malformed [] s).mapCounters fun k => { k with malformed := satAdd k.malformed 1 })) ∧
    (t.toNat ≤ 7 → i.toNat < entryCount t.toNat → b.length = entryLength t.toNat →
      (s.link.loadedActive t.toNat = true →
        exec (.writeEntry dt tag (t :: i :: b)) s = .next (answered dt 16 tag .inUse [] s)) ∧
      (s.link.loadedActive t.toNat = false →
        (¬EntryInRange t.toNat b →
          exec (.writeEntry dt tag (t :: i :: b)) s = .next (answered dt 16 tag .range [] s)) ∧
        (EntryInRange t.toNat b → ∃ g, s.link.loaded.writeEntry t.toNat i.toNat b = some g ∧
          (TablesSized s → g.readEntry t.toNat i.toNat = b) ∧
          exec (.writeEntry dt tag (t :: i :: b)) s =
            .next ((answered dt 16 tag .ok [] s).mapLink fun l => { l with loaded := g }))))

/-- SELECT PAGE: a table number above 7 or a page above 1 is RANGE; a page already active changes nothing; a
loaded page that fails its table's consistency test is refused; otherwise the mark moves and the values are captured: LENS, SMOOTHING, CHARGE and THERMAL & SUPPLY
wait for their application point, MOTION LIMITS and TRIGGERS apply at once, TRIGGERS with every last value set afresh. -/
def Obligations.SelectPageCapturesThePage : Prop :=
  ∀ (dt : Nat) (tag page : Byte) (s : State), Ready s →
    (∀ t : Byte, 7 < t.toNat ∨ 1 < page.toNat →
      exec (.selectPage dt tag [t, page]) s = .next (answered dt 18 tag .range [] s)) ∧
    (page.toNat ≤ 1 →
      let g := if page = 0#8 then fixedPages else s.link.loaded
      let marked (t : Nat) := (answered dt 18 tag .ok [] s).mapLink fun l => { l with active := l.active.set t (page = 1#8) }
      let taken (t : Nat) : Prop := s.link.loadedActive t ≠ decide (page = 1#8) ∧
        (page = 1#8 → PageConsistent s.link.loaded t)
      (∀ t : Byte, t.toNat ≤ 7 → s.link.loadedActive t.toNat = decide (page = 1#8) →
        exec (.selectPage dt tag [t, page]) s = .next (answered dt 18 tag .ok [] s)) ∧
      (∀ t : Byte, t.toNat ≤ 7 → page = 1#8 → s.link.loadedActive t.toNat = false →
        ¬PageConsistent s.link.loaded t.toNat →
        exec (.selectPage dt tag [t, page]) s = .next (answered dt 18 tag .inconsistent [] s)) ∧
      (taken 1 → exec (.selectPage dt tag [1#8, page]) s =
        .next ((marked 1).mapLink fun l => { l with waitLens := some g.lens })) ∧
      (taken 2 → exec (.selectPage dt tag [2#8, page]) s =
        .next ((marked 2).mapLink fun l => { l with waitSmoothing := some g.smoothing })) ∧
      (taken 3 → exec (.selectPage dt tag [3#8, page]) s =
        .next ((marked 3).mapMotion fun m => { m with limits := g.limits })) ∧
      (taken 5 → exec (.selectPage dt tag [5#8, page]) s =
        .next ((marked 5).mapTrig fun u =>
          { u with entries := g.triggers, last := g.triggers.map fun e => e.value u.conds })) ∧
      (taken 6 → exec (.selectPage dt tag [6#8, page]) s =
        .next ((marked 6).mapLink fun l => { l with waitCharge := some g.charge })) ∧
      (taken 7 → exec (.selectPage dt tag [7#8, page]) s =
        .next ((marked 7).mapLink fun l => { l with waitThermal := some g.thermal })))

/-- SELECT PAGE of IMU SETUP, of either page, while sampling: the sensor is reconfigured at once, the accumulators are
re-expressed and the filter recentered, and a calibration run in progress ends with MOVED; that this is so also where an
identity check is in progress is the model's reading (LOG 40), and that in the room the answer leaves before CAL_ABORTED its
choice (LOG 19). With the sensor ABSENT or WATCHING the page is held. Of STORE
the page takes effect at once, with Q and Q_eff computed afresh. -/
def Obligations.SelectImuAndStoreApplyAtOnce : Prop :=
  ∀ (dt : Nat) (tag page : Byte) (s : State), Ready s → page.toNat ≤ 1 →
    let loaded := decide (page = 1#8)
    let g := if loaded then s.link.loaded else fixedPages
    let marked (t : Nat) : State := (answered dt 18 tag .ok [] s).mapLink fun l => { l with active := l.active.set t loaded }
    let configured : State := (((marked 0).mapLink fun l => { l with waitImu := none }).mapMotion fun m =>
      { m with setup := g.imu, expected := none, sensor := some ⟨g.imu.odr, g.imu.fs⟩ }).mapFilter fun f =>
        if g.imu.odr = f.rate then { f with smoothYaw := f.yaw, smoothPitch := f.pitch, history := [] }
        else
          { f with accYaw := f.yaw * g.imu.odr, accPitch := f.pitch * g.imu.odr, accRoll := f.roll * g.imu.odr,
                   rate := g.imu.odr, smoothYaw := f.yaw * g.imu.odr / g.imu.odr,
                   smoothPitch := f.pitch * g.imu.odr / g.imu.odr, history := [] }
    (s.link.loadedActive 0 ≠ loaded →
      (s.motion.cal = none → s.motion.status = .running ∨ s.motion.status = .lost →
        exec (.selectPage dt tag [0#8, page]) s = .next configured) ∧
      (∀ c, s.motion.cal = some c → s.motion.status = .calibrating → s.link.reports.length < 32 →
        exec (.selectPage dt tag [0#8, page]) s = .next (reported (.calAborted .moved c.count)
          (configured.mapMotion fun m => { m with cal := none, status := .running }))) ∧
      (s.motion.status = .absent ∨ s.motion.status = .watching → exec (.selectPage dt tag [0#8, page]) s =
        .next ((marked 0).mapLink fun l => { l with waitImu := some g.imu }))) ∧
    (s.link.loadedActive 4 ≠ loaded → (loaded = true → s.link.loaded.store.holdMark < s.link.loaded.store.releaseMark) →
      ∃ t, exec (.selectPage dt tag [4#8, page]) s = .next t ∧ t.store.tab = g.store ∧
        t.store.quota = s.store.count * g.store.quotaPercent / 100 ∧
        t.store.quotaEff = max (s.store.count * g.store.quotaPercent / 100) s.store.lockedExtents ∧
        t.link.active = s.link.active.set 4 loaded)

/-! ### Motion and filter -/

/-- RECENTER is answered OK in every motion status and effective mode and performs a forced recenter when it is taken: the smoothed
angles take the angles as they stand, the Angle History is cleared of every entry, the newest among them, and nothing else
changes. -/
def Obligations.RecenterIsForced : Prop :=
  ∀ (dt : Nat) (tag : Byte) (s : State), Ready s →
    exec (.recenter dt tag []) s = .next ((answered dt 49 tag .ok [] s).mapFilter fun f =>
      { f with smoothYaw := f.accYaw / f.rate, smoothPitch := f.accPitch / f.rate, history := [] })

/-- CALIBRATE by motion status: OK with a run opened, BUSY, or STATE. SET MODE changes the requested mode and profile. SET LENS,
SET EXPOSURE and SET GEOMETRY make their value pending for the next frame start; a geometry outside R48 is refused RANGE.
Nothing else changes. -/
def Obligations.CalibrateModeAndFrameSettings : Prop :=
  ∀ (dt : Nat) (tag : Byte) (s : State), Ready s →
    (s.motion.status = .running →
      exec (.calibrate dt tag []) s = .next ((answered dt 32 tag .ok [] s).mapMotion fun m =>
        { m with status := .calibrating, cal := some ⟨0, ⟨0, 0, 0⟩, none⟩ })) ∧
    (s.motion.status = .calibrating → exec (.calibrate dt tag []) s = .next (answered dt 32 tag .busy [] s)) ∧
    (s.motion.status = .lost ∨ s.motion.status = .absent →
      exec (.calibrate dt tag []) s = .next (answered dt 32 tag .state [] s)) ∧
    (∀ (code profile : Byte) (m : Mode), m.code = code.toNat → profile.toNat ≤ 3 →
      exec (.setMode dt tag [code, profile]) s = .next ((answered dt 48 tag .ok [] s).mapFilter fun f =>
        { f with reqMode := m, profile := profile.toNat })) ∧
    (∀ lens : Byte, lens.toNat ≤ 3 →
      exec (.setLens dt tag [lens]) s = .next ((answered dt 51 tag .ok [] s).mapFrame fun f =>
        { f with pendLens := some lens.toNat })) ∧
    (∀ p : Bytes, p.length = 4 →
      exec (.setExposure dt tag p) s = .next ((answered dt 52 tag .ok [] s).mapFrame fun f =>
        { f with pendExposure := some (min 1000000 (uintAt p 0 4)) })) ∧
    ∀ p : Bytes, p.length = 10 →
      let wIn := uintAt p 0 2
      let hIn := uintAt p 2 2
      let wOut := uintAt p 4 2
      let hOut := uintAt p 6 2
      let nb := uintAt p 8 1
      let ok := 640 ≤ wIn ∧ wIn ≤ 4096 ∧ wIn % 16 = 0 ∧ 360 ≤ hIn ∧ hIn ≤ 3072 ∧ 320 ≤ wOut ∧ wOut ≤ wIn ∧ 180 ≤ hOut ∧
        hOut ≤ hIn ∧ (wIn - wOut) % 2 = 0 ∧ (hIn - hOut) % 2 = 0 ∧ (nb = 1 ∨ nb = 2 ∨ nb = 4 ∨ nb = 8 ∨ nb = 16) ∧
        hOut % nb = 0
      (ok → exec (.setGeometry dt tag p) s = .next ((answered dt 50 tag .ok [] s).mapFrame fun f =>
        { f with pendGeometry := some ⟨wIn, hIn, wOut, hOut, nb, min 15 (max 1 (uintAt p 9 1))⟩ })) ∧
      (¬ok → exec (.setGeometry dt tag p) s = .next (answered dt 50 tag .range [] s))

/-- IMU_DRDY_EDGE: the edge is stamped and a read begins where the part reads; otherwise nothing happens. -/
def Obligations.DataReadyEdgeBeginsARead : Prop :=
  ∀ (dt : Nat) (s : State), s.powered = true → AtRest s →
    (s.motion.status ≠ .absent → s.motion.checking = false → s.motion.reading = none →
      s.link.awake = true ∨ s.motion.status = .watching →
      exec (.imuDrdyEdge dt) s =
        .next ((s.tick dt).mapMotion fun m => { m with reading := some (s.partTime + dt) })) ∧
    (s.motion.status = .absent ∨ s.motion.checking = true ∨ s.motion.reading ≠ none ∨
      (s.link.awake = false ∧ s.motion.status ≠ .watching) →
      exec (.imuDrdyEdge dt) s = .next (s.tick dt))

/-- SAMPLE_TAKEN. In RUNNING: a gap of up to 8 is filled with the last rates, each sample and fill is integrated under the bias
and enters the history with the sample's time, and the gap is counted lost; with no gap the smoothed angles follow the profile
in STEADY and ECO, and are the angles in OFF; a gap above 8 is counted and leaves the new sample alone in the cleared history.
In LOST the status is RUNNING again, the new sample stands alone in the history, and none is counted lost. In CALIBRATING, with
no gap, a sample near the first joins the run's sums, and the 1024th sets the bias to the rounded means where all three are in
range; a sample far from the first, or a gap, ends the run with MOVED. That a sample counts when its read ends, so that a read
in progress at a CALIBRATE gives the run's first sample, is the model's choice (LOG 71). -/
def Obligations.SampleTakenIsIntegrated : Prop :=
  ∀ (dt time : Nat) (x : SampleRecord) (s : State), s.powered = true → s.motion.reading = some time → 0 < s.filter.rate →
    let r := s.motion.setup.rates x
    let b := s.motion.bias
    let last := s.motion.lastRates
    let k := 2 * s.motion.setup.fs
    let turn : Int := 23592960 * s.filter.rate
    let gap (g : Nat) : Prop := (s.motion.expected = none ∧ g = 0) ∨
      ∃ e, s.motion.expected = some e ∧ g = (x.seq.toNat + 256 - e) % 256
    (s.motion.status = .running → ∃ t, exec (.sampleTaken dt x) s = .next t ∧
      t.motion.reading = none ∧ t.motion.status = .running ∧ t.motion.lastStamp = some time ∧
      t.motion.expected = some ((x.seq.toNat + 1) % 256) ∧ t.motion.lastRates = r ∧ t.motion.bias = b ∧
      ∀ g, gap g →
        (g ≤ 8 →
          t.filter.accYaw = ((s.filter.accYaw + (g * (last.yaw - b.yaw) + (r.yaw - b.yaw)) * k) % turn).toNat ∧
          t.filter.accPitch = ((s.filter.accPitch + (g * (last.pitch - b.pitch) + (r.pitch - b.pitch)) * k) % turn).toNat ∧
          t.filter.accRoll = ((s.filter.accRoll + (g * (last.roll - b.roll) + (r.roll - b.roll)) * k) % turn).toNat ∧
          t.filter.history.map HistoryEntry.time =
            (s.filter.history.map HistoryEntry.time ++ List.replicate (g + 1) time).drop
              (s.filter.history.length + (g + 1) - 64) ∧
          (s.filter.effMode = .off → t.filter.smoothYaw = t.filter.accYaw / s.filter.rate ∧
            t.filter.smoothPitch = t.filter.accPitch / s.filter.rate)) ∧
        (g = 0 → t.counters.samplesLost = s.counters.samplesLost ∧
          ∀ e h, s.filter.effMode = .steady ∨ s.filter.effMode = .eco →
            (s.link.waitSmoothing.getD s.filter.smoothing)[s.filter.profile]? = some e →
            t.filter.history.getLast? = some h →
            Smoothed e s.filter.marginX (t.filter.accYaw / s.filter.rate) s.filter.smoothYaw t.filter.smoothYaw h.cYaw ∧
            Smoothed e s.filter.marginY (t.filter.accPitch / s.filter.rate) s.filter.smoothPitch t.filter.smoothPitch
              h.cPitch) ∧
        (1 ≤ g → t.counters.samplesLost = satAdd s.counters.samplesLost g) ∧
        (8 < g → t.filter.history.map HistoryEntry.time = [time])) ∧
    (s.motion.status = .lost → ∃ t, exec (.sampleTaken dt x) s = .next t ∧ t.motion.status = .running ∧
      t.motion.lastStamp = some time ∧ t.motion.expected = some ((x.seq.toNat + 1) % 256) ∧
      (t.filter.history.map HistoryEntry.time) = [time] ∧ t.counters.samplesLost = s.counters.samplesLost) ∧
    ∀ c, s.motion.status = .calibrating → s.motion.cal = some c →
      let first := c.first.getD r
      let lim := s.motion.limits.stillThreshold
      let near := (r.yaw - first.yaw).natAbs ≤ lim ∧ (r.pitch - first.pitch).natAbs ≤ lim ∧ (r.roll - first.roll).natAbs ≤ lim
      let sums : Axes := ⟨c.sums.yaw + r.yaw, c.sums.pitch + r.pitch, c.sums.roll + r.roll⟩
      let mean (v : Int) : Int := roundDiv v 1024
      ∃ t, exec (.sampleTaken dt x) s = .next t ∧
        (gap 0 → near → c.count ≠ 1023 →
          t.motion.status = .calibrating ∧ t.motion.cal = some ⟨c.count + 1, sums, some first⟩ ∧ t.motion.bias = b) ∧
        (gap 0 → near → c.count = 1023 → t.motion.status = .running ∧ t.motion.cal = none ∧
          (inBiasRange (mean sums.yaw) ∧ inBiasRange (mean sums.pitch) ∧ inBiasRange (mean sums.roll) →
            t.motion.bias = ⟨mean sums.yaw, mean sums.pitch, mean sums.roll⟩ ∧ t.filter.history = []) ∧
          (¬(inBiasRange (mean sums.yaw) ∧ inBiasRange (mean sums.pitch) ∧ inBiasRange (mean sums.roll)) →
            t.motion.bias = b)) ∧
        ((gap 0 ∧ ¬near) ∨ ¬gap 0 → t.motion.status = .running ∧ t.motion.cal = none ∧ t.motion.bias = b ∧
          (AtRest s → Quiet (condShock ||| condFreefall ||| condStill ||| condMotionLost) s → s.link.reports.length < 28 →
            Issued (.calAborted .moved c.count) t))

/-- A sample outside any holdoff, some acceleration of which reaches the shock threshold, starts a holdoff and is counted:
in the shocks counter, or while WATCHING in the shocks-asleep counter and the watch shock count, which asserts WAKE at a
non-zero wake count, and is reported with the axis of the largest magnitude, the lowest of equals, and its value. The freefall and stillness runs of a RUNNING part open, last and close by the sample, and a condition
that a sample without shock or gap changes is reported: FREEFALL, STILL_BEGIN, STILL_END. -/
def Obligations.ShockIsDetectedAndCounted : Prop :=
  (∀ (dt time : Nat) (x : SampleRecord) (s : State), s.powered = true → s.motion.reading = some time →
    (∀ e, s.motion.holdoffEnd = some e → e ≤ time) →
    (s.motion.limits.shockThreshold ≤ x.ax.toInt.natAbs ∨ s.motion.limits.shockThreshold ≤ x.ay.toInt.natAbs ∨
      s.motion.limits.shockThreshold ≤ x.az.toInt.natAbs) →
    let acc := [x.ax.toInt, x.ay.toInt, x.az.toInt]
    let Peak (i : Nat) (v : Int) : Prop := acc[i]? = some v ∧ (∀ w ∈ acc, w.natAbs ≤ v.natAbs) ∧
      ∀ j < i, ∀ w, acc[j]? = some w → w.natAbs < v.natAbs
    (s.motion.status = .running → ∃ t, exec (.sampleTaken dt x) s = .next t ∧
      t.motion.holdoffEnd = some (time + 1000 * s.motion.limits.shockHoldoff) ∧
      t.counters.shocks = satAdd s.counters.shocks 1 ∧ t.counters.shocksAsleep = s.counters.shocksAsleep ∧
      t.motion.wake = s.motion.wake ∧ (s.link.reports.length < 30 → ∀ i v, Peak i v → Issued (.shock i v) t)) ∧
    (s.motion.status = .watching → ∃ t, exec (.sampleTaken dt x) s = .next t ∧
      t.motion.holdoffEnd = some (time + 1000 * s.motion.limits.shockHoldoff) ∧
      t.counters.shocksAsleep = satAdd s.counters.shocksAsleep 1 ∧ t.counters.shocks = s.counters.shocks ∧
      t.motion.watchCount = min (s.motion.watchCount + 1) 255 ∧
      (t.motion.wake = true ↔ s.motion.wake = true ∨
        (s.motion.limits.wakeCount ≠ 0 ∧ s.motion.limits.wakeCount ≤ t.motion.watchCount)) ∧
      t.filter = s.filter ∧ (s.link.reports.length < 32 → ∀ i v, Peak i v → Issued (.shock i v) t))) ∧
  ∀ (dt time : Nat) (x : SampleRecord) (s : State), s.powered = true → s.motion.reading = some time →
    s.motion.status = .running →
    let m := s.motion
    let r := m.setup.rates x
    let below (v : Nat) : Prop := x.ax.toInt.natAbs < v ∧ x.ay.toInt.natAbs < v ∧ x.az.toInt.natAbs < v
    let steady := (r.yaw - m.bias.yaw).natAbs ≤ m.limits.stillThreshold ∧
      (r.pitch - m.bias.pitch).natAbs ≤ m.limits.stillThreshold ∧ (r.roll - m.bias.roll).natAbs ≤ m.limits.stillThreshold
    ∃ t, exec (.sampleTaken dt x) s = .next t ∧
      (below m.limits.freefallThreshold → t.motion.freefallRun = some (m.freefallRun.getD time) ∧
        (t.motion.freefall = true ↔
          m.freefall = true ∨ m.freefallRun.getD time + 1000 * m.limits.freefallTime ≤ time)) ∧
      (¬below m.limits.freefallThreshold → t.motion.freefallRun = none ∧ t.motion.freefall = false) ∧
      (steady → t.motion.stillRun = some (m.stillRun.getD time) ∧
        (t.motion.still = true ↔ m.still = true ∨ m.stillRun.getD time + 1000000 * m.limits.stillTime ≤ time)) ∧
      (¬steady → t.motion.stillRun = none ∧ t.motion.still = false) ∧
      (below m.limits.shockThreshold → (m.expected = none ∨ m.expected = some x.seq.toNat) → s.link.reports.length < 31 →
        (m.freefall = false → t.motion.freefall = true → Issued .freefall t) ∧
        (m.still = false → t.motion.still = true → Issued .stillBegin t) ∧
        (m.still = true → t.motion.still = false → Issued .stillEnd t))

/-- MOTION_LOST: 20 ms after the last sample the status becomes LOST, the runs and their conditions end, a calibration run
ends; the abort of that run, MOTION_LOST with the last stamp, and STILL_END are reported in this order, and the condition
MOTION_LOST becomes true. The filter and the frame are left alone, but for a trailer that leaves. That MOTION_LOST before its time lets only time
pass (LOG 8, LOG 1), and that a read in progress, of a record stamped within the 20 ms, neither counts as a sample nor ends
(LOG 60), are the model's choices. -/
def Obligations.SilenceLosesMotion : Prop :=
  ∀ (dt stamp : Nat) (s : State), s.powered = true → s.link.awake = true → s.motion.checking = false →
    s.motion.status = .running ∨ s.motion.status = .calibrating → s.motion.lastStamp = some stamp →
    (stamp + 20000 ≤ s.partTime + dt → ∃ t, exec (.motionLost dt) s = .next t ∧
      t.motion = { s.motion with status := .lost, cal := none, freefallRun := none, stillRun := none, freefall := false,
                                 still := false } ∧
      t.filter = s.filter ∧ t.frame = { s.frame with trailer := t.frame.trailer } ∧ t.charge = s.charge ∧
      (s.link.reports.length < 30 → IssuedInOrder ((s.motion.cal.map fun c => .calAborted .moved c.count).toList ++
        .motionLost stamp :: if s.motion.still then [.stillEnd] else []) t) ∧
      (s.trig.waiting = [] → t.trig.conds &&& condMotionLost = condMotionLost ∧
        (s.motion.freefall = true → t.trig.conds &&& condFreefall = 0#16) ∧
        (s.motion.still = true → t.trig.conds &&& condStill = 0#16))) ∧
    (s.partTime + dt < stamp + 20000 → AtRest s → exec (.motionLost dt) s = .next (s.tick dt))

/-- IDENTITY_CHECK ends a link reset: on a match the sensor is configured and the status becomes RUNNING with no sequence
number expected; otherwise it becomes ABSENT. Either way a held IMU SETUP page is in force (also one selected while the check
ran, LOG 53), the history is empty, MOTION_LOST is false, and every trigger entry's last value is its value under the conditions;
at rest no entry fires, whatever it watches. That a calibration run opened during the check ends with it is the model's reading
(LOG 16). -/
def Obligations.IdentityCheckEndsTheReset : Prop :=
  ∀ (dt : Nat) (ident : Option (BitVec 8)) (s : State), s.powered = true → s.motion.checking = true →
    let setup := s.link.waitImu.getD s.motion.setup
    ∃ t, exec (.identityCheck dt ident) s = .next t ∧ t.motion.checking = false ∧ t.motion.cal = none ∧
      t.motion.setup = setup ∧ t.link.waitImu = none ∧ t.motion.bias = s.motion.bias ∧ t.filter.history = [] ∧
      (s.trig.waiting = [] → t.trig.conds &&& condMotionLost = 0#16) ∧ t.trig.entries = s.trig.entries ∧
      t.trig.last = t.trig.entries.map (fun e => e.value t.trig.conds) ∧
      (AtRest s → t.store = s.store ∧ t.intake = s.intake ∧ t.card = s.card) ∧
      (ident.map BitVec.toNat = some setup.identity →
        t.motion.status = .running ∧ t.motion.expected = none ∧ t.motion.lastStamp = none ∧
        t.motion.sensor = some ⟨setup.odr, setup.fs⟩ ∧ t.filter.rate = setup.odr) ∧
      (ident.map BitVec.toNat ≠ some setup.identity → t.motion.status = .absent ∧ t.motion.sensor = s.motion.sensor)

/-! ### Frames and side slots -/

/-- FRAME_START_MARKER outside a frame in progress: the pending settings and a waiting LENS page apply, the margin angles
follow, the mode is resolved by Table 2-4, and a frame begins, or is discarded and counted for want of a geometry. In an OPEN
frame: that frame ends short (`FrameFinished`), and the next begins. Either way the new frame has an undecided record with offsets
of 0 and no flag for each band, no row and no line yet, no last row, no mark of a long frame, and an empty Line Ring. -/
def Obligations.FrameStartBeginsAFrame : Prop :=
  (∀ (dt : Nat) (count : BitVec 16) (g : Geometry) (r : FrameRec) (s : State), s.powered = true → s.link.awake = true →
    s.frame.state = .opened → s.frame.geometry = some g → s.frame.record = some r →
    ∃ t r', exec (.frameStartMarker dt count) s = .next t ∧ t.frame.state = .opened ∧
      FrameFinished g r s t ∧ t.frame.geometry = s.frame.pendGeometry.or s.frame.geometry ∧
      t.frame.lensPage = s.link.waitLens.getD s.frame.lensPage ∧ t.link.waitLens = none ∧
      t.frame.record = some r' ∧ r'.number = s.frame.nextNumber ∧ r'.sensorCount = count ∧ r'.start = s.partTime + dt ∧
      (∀ g', t.frame.geometry = some g' → r'.nb = (if r'.mode = .eco then 1 else g'.nb) ∧ r'.lb = g'.hOut / r'.nb) ∧
      r'.bands = List.replicate r'.nb ⟨false, 0, 0, false, false, false, false⟩ ∧ r'.lines = 0 ∧ r'.rows = 0 ∧
      r'.lastRow = none ∧ r'.long = false ∧ t.frame.ring = [] ∧
      t.frame.nextNumber = (s.frame.nextNumber + 1) % 4294967296) ∧
  ∀ (dt : Nat) (count : BitVec 16) (s : State), s.powered = true → s.link.awake = true → s.frame.state ≠ .opened →
    ∃ t, exec (.frameStartMarker dt count) s = .next t ∧
      t.frame.pendGeometry = none ∧ t.frame.pendLens = none ∧ t.frame.pendExposure = none ∧
      t.frame.lens = s.frame.pendLens.getD s.frame.lens ∧ t.frame.exposure = s.frame.pendExposure.getD s.frame.exposure ∧
      t.frame.geometry = s.frame.pendGeometry.or s.frame.geometry ∧
      t.frame.lensPage = s.link.waitLens.getD s.frame.lensPage ∧ t.link.waitLens = none ∧
      (∀ g e, t.frame.geometry = some g → t.frame.lensPage[t.frame.lens]? = some e →
        t.filter.marginX = (g.wIn - g.wOut) / 2 * 16777216 / e.ppdx ∧
        t.filter.marginY = (g.hIn - g.hOut) / 2 * 16777216 / e.ppdy) ∧
      t.filter.effMode =
        (if s.motion.status = .lost ∨ s.motion.status = .absent ∨ s.thermal.tier = .cutoff then .off
         else if s.thermal.tier = .limit then (if s.filter.reqMode = .off then .off else .eco)
         else if s.filter.reqMode = .steadyWhileRecording then
           (if ∃ c ∈ s.store.index, c.state = .opened then .steady else .eco)
         else s.filter.reqMode) ∧
      (s.frame.pendGeometry.or s.frame.geometry = none →
        t.frame.state = .discard ∧ t.frame.record = none ∧ t.frame.nextNumber = s.frame.nextNumber ∧
        t.counters.unconfigured = satAdd s.counters.unconfigured 1) ∧
      ∀ g, s.frame.pendGeometry.or s.frame.geometry = some g →
        t.frame.state = .opened ∧ t.frame.ring = [] ∧ t.frame.nextNumber = (s.frame.nextNumber + 1) % 4294967296 ∧
        t.counters.unconfigured = s.counters.unconfigured ∧
        ∃ r, t.frame.record = some r ∧ r.number = s.frame.nextNumber ∧ r.sensorCount = count ∧
          r.start = s.partTime + dt ∧ r.mode = t.filter.effMode ∧ r.lens = t.frame.lens ∧ r.exposure = t.frame.exposure ∧
          r.nb = (if r.mode = .eco then 1 else g.nb) ∧ r.lb = g.hOut / r.nb ∧
          r.slewEff = min (min g.slew (r.lb - 1)) 15 ∧ r.lines = 0 ∧ r.rows = 0 ∧
          r.bands = List.replicate r.nb ⟨false, 0, 0, false, false, false, false⟩ ∧ r.lastRow = none ∧ r.long = false ∧
          r.yaw = s.filter.accYaw / s.filter.rate ∧ r.pitch = s.filter.accPitch / s.filter.rate ∧
          r.roll = s.filter.accRoll / s.filter.rate

/-- SENSOR_LINE: a line taken enters the Line Ring with exactly W_in pixels, padded with its last pixel (or zeros) or cut to
its first W_in, and each line padded or cut is counted once. A line beyond H_in is ignored, the first of a frame marked and
counted; a line in IDLE or DISCARD changes nothing. That a line of a COMPLETE frame below H_in enters the ring is the model's
reading (LOG 18). -/
def Obligations.LineIsBroughtToWidth : Prop :=
  (∀ (dt : Nat) (px : List Nat) (s : State), s.powered = true → AtRest s →
    s.frame.state = .idle ∨ s.frame.state = .discard → exec (.sensorLine dt px) s = .next (s.tick dt)) ∧
  (∀ (dt : Nat) (px : List Nat) (g : Geometry) (r : FrameRec) (s : State), s.powered = true → s.link.awake = true →
    AtRest s → s.frame.state = .opened ∨ s.frame.state = .complete → s.frame.geometry = some g →
    s.frame.record = some r → g.hIn ≤ r.lines →
    (r.long = true → exec (.sensorLine dt px) s = .next (s.tick dt)) ∧
    (r.long = false → exec (.sensorLine dt px) s =
      .next (((s.tick dt).mapFrame fun f => { f with record := some { r with long := true } }).mapCounters fun c =>
        { c with longFrames := satAdd c.longFrames 1 }))) ∧
  ∀ (dt : Nat) (px : List Nat) (g : Geometry) (r : FrameRec) (s : State), s.powered = true → s.link.awake = true →
    s.frame.state = .opened ∨ s.frame.state = .complete → s.frame.geometry = some g → s.frame.record = some r →
    r.lines < g.hIn → ∃ t e r', exec (.sensorLine dt px) s = .next t ∧
      t.frame.ring = (if 32 ≤ s.frame.ring.length then s.frame.ring.drop (s.frame.ring.length - 31) else s.frame.ring) ++ [e] ∧
      e.line = r.lines ∧ e.stamp = s.partTime + dt ∧ e.pixels.length = g.wIn ∧
      (∀ k < g.wIn, e.pixels[k]? = if k < px.length then px[k]? else some (px.getLast?.getD 0)) ∧
      t.counters.paddedLines = (if px.length = g.wIn then s.counters.paddedLines else satAdd s.counters.paddedLines 1) ∧
      t.frame.record = some r' ∧ r'.lines = r.lines + 1 ∧ r'.number = r.number

/-- SENSOR_LINE in an OPEN frame below H_in. On its decision line the first undecided band is decided, with the correction of
the line's arrival. Then every row that is releasable leaves, in ascending order: each was next, its band decided and its
source line taken; it is cut from that line, or from the oldest line in the ring, which is counted as a ring miss; and the row
after the last one sent is not releasable. When the last row of the frame has left, the frame is COMPLETE and counted out, its
trailer has left behind it, and the trailer's content is handed to Record Intake as a MOTION packet where a clip is OPEN
(`MotionHanded`). -/
def Obligations.LineReleasesRows : Prop :=
  ∀ (dt : Nat) (px : List Nat) (g : Geometry) (r : FrameRec) (e : LensEntry) (s : State), s.powered = true →
    s.link.awake = true → s.frame.state = .opened → s.frame.geometry = some g → s.frame.record = some r →
    s.frame.lensPage[r.lens]? = some e → r.lines < g.hIn → r.rows < g.hOut →
    let mx : Int := ((g.wIn - g.wOut) / 2 : Nat)
    let my : Int := ((g.hIn - g.hOut) / 2 : Nat)
    let b := (r.bands.takeWhile fun k => k.decided).length
    let before := if b = 0 then none else (r.bands[b - 1]?).map BandRec.dy
    let decision : Int := (before.map fun dy => my + b * r.lb + dy - r.slewEff).getD 0
    let decides := b < r.nb ∧ decision = r.lines
    let c := bandCorrection g r e (s.partTime + dt) before s
    let bands := if decides then r.bands.set b c.1 else r.bands
    let counted := if decides then c.2 else s
    let band (j : Nat) := bands.getD (j / r.lb) ⟨false, 0, 0, false, false, false, false⟩
    let source (j : Nat) : Nat := ((j : Int) + my + (band j).dy).toNat
    let released (j : Nat) : Prop := (band j).decided = true ∧ source j ≤ r.lines
    ∃ (t : State) (r' : FrameRec) (rows : List (List Nat)), exec (.sensorLine dt px) s = .next t ∧
      let held (j : Nat) := t.frame.ring.find? fun x => x.line = source j
      let missed := ((List.range rows.length).filter fun k => held (r.rows + k) = none).length
      rowsOf t.captureOut = rows.map CaptureItem.row ∧ r.rows + rows.length ≤ g.hOut ∧
      (∀ k < rows.length, released (r.rows + k) ∧ rows[k]? = some
        ((((((held (r.rows + k)).or t.frame.ring.head?).map RingEntry.pixels).getD []).drop
          (mx + (band (r.rows + k)).dx).toNat).take g.wOut)) ∧
      (r.rows + rows.length < g.hOut → ¬released (r.rows + rows.length)) ∧
      t.frame.record = some r' ∧ r'.rows = r.rows + rows.length ∧ r'.lines = r.lines + 1 ∧ r'.bands = bands ∧
      r'.lastRow = rows.getLast?.or r.lastRow ∧
      t.counters.bandClamps = counted.counters.bandClamps ∧ t.counters.historyClamps = counted.counters.historyClamps ∧
      t.counters.ringMisses = (if missed = 0 then s.counters.ringMisses else satAdd s.counters.ringMisses missed) ∧
      (r'.rows < g.hOut → t.frame.state = .opened ∧ t.counters.framesOut = s.counters.framesOut) ∧
      (r'.rows = g.hOut → t.frame.state = .complete ∧ t.counters.framesOut = satAdd s.counters.framesOut 1 ∧
        t.frame.trailer = none ∧
        (let tr : Trailer := ⟨r.number, r.sensorCount, r.start, r.mode, r.lens, bands, r.yaw, r.pitch, r.roll⟩
         (∃ before rest, rowsOf rest = [] ∧ t.captureOut = before ++ .packet tr.encode :: rest) ∧
         (AtRest s → Quiet (condFrameClamped ||| condHoldActive) s → MotionHanded tr s t)))

/-- FRAME_END_MARKER: an OPEN frame ends short (`FrameFinished`: the undecided bands, the rows not yet sent, the trailer of
exactly those bands), every answer and report that waits leaves behind it, and the trailer's content is handed to Record
Intake as a MOTION packet where a clip is OPEN (`MotionHanded`); in any state the frame is then IDLE. -/
def Obligations.FrameEndFinishesTheFrame : Prop :=
  ∀ (dt : Nat) (s : State), s.powered = true → s.link.awake = true →
    (∀ (g : Geometry) (r : FrameRec), s.frame.state = .opened → s.frame.geometry = some g → s.frame.record = some r →
      ∃ t, exec (.frameEndMarker dt) s = .next t ∧ t.frame.state = .idle ∧ t.frame.record = none ∧ t.link.answers = [] ∧
        t.link.reports = [] ∧ FrameFinished g r s t ∧
        (AtRest s → Quiet (condFrameClamped ||| condHoldActive) s → ∀ bands, FilledBands r.bands bands →
          MotionHanded ⟨r.number, r.sensorCount, r.start, r.mode, r.lens, bands, r.yaw, r.pitch, r.roll⟩ s t)) ∧
    (s.frame.state ≠ .opened → AtRest s →
      exec (.frameEndMarker dt) s = .next ((s.tick dt).mapFrame fun f => { f with state := .idle, record := none }))

/-- A side slot carries the pending frame trailer first, then the head answer, then the head report; a held answer enters at
the tail and frees the passthrough slot; that HOLD is judged once, after that entry, so that with 16 answers the answer cause
and HOLD_ACTIVE stay set, is the model's choice (LOG 59). REPORTS_LOST follows the losses. In the room slots follow one
another: SIDE_SLOT leaves nothing waiting, and of what waited the trailer, the answers and the reports have left in that order.
That SIDE_SLOT within a frame that has sent a row lets only time pass, whatever waits, since the frame's slots open with its
rows, is the model's choice (LOG 8, LOG 19). -/
def Obligations.SideSlotCarriesTheFirstWaiting : Prop :=
  (∀ s : State, s.link.awake = true → judgeHold s = s →
    (∀ tr, s.frame.trailer = some tr →
      fillSlot s = (s.emit (.packet tr.encode)).mapFrame fun f => { f with trailer := none }) ∧
    (s.frame.trailer = none →
      (∀ a rest, s.link.answers = a :: rest → s.link.held = none → rest.length < 15 →
        fillSlot s = (s.emit (.packet a.encode)).mapLink fun l => { l with answers := rest }) ∧
      (∀ a rest h, s.link.answers = a :: rest → s.link.held = some h →
        fillSlot s = ((s.emit (.packet a.encode)).mapLink fun l =>
          { l with answers := rest ++ [h], held := none }).mapCard fun c => { c with slot := none }) ∧
      (∀ r rest, s.link.answers = [] → s.link.reports = r :: rest →
        (s.link.lost = 0 ∨ 16 < rest.length →
          fillSlot s = (s.emit (.packet r.encode)).mapLink fun l => { l with reports := rest }) ∧
        (0 < s.link.lost → rest.length ≤ 16 →
          fillSlot s = (s.emit (.packet r.encode)).mapLink fun l =>
            { l with reports := rest ++ [⟨s.partTime, .reportsLost s.link.lost⟩], lost := 0 })) ∧
      (s.link.answers = [] → s.link.reports = [] → fillSlot s = s))) ∧
  (∀ (dt : Nat) (s : State), s.powered = true → s.link.awake = true →
    s.frame.state ≠ .opened ∨ (∀ r, s.frame.record = some r → r.rows = 0) →
    ∃ t, exec (.sideSlot dt) s = .next t ∧ t.frame.trailer = none ∧ t.link.answers = [] ∧ t.link.reports = [] ∧
      (settleStep s = none → judgeHold s = s → s.link.held = none → s.link.lost = 0 → s.link.answers.length < 16 →
        s.link.drain = false →
        t = { (((s.tick dt).mapLink fun l => { l with answers := [], reports := [] }).mapFrame fun f =>
                { f with trailer := none }) with
              captureOut := s.frame.trailer.toList.map (fun tr => .packet tr.encode) ++
                s.link.answers.map (fun a => .packet a.encode) ++ s.link.reports.map fun r => .packet r.encode })) ∧
  ∀ (dt : Nat) (r : FrameRec) (s : State), s.powered = true → AtRest s → s.frame.state = .opened →
    s.frame.record = some r → r.rows ≠ 0 → exec (.sideSlot dt) s = .next (s.tick dt)

/-! ### Clips -/

/-- CLIP_PACKET: an accepted packet that fits and does not split is packed behind the packing block, its blocks tagged with
the clip, and restarts the stall timer; a video packet also moves the last video PTS, the first sync and the duration. A SYNC
video packet that splits, by the split mark or at the duration limit, closes the OPEN clip with SPLIT, its last block
completed, opens the next clip with the same recording start, and is the first packet packed into it. -/
def Obligations.AcceptedPacketIsPacked : Prop :=
  (∀ (dt : Nat) (stream : ClipStream) (flags : Byte) (pts : BitVec 64) (payload : Bytes) (c : Clip) (r : IntakeRec)
    (s : State), s.powered = true → s.link.awake = true → s.intake.receive = [] → AtRest s →
    s.store.openClip = some c → s.store.writer = .recording → s.intake.record = some r → r.clip = c.number →
    (r.syncMet = true ∨ (stream = .video ∧ flags.getLsbD 0 = true)) →
    (stream = .audio ∨ flags.getLsbD 0 = false ∨ r.syncMet = false ∨
      (r.splitMark = false ∧ pts.toNat - c.firstPts.getD pts.toNat < 1000000 * s.store.tab.maxDuration)) →
    payload.length ≤ 65525 → s.intake.fits payload.length = true → s.card.state ≠ .idle → s.card.writing = true →
    s.intake.bufCause = false →
    let stored := storedHeader (streamOf stream) flags payload.length pts.toNat ++ payload
    let fill := List.replicate (zeroFill s.intake.packing.length) 0#8
    let laid := s.intake.lay c.number (fill ++ stored)
    s.store.tab.holdMark ≤ laid.freeBlocks →
    exec (.clipPacket dt stream flags pts payload) s = .next
      (((s.tick dt).mapIntake fun i =>
        { i with buffer := laid.buffer, packing := laid.packing,
                 stallEnd := some (s.partTime + dt + 1000 * s.store.tab.stallTime),
                 record := some (if stream = .video then
                   { r with lastPts := some pts.toNat, syncMet := r.syncMet || flags.getLsbD 0 } else r) }).mapStore fun st =>
        if stream = .video then
          { st with index := st.index.map fun d =>
            if d.number = c.number then
              { d with firstPts := some (d.firstPts.getD pts.toNat), duration := pts.toNat - d.firstPts.getD pts.toNat }
            else d }
        else st)) ∧
  ∀ (dt : Nat) (flags : Byte) (pts : BitVec 64) (payload : Bytes) (before : List Clip) (c : Clip) (r : IntakeRec)
    (s : State), s.powered = true → s.link.awake = true → s.intake.receive = [] → AtRest s → RecordingInto before c s →
    s.card.writing = true → s.intake.record = some r → r.clip = c.number → r.syncMet = true → flags.getLsbD 0 = true →
    (r.splitMark = true ∨ 1000000 * s.store.tab.maxDuration ≤ pts.toNat - c.firstPts.getD pts.toNat) →
    before.length < 511 → s.store.nextClip < 4294967296 → (∀ d ∈ s.store.index, d.number < s.store.nextClip) →
    (s.store.free ≠ [] ∨ ∃ d ∈ before, d.locked = false) → payload.length ≤ 65525 → s.intake.bufCause = false →
    s.link.reports.length < 32 →
    let n := s.store.nextClip
    let whole := if s.intake.packing = [] then s.intake.buffer
      else s.intake.buffer ++ [⟨c.number, s.intake.packing ++ padding s.intake.packing.length⟩]
    let emptied := { s.intake with buffer := whole, packing := [] }
    let laid := emptied.lay n (storedHeader .video flags payload.length pts.toNat ++ payload)
    emptied.fits payload.length = true → s.store.tab.holdMark ≤ laid.freeBlocks →
    exec (.clipPacket dt .video flags pts payload) s = .next
      (reported (.clipOpened n c.start false) (((s.tick dt).mapIntake fun i =>
        { i with buffer := laid.buffer, packing := laid.packing, record := some ⟨n, true, some pts.toNat, false, false⟩,
                 stallEnd := some (s.partTime + dt + 1000 * s.store.tab.stallTime) }).mapStore fun st =>
        { st with nextClip := n + 1,
                  index := before ++ [{ c with state := .closing, reason := some .split },
                    { number := n, state := .opened, locked := false, flags := ⟨false, false, false, false, false⟩,
                      start := c.start, openTime := some (s.partTime + dt), firstPts := some pts.toNat, duration := 0,
                      firstExtent := none, lastExtent := none, extentCount := 0, dataBlocks := 0, markers := [],
                      reason := none, phase := .none, finalBegun := false }] }))

/-- Packing keeps the order of bytes: the blocks already buffered stay, every new block is a full block of the clip, and the
new blocks and the packing block together hold the old packing bytes, a zero fill that leaves no header across two blocks,
and the stored packet. -/
def Obligations.PackingLaysBytesInOrder : Prop :=
  ∀ (i : Intake) (clip : Nat) (stored : Bytes), i.packing.length < 512 → 12 ≤ stored.length →
    ∃ blocks z, (i.pack clip stored).buffer = i.buffer ++ blocks ∧ (∀ b ∈ blocks, b.clip = clip ∧ b.data.length = 512) ∧
      blocks.flatMap Block.data ++ (i.pack clip stored).packing = i.packing ++ List.replicate z 0#8 ++ stored ∧
      (i.pack clip stored).packing.length < 512 ∧ (i.packing.length + z) % 512 ≤ 500 ∧
      (i.packing.length = 0 ∨ i.packing.length ≤ 500 → z = 0) ∧
      (i.pack clip stored).occupancy = i.occupancyAfter (stored.length - 12)

/-- CLIP_PACKET outside recording, or before the first sync, is discarded and counted, and leaves no other trace. An accepted
one that finds no room is dropped: it is counted, its clip takes GAP, the stall timer restarts, and BUFFER_DROP is issued at
the clip's first drop. One that would split where no clip can be opened is discarded and counted, and the OPEN clip closes
with FULL, its last block completed. -/
def Obligations.UnacceptedPacketIsDiscarded : Prop :=
  (∀ (dt : Nat) (stream : ClipStream) (flags : Byte) (pts : BitVec 64) (payload : Bytes) (c : Clip) (r : IntakeRec)
    (s : State), s.powered = true → s.link.awake = true → s.intake.receive = [] → AtRest s →
    s.store.openClip = some c → s.store.writer = .recording → s.intake.record = some r → r.clip = c.number →
    r.syncMet = true → stream = .audio ∨ flags.getLsbD 0 = false → payload.length ≤ 65525 →
    s.intake.fits payload.length = false → s.card.state ≠ .idle → s.link.reports.length < 32 →
    let dropped : State :=
      ((((s.tick dt).mapCounters fun k => { k with packetsDropped := satAdd k.packetsDropped 1 }).mapStore fun st =>
        { st with index := st.index.map fun d =>
          if d.number = c.number then { d with flags := { d.flags with gap := true } } else d }).mapIntake fun i =>
        { i with stallEnd := some (s.partTime + dt + 1000 * s.store.tab.stallTime),
                 record := some { r with dropReported := true } })
    (r.dropReported = true → exec (.clipPacket dt stream flags pts payload) s = .next dropped) ∧
    (r.dropReported = false → exec (.clipPacket dt stream flags pts payload) s =
      .next (reported (.bufferDrop c.number (streamOf stream) pts.toNat) dropped))) ∧
  (∀ (dt : Nat) (flags : Byte) (pts : BitVec 64) (payload : Bytes) (before : List Clip) (c : Clip) (r : IntakeRec)
    (s : State), s.powered = true → s.link.awake = true → s.intake.receive = [] → AtRest s → RecordingInto before c s →
    s.card.writing = true → s.intake.record = some r → r.clip = c.number → r.syncMet = true → flags.getLsbD 0 = true →
    (r.splitMark = true ∨ 1000000 * s.store.tab.maxDuration ≤ pts.toNat - c.firstPts.getD pts.toNat) →
    (511 ≤ before.length ∨ s.store.free = []) → (∀ d ∈ before, d.locked = true) → payload.length ≤ 65525 →
    exec (.clipPacket dt .video flags pts payload) s = .next
      ((((s.tick dt).mapCounters fun k => { k with packetsDiscarded := satAdd k.packetsDiscarded 1 }).mapStore fun st =>
        { st with writer := .stopping, index := before ++ [{ c with state := .closing, reason := some .full }] }).mapIntake
        fun i =>
        { i with record := none, stallEnd := none, packing := [],
                 buffer := i.buffer ++
                   (if i.packing = [] then [] else [⟨c.number, i.packing ++ padding i.packing.length⟩]) })) ∧
  ∀ (dt : Nat) (stream : ClipStream) (flags : Byte) (pts : BitVec 64) (payload : Bytes) (s : State), s.powered = true →
    s.link.awake = true → s.intake.receive = [] → AtRest s → payload.length ≤ 65525 →
    s.store.writer ≠ .recording ∨
      (∃ r, s.intake.record = some r ∧ r.syncMet = false ∧ (stream = .audio ∨ flags.getLsbD 0 = false)) →
    exec (.clipPacket dt stream flags pts payload) s = .next ((s.tick dt).mapCounters fun k =>
      { k with packetsDiscarded := satAdd k.packetsDiscarded 1 })

/-- MALFORMED_PACKET: a packet of fewer than three bytes, of another kind, a CLIP packet with a wrong length field, a short
body or a stream that is neither VIDEO nor AUDIO, and a DIRECTIVE packet without a tag are counted and leave no answer. A
DIRECTIVE packet with a tag and a wrong length field, or with a tag alone, is counted and answered MALFORMED under its tag,
with the code 0 where it has none. -/
def Obligations.MalformedPacketIsCounted : Prop :=
  ∀ (dt : Nat) (bytes : Bytes) (s : State), Ready s →
    (bytes.length < 3 ∨ (bytes.head? ≠ some 1#8 ∧ bytes.head? ≠ some 2#8) ∨
      (∃ l0 l1 body, bytes = 1#8 :: l0 :: l1 :: body ∧ l0.toNat + 256 * l1.toNat ≠ body.length) ∨
      (∃ body, bytes = 1#8 :: (le 2 body.length ++ body) ∧ body.length < 65536 ∧
        (body.length < 10 ∨ (body.head? ≠ some 1#8 ∧ body.head? ≠ some 2#8))) ∨
      (∃ l0 l1, bytes = [2#8, l0, l1]) →
      exec (.malformedPacket dt bytes) s =
        .next ((s.tick dt).mapCounters fun k => { k with malformed := satAdd k.malformed 1 })) ∧
    (∀ (l0 l1 tag : Byte), bytes = [2#8, l0, l1, tag] →
      exec (.malformedPacket dt bytes) s = .next ((answered dt 0 tag .malformed [] s).mapCounters fun k =>
        { k with malformed := satAdd k.malformed 1 })) ∧
    ∀ (l0 l1 tag code : Byte) (rest : Bytes), bytes = 2#8 :: l0 :: l1 :: tag :: code :: rest →
      l0.toNat + 256 * l1.toNat ≠ rest.length + 2 →
      exec (.malformedPacket dt bytes) s =
        .next ((answered dt code.toNat tag .malformed [] s).mapCounters fun k =>
          { k with malformed := satAdd k.malformed 1 })

/-! ### Store -/

/-- MOUNT of an UNMOUNTED store on a present card: with BLANK every extent is free and the store READY; with SCAN and a free
card the store is SCANNING and the read of extent 0's trailer starts. -/
def Obligations.MountOpensTheStore : Prop :=
  ∀ (dt : Nat) (tag : Byte) (p : Bytes) (s : State), Ready s → p.length = 11 → NoRecording s →
    s.store.state = .unmounted → s.store.scan = none → s.store.storeLow = false → s.store.lockNear = false →
    let start := uintAt p 0 4
    let n := uintAt p 4 2
    let q := n * s.store.tab.quotaPercent / 100
    8 ≤ n → n ≤ 16384 → start + n * 16384 ≤ 4294967296 → s.store.tab.reserve ≤ n →
    (uintAt p 10 1 = 0 → s.card.state = .idle ∨ s.card.state = .busy →
      exec (.mount dt tag p) s = .next ((answered dt 64 tag .ok [] s).mapStore fun st =>
        { st with state := .ready, areaStart := start, count := n, generation := uintAt p 6 4,
                  extents := List.replicate n .free, free := List.range n, index := [], nextClip := 1, quota := q,
                  quotaEff := q })) ∧
    (uintAt p 10 1 = 1 → s.card.state = .idle → s.card.op = none → s.card.updates = [] → s.card.slot = none →
      exec (.mount dt tag p) s = .next (((answered dt 64 tag .ok [] s).mapStore fun st =>
        { st with state := .scanning, areaStart := start, count := n, generation := uintAt p 6 4, extents := [],
                  free := [], index := [], quota := q, quotaEff := q, scan := some ⟨0, false, [], false⟩ }).mapCard fun c =>
        { c with state := .busy, op := some ⟨.scan, 4, .read, start + 16383, 1, s.partTime + dt,
                                             1000 * s.store.tab.cardTimeout, []⟩ })) ∧
    (s.card.state = .absent ∨ s.card.state = .failed → uintAt p 10 1 ≤ 1 →
      exec (.mount dt tag p) s = .next (answered dt 64 tag .state [] s))

/-- UNMOUNT of an UNMOUNTED store is STATE; of a READY one OK with the store emptied, or BUSY; of one in FAULT OK with the store
emptied and the trailer updates withdrawn; of a SCANNING one OK, and the store is emptied at once, or at the end of the read
in flight. That the area start and the next clip number keep their values is the model's choice (LOG 22). -/
def Obligations.UnmountEmptiesTheStore : Prop :=
  let emptied (t : State) : State := t.mapStore fun st =>
    { st with state := .unmounted, count := 0, generation := 0, extents := [], free := [], index := [], quota := 0,
              quotaEff := 0, scan := none }
  (∀ (dt : Nat) (tag : Byte) (s : State), Ready s →
    (s.store.state = .unmounted → exec (.unmount dt tag []) s = .next (answered dt 65 tag .state [] s)) ∧
    (s.store.state = .ready → s.store.writer ≠ .idle ∨ s.card.updates ≠ [] →
      exec (.unmount dt tag []) s = .next (answered dt 65 tag .busy [] s)) ∧
    (NoRecording s → s.store.storeLow = false → s.store.lockNear = false →
      (s.store.state = .ready → s.card.updates = [] →
        exec (.unmount dt tag []) s = .next (emptied (answered dt 65 tag .ok [] s))) ∧
      (s.store.state = .fault → exec (.unmount dt tag []) s =
        .next ((emptied (answered dt 65 tag .ok [] s)).mapCard fun c => { c with updates := [] })) ∧
      (s.store.state = .scanning → (∀ o, s.card.op = some o → o.source ≠ .scan) →
        exec (.unmount dt tag []) s = .next (emptied (answered dt 65 tag .ok [] s))) ∧
      ∀ o k, s.store.state = .scanning → s.card.op = some o → o.source = .scan → s.store.scan = some k →
        exec (.unmount dt tag []) s = .next ((answered dt 65 tag .ok [] s).mapStore fun st =>
          { st with scan := some { k with abandoned := true } }))) ∧
  ∀ (dt : Nat) (data : Bytes) (o : CardOp) (k : Scan) (s : State), s.powered = true → AtRest s → NoRecording s →
    s.store.storeLow = false → s.store.lockNear = false → s.store.state = .scanning → s.card.state = .busy →
    s.card.op = some o → o.source = .scan → s.store.scan = some k → k.abandoned = true → s.card.updates = [] →
    s.card.slot = none → NotLate dt s →
    exec (.cardOpCompletion dt true data) s =
      .next (emptied ((s.tick dt).mapCard fun c => { c with state := .idle, op := none, fails := 0 }))

/-- START RECORDING, when the store is READY with nothing recording and room for a clip: a record of the next number is OPEN,
its CLIP_OPENED report is issued, the writer is RECORDING, the intake record is fresh and the stall timer runs. That in the room
the answer leaves before the report is the model's choice (LOG 19). -/
def Obligations.StartRecordingOpensAClip : Prop :=
  ∀ (dt : Nat) (tag : Byte) (p : Bytes) (s : State), Ready s → p.length = 8 → s.store.state = .ready → NoRecording s →
    s.thermal.supply ≠ .emergency → s.thermal.tier ≠ .cutoff → StoreJudged s → s.store.index.length < 512 →
    s.store.nextClip < 4294967296 → s.store.free ≠ [] ∨ (∃ c ∈ s.store.index, c.locked = false) →
    s.link.reports.length < 32 →
    let n := s.store.nextClip
    exec (.startRecording dt tag p) s = .next
      (reported (.clipOpened n (uintAt p 0 8) false)
        (((answered dt 66 tag .ok [] s).mapStore fun st =>
          { st with writer := .recording, nextClip := n + 1,
                    index := st.index ++
                      [{ number := n, state := .opened, locked := false, flags := ⟨false, false, false, false, false⟩,
                         start := uintAt p 0 8, openTime := some (s.partTime + dt), firstPts := none, duration := 0,
                         firstExtent := none, lastExtent := none, extentCount := 0, dataBlocks := 0, markers := [],
                         reason := none, phase := .none, finalBegun := false }] }).mapIntake fun i =>
          { i with record := some ⟨n, false, none, false, false⟩,
                   stallEnd := some (s.partTime + dt + 1000 * s.store.tab.stallTime) }))

/-- The store's refusals, which change nothing but the Answer Queue: START RECORDING is STATE, STATE, BUSY or FULL in the order
of R98, FULL also with the clip numbers exhausted; MOUNT of a store that is not UNMOUNTED is STATE; STOP RECORDING, READ INDEX
and READ CLIP are STATE, and READ CLIP NOT_FOUND without the record; LOCK, UNLOCK and DELETE CLIP are STATE, then NOT_FOUND,
and DELETE CLIP is STATE for a record that is not CLOSED and PROTECTED for a locked one. -/
def Obligations.StoreDirectivesRefused : Prop :=
  ∀ (dt : Nat) (tag : Byte) (s : State), Ready s →
    (∀ p : Bytes, p.length = 8 →
      let start := exec (.startRecording dt tag p) s
      (s.store.state ≠ .ready → start = .next (answered dt 66 tag .state [] s)) ∧
      (s.store.state = .ready →
        (s.thermal.supply = .emergency ∨ s.thermal.tier = .cutoff ∨ s.store.writer = .emergency →
          start = .next (answered dt 66 tag .state [] s)) ∧
        (¬(s.thermal.supply = .emergency ∨ s.thermal.tier = .cutoff ∨ s.store.writer = .emergency) →
          (s.store.writer = .recording ∨ s.store.writer = .stopping → start = .next (answered dt 66 tag .busy [] s)) ∧
          (s.store.writer = .idle → StoreJudged s →
            ((s.store.free = [] ∨ 512 ≤ s.store.index.length) ∧ ∀ c ∈ s.store.index, c.state = .closed → c.locked = true) ∨
              (s.store.index.length < 512 ∧ 4294967296 ≤ s.store.nextClip) →
            start = .next (answered dt 66 tag .full [] s))))) ∧
    (∀ p : Bytes, p.length = 11 → s.store.state ≠ .unmounted → 8 ≤ uintAt p 4 2 → uintAt p 4 2 ≤ 16384 →
      uintAt p 0 4 + uintAt p 4 2 * 16384 ≤ 4294967296 → uintAt p 10 1 ≤ 1 →
      exec (.mount dt tag p) s = .next (answered dt 64 tag .state [] s)) ∧
    (∀ p : Bytes, p.length = 5 → 1 ≤ uintAt p 4 1 → uintAt p 4 1 ≤ 16 →
      s.store.state = .unmounted ∨ s.store.state = .scanning →
      exec (.readIndex dt tag p) s = .next (answered dt 72 tag .state [] s)) ∧
    (s.store.writer ≠ .recording → exec (.stopRecording dt tag []) s = .next (answered dt 67 tag .state [] s)) ∧
    ∀ p : Bytes, p.length = 4 →
      (s.store.state = .unmounted ∨ s.store.state = .scanning →
        exec (.readClip dt tag p) s = .next (answered dt 73 tag .state [] s)) ∧
      (s.store.state = .ready ∨ s.store.state = .fault → s.store.named (uintAt p 0 4) = none →
        exec (.readClip dt tag p) s = .next (answered dt 73 tag .notFound [] s)) ∧
      (s.store.state ≠ .ready →
        exec (.lockClip dt tag p) s = .next (answered dt 69 tag .state [] s) ∧
        exec (.unlockClip dt tag p) s = .next (answered dt 70 tag .state [] s) ∧
        exec (.deleteClip dt tag p) s = .next (answered dt 71 tag .state [] s)) ∧
      (s.store.state = .ready → s.store.named (uintAt p 0 4) = none →
        exec (.lockClip dt tag p) s = .next (answered dt 69 tag .notFound [] s) ∧
        exec (.unlockClip dt tag p) s = .next (answered dt 70 tag .notFound [] s) ∧
        exec (.deleteClip dt tag p) s = .next (answered dt 71 tag .notFound [] s)) ∧
      ∀ c, s.store.state = .ready → s.store.named (uintAt p 0 4) = some c →
        (c.state ≠ .closed → exec (.deleteClip dt tag p) s = .next (answered dt 71 tag .state [] s)) ∧
        (c.state = .closed → c.locked = true →
          exec (.deleteClip dt tag p) s = .next (answered dt 71 tag .protectedBlocks [] s))

/-- STOP RECORDING and a stall expiry: the OPEN clip becomes CLOSING with reason STOP or STALL, its last block is completed and
enters the Segment Buffer, and the intake record and the stall timer end. That an expiry before its time changes nothing is
the model's choice (LOG 8, LOG 1). -/
def Obligations.StopClosesTheOpenClip : Prop :=
  ∀ (dt : Nat) (before : List Clip) (c : Clip) (s : State), RecordingInto before c s →
    let closed (r : CloseReason) (t : State) : State :=
      (t.mapStore fun st =>
        { st with writer := .stopping, index := before ++ [{ c with state := .closing, reason := some r }] }).mapIntake fun i =>
        { i with record := none, stallEnd := none, packing := [],
                 buffer := i.buffer ++
                   (if i.packing = [] then [] else [⟨c.number, i.packing ++ padding i.packing.length⟩]) }
    (∀ tag : Byte, Ready s → exec (.stopRecording dt tag []) s = .next (closed .stop (answered dt 67 tag .ok [] s))) ∧
    (∀ e, s.powered = true → AtRest s → s.intake.stallEnd = some e →
      (e ≤ s.partTime + dt → exec (.stallTimerExpiry dt) s = .next (closed .stall (s.tick dt))) ∧
      (s.partTime + dt < e → exec (.stallTimerExpiry dt) s = .next (s.tick dt)))

/-- MARK: STATE with no clip OPEN, FULL at 16 markers, otherwise OK with a marker of kind 16, the present part time and the last
video PTS, 0 while absent. A trigger MARK of entry i adds a marker of kind i + 1 under the same two conditions, with the
results of R137; the clip named by a refused outcome is the model's reading (LOG 39). -/
def Obligations.MarkAddsAMarker : Prop :=
  (∀ (dt : Nat) (tag : Byte) (s : State), Ready s →
    (s.store.openClip = none → exec (.mark dt tag []) s = .next (answered dt 68 tag .state [] s)) ∧
    ∀ c, s.store.openClip = some c →
      (16 ≤ c.markers.length → exec (.mark dt tag []) s = .next (answered dt 68 tag .full [] s)) ∧
      (c.markers.length < 16 →
        exec (.mark dt tag []) s = .next ((answered dt 68 tag .ok [] s).mapStore fun st =>
          { st with index := st.index.map fun d =>
            if d.number = c.number then
              { d with markers := d.markers ++
                  [⟨s.partTime + dt, (s.intake.record.bind IntakeRec.lastPts).getD 0, 16⟩] }
            else d }))) ∧
  ∀ (i : Nat) (s : State),
    (s.store.openClip = none → actMark i s = (⟨.noEffect, .ok, 0⟩, s)) ∧
    ∀ c, s.store.openClip = some c →
      (16 ≤ c.markers.length → actMark i s = (⟨.refused, .full, c.number⟩, s)) ∧
      (c.markers.length < 16 →
        actMark i s = (⟨.done, .ok, c.number⟩, s.mapStore fun st =>
          { st with index := st.index.map fun d =>
            if d.number = c.number then
              { d with markers := d.markers ++
                  [⟨s.partTime, (s.intake.record.bind IntakeRec.lastPts).getD 0, i + 1⟩] }
            else d }))

/-- LOCK CLIP and UNLOCK CLIP of a CLOSED record: the lock changes and the rewrite of its trailer is enqueued; a lock already as
asked changes nothing; a lock past the quota is FULL with LOCK_REFUSED, in the room behind the answer (LOG 19: the model's
choice); a full queue without a waiting entry of the clip is BUSY. -/
def Obligations.LockChangesAreQueued : Prop :=
  ∀ (dt : Nat) (tag : Byte) (p : Bytes) (before after : List Clip) (c : Clip) (s : State), Ready s → p.length = 4 →
    uintAt p 0 4 = c.number → c.number ≠ 0 → s.store.state = .ready → NoRecording s → s.card.state ≠ .idle →
    s.store.index = before ++ c :: after → (∀ d ∈ before ++ after, d.number ≠ c.number) →
    s.store.tab.reserve ≤ s.store.free.length → StoreJudged s →
    let changed (v : Bool) (t : State) : State :=
      (t.mapStore fun st => { st with index := before ++ { c with locked := v } :: after }).mapCard fun k =>
        { k with updates := k.updates ++ [⟨c.number, false, false⟩] }
    (c.locked = true → exec (.lockClip dt tag p) s = .next (answered dt 69 tag .ok [] s)) ∧
    (c.locked = false → exec (.unlockClip dt tag p) s = .next (answered dt 70 tag .ok [] s)) ∧
    (c.locked = false → s.store.quotaEff < s.store.lockedExtents + c.extentCount → s.link.reports.length < 32 →
      exec (.lockClip dt tag p) s = .next (reported
        (.lockRefused c.number c.extentCount s.store.lockedExtents s.store.quotaEff) (answered dt 69 tag .full [] s))) ∧
    ((∀ u ∈ s.card.updates, u.clip ≠ c.number) →
      (c.locked = false → s.store.lockedExtents + c.extentCount ≤ s.store.quotaEff →
        10 * (s.store.lockedExtents + c.extentCount) < 9 * s.store.quotaEff →
        (s.card.updates.length < 16 →
          exec (.lockClip dt tag p) s = .next (changed true (answered dt 69 tag .ok [] s))) ∧
        (16 ≤ s.card.updates.length → exec (.lockClip dt tag p) s = .next (answered dt 69 tag .busy [] s))) ∧
      (c.locked = true → 10 * s.store.lockedExtents < 9 * s.store.quotaEff →
        (s.card.updates.length < 16 →
          exec (.unlockClip dt tag p) s = .next (changed false (answered dt 70 tag .ok [] s))) ∧
        (16 ≤ s.card.updates.length → exec (.unlockClip dt tag p) s = .next (answered dt 70 tag .busy [] s))))

/-- DELETE CLIP of a CLOSED, unlocked record: the record leaves the index, its weak extents become BAD and the others FREE at the
Free List's tail in chain order, and its trailer updates leave the queue but for the one whose rewrite is in flight; the rest
of the card, the reclaimed-clips counter and the other blocks do not change. -/
def Obligations.DeleteReleasesTheClip : Prop :=
  ∀ (dt : Nat) (tag : Byte) (p : Bytes) (before after : List Clip) (c : Clip) (chain : List Nat) (s : State), Ready s →
    p.length = 4 → uintAt p 0 4 = c.number → c.number ≠ 0 → s.store.state = .ready → NoRecording s →
    s.card.state ≠ .idle → s.store.index = before ++ c :: after → (∀ d ∈ before ++ after, d.number ≠ c.number) →
    c.locked = false → s.store.tab.reserve ≤ s.store.free.length → StoreJudged s →
    s.store.chain c.extentCount c.firstExtent = chain → chain.Nodup → (∀ e ∈ chain, s.store.owned e ≠ none) →
    ∃ t, exec (.deleteClip dt tag p) s = .next t ∧ t.store.index = before ++ after ∧
      t.store.free = s.store.free ++ chain.filter (fun e => (s.store.owned e).any fun o => !o.weak) ∧
      (∀ e, t.store.extents[e]? =
        if e ∈ chain then some (if (s.store.owned e).any fun o => o.weak then .bad else .free) else s.store.extents[e]?) ∧
      t.card = { s.card with
        updates := s.card.updates.filter (fun u => u.clip ≠ c.number || (u.started && s.card.rewriting c.number)) } ∧
      t.link = (answered dt 71 tag .ok [] s).link ∧ t.captureOut = (answered dt 71 tag .ok [] s).captureOut ∧
      t.counters = s.counters ∧ t.intake = s.intake ∧
      t.motion = s.motion ∧ t.filter = s.filter ∧ t.frame = s.frame ∧ t.trig = s.trig ∧ t.charge = s.charge ∧
      t.thermal = s.thermal

/-! ### Card -/

/-- CARD READ and CARD WRITE that pass their checks on an idle card with nothing else pending start at once, without an answer,
and wait in the slot on a busy one; a write to a protected block (R127: in the area of a READY, SCANNING or FAULT store, while it
scans any, otherwise of an extent OWNED by an OPEN, CLOSING or locked record) is answered PROTECTED; the other refusals are
RANGE, MALFORMED, STATE and BUSY, in that order.
That a CARD WRITE too short for its address and count is MALFORMED is the model's reading (LOG 30). -/
def Obligations.PassthroughStartsOrIsRefused : Prop :=
  ∀ (dt : Nat) (tag : Byte) (p : Bytes) (s : State), Ready s → p.length ≤ 65533 →
    let addr := uintAt p 0 4
    let count := uintAt p 4 1
    let started (kind : OpKind) (data : Bytes) : State := (s.tick dt).mapCard fun c =>
      { c with state := .busy, slot := some ⟨tag, kind, addr, count, data, .inFlight⟩,
               op := some ⟨.pass, 5, kind, addr, count, s.partTime + dt, 1000 * s.store.tab.cardTimeout, data⟩ }
    let waiting (kind : OpKind) (data : Bytes) : State := (s.tick dt).mapCard fun c =>
      { c with slot := some ⟨tag, kind, addr, count, data, .pending⟩ }
    let protect (b : Nat) : Prop :=
      (s.store.state = .ready ∨ s.store.state = .scanning ∨ s.store.state = .fault) ∧
        s.store.areaStart ≤ b ∧ b < s.store.areaStart + s.store.count * 16384 ∧
        (s.store.state = .scanning ∨ ∃ o c, s.store.extents[(b - s.store.areaStart) / 16384]? = some (.owned o) ∧
          s.store.index.find? (fun c => c.number = o.owner) = some c ∧
          (c.state = .opened ∨ c.state = .closing ∨ c.locked = true))
    (p.length = 5 →
      (count = 0 ∨ 8 < count ∨ 4294967296 < addr + count →
        exec (.cardRead dt tag p) s = .next (answered dt 74 tag .range [] s)) ∧
      (1 ≤ count → count ≤ 8 → addr + count ≤ 4294967296 →
        (s.card.state = .absent ∨ s.card.state = .failed →
          exec (.cardRead dt tag p) s = .next (answered dt 74 tag .state [] s)) ∧
        (s.card.state = .idle ∨ s.card.state = .busy → s.card.slot ≠ none →
          exec (.cardRead dt tag p) s = .next (answered dt 74 tag .busy [] s)) ∧
        (s.card.state = .busy → s.card.slot = none → exec (.cardRead dt tag p) s = .next (waiting .read [])) ∧
        (s.card.state = .idle → s.card.op = none → s.card.slot = none →
          exec (.cardRead dt tag p) s = .next (started .read [])))) ∧
    (5 ≤ p.length → count = 0 ∨ 8 < count ∨ 4294967296 < addr + count →
      exec (.cardWrite dt tag p) s = .next (answered dt 75 tag .range [] s)) ∧
    (p.length < 5 ∨ (1 ≤ count ∧ count ≤ 8 ∧ addr + count ≤ 4294967296 ∧ p.length ≠ 5 + 512 * count) →
      exec (.cardWrite dt tag p) s = .next ((answered dt 75 tag .malformed [] s).mapCounters fun k =>
        { k with malformed := satAdd k.malformed 1 })) ∧
    (p.length = 5 + 512 * count → 1 ≤ count → count ≤ 8 → addr + count ≤ 4294967296 →
      (s.card.state = .absent ∨ s.card.state = .failed →
        exec (.cardWrite dt tag p) s = .next (answered dt 75 tag .state [] s)) ∧
      (s.card.state = .idle ∨ s.card.state = .busy → s.card.slot ≠ none →
        exec (.cardWrite dt tag p) s = .next (answered dt 75 tag .busy [] s)) ∧
      (s.card.state = .busy → s.card.slot = none → exec (.cardWrite dt tag p) s = .next (waiting .write (p.drop 5)))) ∧
    (p.length = 5 + 512 * count → 1 ≤ count → count ≤ 8 → addr + count ≤ 4294967296 → s.card.state = .idle →
      s.card.op = none → s.card.slot = none →
      ((∀ i < count, ¬protect (addr + i)) →
        exec (.cardWrite dt tag p) s = .next (started .write (p.drop 5))) ∧
      ((∃ i < count, protect (addr + i)) →
        exec (.cardWrite dt tag p) s = .next (answered dt 75 tag .protectedBlocks [] s)))

/-- The end of a passthrough operation: with OK it is answered OK, a READ with its data, and the failure count becomes 0; with
ERROR or at the card timeout it is counted, reported and then answered CARD, and the third failure in a row makes the card FAILED.
The third failure in a row of any operation makes the card FAILED: a READY or SCANNING store enters FAULT, with every claim and
update dropped and the clips closed with CARD, and a passthrough directive in the slot is answered CARD. A completion that
comes together with the timeout, after it, is ignored: that this part time tells a late completion from that of an operation
started since is the model's reading (LOG 57). That CARD_ERROR carries the class the operation had at its start, a writer's
included (LOG 37), the layout of CARD READ's data (LOG 28) with a block count of 4 bytes (LOG 66) and that a timeout before its
time changes nothing (LOG 8, LOG 1) are the model's readings. The order of the reports to FAULT is stated where STORE_LOW and LOCK_NEAR are judged before, as
every command leaves them. -/
def Obligations.PassthroughEndIsAnswered : Prop :=
  (∀ (dt : Nat) (ok : Bool) (data : Bytes) (s : State), s.powered = true → AtRest s → ¬NotLate dt s →
    exec (.cardOpCompletion dt ok data) s = .next ((s.tick dt).mapCard fun c => { c with timedOut := none })) ∧
  (∀ (dt : Nat) (data : Bytes) (o : CardOp) (s : State), s.powered = true → AtRest s → s.card.op = some o →
    2 ≤ s.card.fails → s.store.state = .ready ∨ s.store.state = .scanning → Quiet condCardError s →
    let n := s.card.fails + 1
    let Failed (timeout : Bool) (t : State) : Prop := t.card.state = .failed ∧ t.card.fails = n ∧
      t.counters.cardErrors = satAdd s.counters.cardErrors 1 ∧ PassAnsweredCard s t ∧ t.motion = s.motion ∧
      t.filter = s.filter ∧ t.charge = s.charge ∧ t.thermal = s.thermal ∧
      FaultEntered .cardFailed [.cardError o.cls o.kind o.addr o.count timeout n, .cardFailed] s t
    (NotLate dt s → ∃ t, exec (.cardOpCompletion dt false data) s = .next t ∧ Failed false t) ∧
    (o.start + o.limit ≤ s.partTime + dt → ∃ t, exec (.cardTimeout dt) s = .next t ∧ Failed true t)) ∧
  ∀ (dt : Nat) (data : Bytes) (o : CardOp) (p : Pass) (s : State), s.powered = true → AtRest s → PassInFlight o p s →
    s.link.answers.length < 15 → NotLate dt s →
    let code := if o.kind = .read then 74 else 75
    let ended (st : CardState) (n : Nat) (t : State) : State :=
      t.mapCard fun c => { c with state := st, op := none, fails := n, slot := none }
    let late (t : State) : State := t.mapCard fun c => { c with timedOut := some (s.partTime + dt) }
    let n := s.card.fails + 1
    let failed (timeout : Bool) : State :=
      reported (.cardError o.cls o.kind o.addr o.count timeout n)
        ((s.tick dt).mapCounters fun k => { k with cardErrors := satAdd k.cardErrors 1 })
    let refused : State → State := sent ⟨p.tag, BitVec.ofNat 8 code, .card, []⟩
    exec (.cardOpCompletion dt true data) s = .next (ended .idle 0
      (answered dt code p.tag .ok (if o.kind = .read then le 4 o.count ++ data else []) s)) ∧
    (Unwatched condCardError s → s.link.reports.length < 31 →
      (n < 3 →
        exec (.cardOpCompletion dt false data) s = .next (ended .idle n (refused (failed false))) ∧
        (o.start + o.limit ≤ s.partTime + dt → exec (.cardTimeout dt) s = .next (late (ended .idle n (refused (failed true)))))) ∧
      (3 ≤ n → s.store.state = .unmounted →
        exec (.cardOpCompletion dt false data) s = .next (ended .failed n (refused (reported .cardFailed (failed false)))) ∧
        (o.start + o.limit ≤ s.partTime + dt →
          exec (.cardTimeout dt) s = .next (late (ended .failed n (refused (reported .cardFailed (failed true)))))))) ∧
    (s.partTime + dt < o.start + o.limit → exec (.cardTimeout dt) s = .next (s.tick dt))

/-- The final trailer's completion closes its clip: the record is CLOSED with its CLIP_CLOSED report, and the STOPPING writer,
with no record left OPEN or CLOSING, is IDLE. -/
def Obligations.FinalTrailerClosesTheClip : Prop :=
  ∀ (dt : Nat) (before : List Clip) (c : Clip) (e : Nat) (o : CardOp) (r : CloseReason) (s : State), s.powered = true →
    AtRest s → s.card.state = .busy → s.card.op = some o → o.source = .writer (.finalTrailer c.number e) →
    s.card.updates = [] → s.card.slot = none → s.store.state = .ready → s.store.writer = .stopping →
    s.store.index = before ++ [c] → (∀ d ∈ before, d.state = .closed ∧ d.number ≠ c.number) → c.state = .closing →
    c.reason = some r → 0 < c.dataBlocks → s.intake.buffer = [] → s.store.retry = none → s.store.scan = none →
    s.store.flush = none → s.store.tab.reserve ≤ s.store.free.length → StoreJudged s → s.link.reports.length < 32 →
    NotLate dt s →
    exec (.cardOpCompletion dt true []) s = .next
      (reported (.clipClosed c.number r c.flags c.extentCount c.dataBlocks c.duration false)
        (((s.tick dt).mapStore fun st =>
          { st with writer := .idle, index := before ++ [{ c with state := .closed }] }).mapCard fun k =>
          { k with state := .idle, op := none, fails := 0 }))

/-- How the endings of bursts and trailer updates reach their source. A burst that ends with OK leaves the Segment Buffer and
is counted in its extent and its record; at the first ERROR the same burst starts again; at the second it is given up, its
extent weak with the weak trailer's write started, or BAD and out of the chain where it holds no confirmed block. A trailer
update leaves the queue with OK, starts again at the first ERROR, and at the second leaves the queue with the CARD flag set.
That CARD_ERROR carries the class the operation had at its start is the model's reading (LOG 37). -/
def Obligations.CardEndingsReachTheirSource : Prop :=
  (∀ (dt : Nat) (before : List Clip) (c : Clip) (e pos : Nat) (header : Bool) (bytes : Bytes) (x : Owned)
    (taken left : List Block) (o : CardOp) (s : State), s.powered = true → AtRest s → RecordingInto before c s →
    c.lastExtent = some e → s.intake.buffer = taken ++ left → s.card.state = .busy → s.card.op = some o →
    o.source = .writer (.burst c.number e pos taken.length header false bytes) →
    s.store.owned e = some x → s.card.updates = [] → s.card.slot = none → s.store.scan = none → NotLate dt s →
    let size := taken.length + if header then 1 else 0
    let cls := if s.store.tab.urgentMark ≤ s.intake.occupancy then 2 else 6
    let failed : State := reported (.cardError o.cls o.kind o.addr o.count false (s.card.fails + 1))
      ((s.tick dt).mapCounters fun k => { k with cardErrors := satAdd k.cardErrors 1 })
    (s.store.retry = none → x.data + size < 16383 → s.intake.bufCause = false →
      left.length + 1 < s.store.tab.burstSize → left.length + 1 < s.store.tab.urgentMark →
      exec (.cardOpCompletion dt true []) s = .next
        ((((s.tick dt).mapCard fun k => { k with state := .idle, op := none, fails := 0 }).mapIntake fun i =>
          { i with buffer := left }).mapStore fun st =>
          { st with extents := st.extents.set e (.owned { x with data := x.data + size }),
                    index := before ++ [{ c with dataBlocks := c.dataBlocks + taken.length }] })) ∧
    (Unwatched condCardError s → s.link.reports.length < 32 → s.card.fails + 1 < 3 → s.store.retry = none →
      exec (.cardOpCompletion dt false []) s = .next
        (((failed.mapCounters fun k => { k with cardRetries := satAdd k.cardRetries 1 }).mapStore fun st =>
          { st with retry := some (.burst c.number e pos taken.length header false bytes) }).mapCard fun k =>
          { k with fails := s.card.fails + 1,
                   op := some ⟨.writer (.burst c.number e pos taken.length header false bytes), cls, .write,
                               s.store.areaStart + e * 16384 + pos, size, s.partTime + dt,
                               1000 * s.store.tab.cardTimeout, bytes⟩ })) ∧
    (Unwatched condCardError s → s.card.fails + 1 < 3 → s.store.retry ≠ none → taken ≠ [] →
      (0 < x.data → ∃ t p, exec (.cardOpCompletion dt false []) s = .next t ∧ t.store.retry = none ∧
        t.store.extents = s.store.extents.set e (.owned { x with weak := true }) ∧
        t.store.index = before ++ [{ c with phase := .weakDue }] ∧ t.intake = s.intake ∧ t.card.state = .busy ∧
        t.card.op = some p ∧ p.source = .writer (.weakTrailer c.number e) ∧ p.cls = cls ∧ p.kind = .write ∧
        p.addr = s.store.areaStart + e * 16384 + 16383 ∧ p.count = 1 ∧ p.start = s.partTime + dt) ∧
      (x.data = 0 → x.next = none → c.locked = false → e ∉ s.store.free → s.store.free ≠ [] →
        Quiet (condStoreLow ||| condLockNear) s →
        (∃ l, s.store.chain c.extentCount c.firstExtent = l ++ [e] ∧ e ∉ l) →
        ∃ t, exec (.cardOpCompletion dt false []) s = .next t ∧ t.store.retry = none ∧
          t.store.extents[e]? = some .bad ∧ e ∉ t.store.free ∧ t.intake.buffer = s.intake.buffer ∧
          t.card.fails = s.card.fails + 1 ∧ ∃ d ∈ t.store.index, d.number = c.number ∧ d.state = .opened ∧
            d.firstExtent ≠ some e ∧ d.lastExtent ≠ some e ∧ d.dataBlocks = c.dataBlocks))) ∧
  ∀ (dt : Nat) (c : Clip) (e : Nat) (u : Update) (o : CardOp) (s : State), s.powered = true → AtRest s → NoRecording s →
    s.card.state = .busy → s.card.op = some o → o.source = .update u.clip → s.card.updates = [u] → s.card.slot = none →
    s.store.scan = none → s.store.find u.clip = some c → c.lastExtent = some e → NotLate dt s →
    let failed : State := reported (.cardError o.cls o.kind o.addr o.count false (s.card.fails + 1))
      ((s.tick dt).mapCounters fun k => { k with cardErrors := satAdd k.cardErrors 1 })
    exec (.cardOpCompletion dt true []) s = .next ((s.tick dt).mapCard fun k =>
      { k with state := .idle, op := none, fails := 0, updates := [] }) ∧
    (Unwatched condCardError s → s.link.reports.length < 32 → s.card.fails + 1 < 3 →
      (u.failed = false → ∃ t p, exec (.cardOpCompletion dt false []) s = .next t ∧ t.store = s.store ∧
        t.card.updates = [{ u with started := true, failed := true }] ∧ t.card.state = .busy ∧ t.card.op = some p ∧
        p.source = .update u.clip ∧ p.cls = 3 ∧ p.kind = .write ∧ p.count = 1 ∧ p.start = s.partTime + dt ∧
        p.addr = s.store.areaStart + e * 16384 + 16383 ∧ t.card.fails = s.card.fails + 1 ∧
        t.counters.cardErrors = satAdd s.counters.cardErrors 1 ∧
        t.counters.cardRetries = satAdd s.counters.cardRetries 1) ∧
      (u.failed = true → exec (.cardOpCompletion dt false []) s = .next ((failed.mapStore fun st =>
        { st with index := st.index.map fun d =>
          if d.number = u.clip then { d with flags := { d.flags with card := true } } else d }).mapCard fun k =>
        { k with state := .idle, op := none, fails := s.card.fails + 1, updates := [] })))

/-- The writer's extents follow one another. The burst that fills an extent has its full trailer's write started. At that
trailer's end, with a burst of further blocks due, an allocation is made: while the Free List holds too few extents for it and
the reserve, the oldest reclaimable clips are reclaimed and counted, the Free List's head is chained as the clip's last extent,
and its open trailer's write starts. With nothing to allocate the clip closes with FULL, its blocks discarded, and its final
trailer's write starts. A locked clip at the quota closes with LOCK_QUOTA, its final trailer's write starts, and a continuation
takes its blocks; where none can be opened the blocks are discarded and the clip takes TRUNCATED. That the quota
test comes before any room is made (LOG 24: R106 sets it before R94's step 2 only), so that a locked clip at the quota
reclaims nothing and closes with LOCK_QUOTA also where nothing is free, is the model's reading; that the allocation waits for the
full trailer's end (LOG 70) and that the reserve check is made before the open trailer's write starts (LOG 56) are its choices. -/
def Obligations.AllocationExtendsTheChain : Prop :=
  (∀ (dt : Nat) (before : List Clip) (c : Clip) (e pos : Nat) (header counted : Bool) (bytes : Bytes) (x : Owned)
    (taken left : List Block) (l : List Nat) (o : CardOp) (s : State), s.powered = true → AtRest s →
    RecordingInto before c s → c.lastExtent = some e → s.intake.buffer = taken ++ left → s.card.state = .busy →
    s.card.op = some o → o.source = .writer (.burst c.number e pos taken.length header counted bytes) →
    s.store.owned e = some x → x.next = none → s.store.chain c.extentCount c.firstExtent = l ++ [e] → e ∉ l →
    s.card.updates = [] → s.card.slot = none → s.store.scan = none → s.store.flush = none → s.intake.bufCause = false →
    NotLate dt s → x.data + taken.length + (if header then 1 else 0) = 16383 →
    ∃ t, exec (.cardOpCompletion dt true []) s = .next t ∧ t.intake.buffer = left ∧ t.store.retry = none ∧
      t.store.extents = s.store.extents.set e (.owned { x with data := 16383 }) ∧
      t.store.index = before ++ [{ c with dataBlocks := c.dataBlocks + taken.length, phase := .fullDue }] ∧
      TrailerStarted (.fullTrailer c.number e) e
        ⟨c.number, x.seq, l.getLast?, 16383, false, c.locked, c.flags, c.start, c.duration⟩ t) ∧
  ∀ (dt : Nat) (before : List Clip) (c : Clip) (e : Nat) (x : Owned) (s : State), AllocationNear before c e s →
    StoreBounded s → ClipsOrdered s → StoreSound s → ExtentsPlaced s → CountersBounded s → s.store.owned e = some x →
    NotLate dt s →
    let old := before.filter fun d => !d.locked
    let chain (d : Clip) := s.store.chain d.extentCount d.firstExtent
    let weak (i : Nat) : Bool := (s.store.owned i).any fun o => o.weak
    let gone (k : Nat) := (old.take k).flatMap chain
    let pool (k : Nat) := s.store.free ++ (gone k).filter fun i => !weak i
    let final (locked : Bool) (flags : ClipFlags) : TrailerInfo :=
      ⟨c.number, x.seq, (chain c).dropLast.getLast?, x.data, true, locked, flags, c.start, c.duration⟩
    let next (t : State) : Prop := exec (.cardOpCompletion dt true []) s = .next t
    (c.locked = false ∨ s.store.lockedExtents < s.store.quotaEff →
      (pool old.length ≠ [] → ∃ t k f, next t ∧ k ≤ old.length ∧ (pool k).head? = some f ∧
        (∀ j < k, (pool j).length ≤ s.store.tab.reserve) ∧ (s.store.tab.reserve < (pool k).length ∨ k = old.length) ∧
        t.store.free = (pool k).drop 1 ∧
        t.store.index = before.filter (fun d => d ∉ old.take k) ++
          [{ c with extentCount := c.extentCount + 1, lastExtent := some f, phase := .opening }] ∧
        t.counters.reclaimedClips = satAdd s.counters.reclaimedClips k ∧
        t.store.owned f = some ⟨false, c.number, c.extentCount, none, 0⟩ ∧
        t.store.owned e = some { x with next := some f } ∧
        (∀ i, i ≠ f → i ≠ e → t.store.extents[i]? =
          if i ∈ gone k then some (if weak i then .bad else .free) else s.store.extents[i]?) ∧
        t.intake = s.intake ∧ t.store.writer = .recording ∧
        TrailerStarted (.openTrailer c.number f) f
          ⟨c.number, c.extentCount, some e, 0, false, c.locked, c.flags, c.start, c.duration⟩ t) ∧
      (s.store.free = [] → old = [] → 0 < x.data → ∃ t, next t ∧ t.store.writer = .stopping ∧
        t.store.index = before ++ [{ c with state := .closing, reason := some .full, phase := .full, finalBegun := true }] ∧
        t.intake.buffer = [] ∧ t.intake.packing = [] ∧ t.intake.record = none ∧ t.intake.stallEnd = none ∧
        t.store.extents = s.store.extents ∧ t.store.free = [] ∧
        TrailerStarted (.finalTrailer c.number e) e (final c.locked c.flags) t)) ∧
    (c.locked = true → s.store.quotaEff ≤ s.store.lockedExtents → 0 < x.data →
      (before.length < 511 → s.store.nextClip < 4294967296 → s.store.free ≠ [] ∨ old ≠ [] → c.reason = none →
        s.link.reports.length < 32 →
        let n := s.store.nextClip
        let last := s.intake.record.bind IntakeRec.lastPts
        ∃ t, next t ∧ t.store.writer = .recording ∧ t.store.nextClip = n + 1 ∧
          t.store.index = before ++
            [{ c with state := .closing, reason := some .lockQuota, phase := .full, finalBegun := true },
             { number := n, state := .opened, locked := false, flags := ⟨false, false, false, false, true⟩, start := c.start,
               openTime := some (s.partTime + dt), firstPts := last, duration := 0, firstExtent := none,
               lastExtent := none, extentCount := 0, dataBlocks := 0, markers := [], reason := none, phase := .none,
               finalBegun := false }] ∧
          t.intake = { s.intake with
            buffer := s.intake.buffer.map fun b => { b with clip := n },
            record := some ⟨n, true, last, (s.intake.record.map IntakeRec.dropReported).getD false, false⟩ } ∧
          t.store.extents = s.store.extents ∧ t.store.free = s.store.free ∧
          t.store.lockedExtents = s.store.lockedExtents ∧ Issued (.clipOpened n c.start true) t ∧
          TrailerStarted (.finalTrailer c.number e) e (final true c.flags) t) ∧
      ((s.store.free = [] ∨ 511 ≤ before.length) ∧ old = [] ∨ before.length < 511 ∧ 4294967296 ≤ s.store.nextClip →
        ∃ t, next t ∧ t.store.writer = .stopping ∧
          t.store.index = before ++ [{ c with state := .closing, reason := some .lockQuota, phase := .full, finalBegun := true,
                                              flags := { c.flags with truncated := true } }] ∧
          t.intake.buffer = [] ∧ t.intake.packing = [] ∧ t.intake.record = none ∧ t.intake.stallEnd = none ∧
          t.store.extents = s.store.extents ∧ t.store.free = s.store.free ∧
          TrailerStarted (.finalTrailer c.number e) e (final true { c.flags with truncated := true }) t))

/-- The endings of a scan's reads. A read with OK gives its finding and the next read starts; at the first ERROR it is read
again, at the second the extent is BAD. After the last finding the store is READY, with the extents, the Free List, the records,
the next clip number and Q_eff that the findings give, and MOUNT_DONE is issued. -/
def Obligations.ScanRebuildsTheStore : Prop :=
  ∀ (dt : Nat) (data : Bytes) (k : Scan) (o : CardOp) (s : State), s.powered = true → AtRest s → NoRecording s →
    s.card.state = .busy → s.card.op = some o → o.source = .scan → s.card.updates = [] → s.card.slot = none →
    s.store.state = .scanning → s.store.scan = some k → k.abandoned = false → NotLate dt s →
    let finding := match parseTrailer s.store.generation s.store.count data with
      | some i => Finding.valid i
      | none => .invalid
    let failed : State := reported (.cardError o.cls o.kind o.addr o.count false (s.card.fails + 1))
      ((s.tick dt).mapCounters fun q => { q with cardErrors := satAdd q.cardErrors 1 })
    let reading (n : Scan) (fails : Nat) (t : State) : State := (t.mapStore fun st => { st with scan := some n }).mapCard fun q =>
      { q with fails := fails,
               op := some ⟨.scan, 4, .read, s.store.areaStart + n.ext * 16384 + 16383, 1, s.partTime + dt,
                           1000 * s.store.tab.cardTimeout, []⟩ }
    let Opened (found : List Finding) (t : State) : Prop := Rebuilt found t.store ∧ t.store.quota = s.store.quota ∧
      t.card.state = .idle ∧ (s.link.reports.length < 31 →
        Issued (.mountDone t.store.index.length t.store.free.length (found.filter fun f => f = .bad).length
          t.store.lockedExtents (t.store.index.filter fun d => d.flags.unfinished).length) t)
    (k.ext + 1 < s.store.count →
      exec (.cardOpCompletion dt true data) s =
        .next (reading ⟨k.ext + 1, false, k.found ++ [finding], false⟩ 0 (s.tick dt))) ∧
    (s.store.count ≤ k.ext + 1 → Quiet (condStoreLow ||| condLockNear) s →
      ∃ t, exec (.cardOpCompletion dt true data) s = .next t ∧ Opened (k.found ++ [finding]) t) ∧
    (Unwatched condCardError s → s.link.reports.length < 32 → s.card.fails + 1 < 3 →
      (k.again = false → exec (.cardOpCompletion dt false data) s = .next
        ((reading { k with again := true } (s.card.fails + 1) failed).mapCounters fun q =>
          { q with cardRetries := satAdd q.cardRetries 1 })) ∧
      (k.again = true → k.ext + 1 < s.store.count → exec (.cardOpCompletion dt false data) s = .next
        (reading ⟨k.ext + 1, false, k.found ++ [.bad], false⟩ (s.card.fails + 1) failed)) ∧
      (k.again = true → s.store.count ≤ k.ext + 1 → Quiet (condStoreLow ||| condLockNear) s →
        ∃ t, exec (.cardOpCompletion dt false data) s = .next t ∧ Opened (k.found ++ [.bad]) t))

/-- The emergency close. Entered in RECORDING with a write in flight, by the supply or by the die tier: the counter rises, the
OPEN clip is CLOSING with POWER or THERMAL, its last block is completed, the intake record and the stall timer end, HOLD is
asserted, the flush starts at the flush limit, and the write in flight goes on. The burst that reaches the limit with blocks
left cuts the flush: the head clip takes TRUNCATED, the blocks left are discarded, and its final trailer is written. The last final
trailer ends it: CLIP_CLOSED, then EMERGENCY_CLOSE, the writer IDLE, and HOLD judged afresh. -/
def Obligations.EmergencyClosesTheRecording : Prop :=
  (∀ (dt : Nat) (m : Measurements) (supplyFirst : Bool) (before : List Clip) (c : Clip) (r : CloseReason) (s : State),
    s.powered = true → s.thermal.deferred = none → s.link.waitThermal = none → RecordingInto before c s →
    s.card.writing = true → s.trig.waiting = [] →
    Quiet (condTierDerate ||| condTierLimit ||| condSupplyWarn ||| condHoldActive) s → 4100 ≤ m.vin → m.vin < 4300 →
    s.thermal.supply = .normal →
    (let b := s.thermal.tab
     (r = .power ∧ m.vbat < b.emergencyEntry ∧ s.thermal.tier = .clear ∧ m.dieTemp < b.riseDerate ∧
       m.dieTemp < b.riseLimit ∧ m.dieTemp < b.riseCutoff) ∨
     (r = .thermal ∧ b.emergencyEntry ≤ m.vbat ∧ b.warnEntry ≤ m.vbat ∧ s.thermal.tier ≠ .cutoff ∧ b.riseDerate ≤ m.dieTemp ∧
       b.riseLimit ≤ m.dieTemp ∧ b.riseCutoff ≤ m.dieTemp)) →
    ∃ t, exec (.powerUpdate dt m supplyFirst false) s = .next t ∧ t.store.writer = .emergency ∧
      t.store.index = before ++ [{ c with state := .closing, reason := some r }] ∧
      t.store.flush = some ⟨s.store.tab.flushLimit, r, 0, 0, 0, 0, 0⟩ ∧
      t.counters.emergencyCloses = satAdd s.counters.emergencyCloses 1 ∧ t.intake.hold = true ∧ t.intake.bufCause = true ∧
      t.intake.record = none ∧ t.intake.stallEnd = none ∧ t.intake.packing = [] ∧
      t.intake.buffer = s.intake.buffer ++ (if s.intake.packing = [] then []
        else [⟨c.number, s.intake.packing ++ padding s.intake.packing.length⟩]) ∧ t.card.op = s.card.op) ∧
  ∀ (dt : Nat) (before : List Clip) (c : Clip) (e : Nat) (f : Flush) (o : CardOp) (s : State), s.powered = true → AtRest s →
    s.card.state = .busy → s.card.op = some o → s.card.updates = [] → s.card.slot = none → s.store.state = .ready →
    s.store.writer = .emergency → s.store.flush = some f → s.store.index = before ++ [c] →
    (∀ d ∈ before, d.state = .closed ∧ d.number ≠ c.number) → c.state = .closing → s.store.retry = none →
    s.store.scan = none → StoreJudged s → s.intake.packing = [] → NotLate dt s →
    (∀ (pos : Nat) (header : Bool) (bytes : Bytes) (x : Owned) (taken left : List Block) (l : List Nat),
      o.source = .writer (.burst c.number e pos taken.length header true bytes) → taken ≠ [] → left ≠ [] →
      s.intake.buffer = taken ++ left → (∀ b ∈ s.intake.buffer, b.clip = c.number) → f.written + taken.length = f.limit →
      s.store.owned e = some x → s.store.chain c.extentCount c.firstExtent = l ++ [e] → e ∉ l →
      let size := taken.length + if header then 1 else 0
      x.data + size < 16383 → c.phase = .writing →
      ∃ t p, exec (.cardOpCompletion dt true []) s = .next t ∧ t.intake.buffer = [] ∧ t.store.writer = .emergency ∧
        t.store.index = before ++ [{ c with dataBlocks := c.dataBlocks + taken.length,
                                            flags := { c.flags with truncated := true }, finalBegun := true }] ∧
        t.store.flush = some { f with written := f.limit, discarded := f.discarded + left.length,
                                      truncated := f.truncated + 1 } ∧
        t.store.extents = s.store.extents.set e (.owned { x with data := x.data + size }) ∧ t.card.state = .busy ∧
        t.card.op = some p ∧ p.source = .writer (.finalTrailer c.number e) ∧ p.cls = 1 ∧ p.kind = .write ∧
        p.addr = s.store.areaStart + e * 16384 + 16383 ∧ p.count = 1 ∧ p.start = s.partTime + dt) ∧
    ∀ r, o.source = .writer (.finalTrailer c.number e) → c.reason = some r → 0 < c.dataBlocks →
      s.intake.buffer = [] → s.store.tab.reserve ≤ s.store.free.length → s.link.reports.length < 31 →
      s.link.answers.length < 16 → s.store.tab.holdMark ≤ 8192 → s.store.tab.releaseMark ≤ 8192 →
      (∀ n ∈ s.trig.entries, n.mask &&& condHoldActive = 0#16) →
      exec (.cardOpCompletion dt true []) s = .next
        (reported (.emergencyClose f.reason f.written f.discarded (f.closed + 1) f.truncated f.removed)
          (reported (.clipClosed c.number r c.flags c.extentCount c.dataBlocks c.duration false)
            (((((s.tick dt).mapStore fun st =>
              { st with writer := .idle, flush := none, index := before ++ [{ c with state := .closed }] }).mapCard fun k =>
              { k with state := .idle, op := none, fails := 0 }).mapIntake fun i =>
              { i with bufCause := false, hold := false }).mapTrig fun u =>
              { u with conds := u.conds &&& ~~~condHoldActive })))

/-- CARD_INSERTION makes an ABSENT card IDLE with its failure count 0, and changes no store; an insertion of a card that is
there and a removal of one that is not change nothing (LOG 8: the model's choice). CARD_REMOVAL makes the card ABSENT with
CARD_REMOVED, answers a passthrough directive in the slot CARD, and takes a READY or SCANNING store to FAULT: the writer IDLE,
the Segment Buffer empty, no trailer update left, every record CLOSED with the CARD flag and reason or removed, and
STORE_FAULT after them, the reports in this order where STORE_LOW and LOCK_NEAR are judged before, as every command leaves them.
Another store, in which nothing records, does not change. -/
def Obligations.CardDetectChanges : Prop :=
  (∀ (dt : Nat) (s : State), s.powered = true → AtRest s →
    (s.card.state = .absent → claimClasses s = [] → s.link.reports.length < 32 →
      exec (.cardInsertion dt) s = .next (reported .cardInserted
        ((s.tick dt).mapCard fun c => { c with state := .idle, fails := 0 }))) ∧
    (s.card.state ≠ .absent → exec (.cardInsertion dt) s = .next (s.tick dt)) ∧
    (s.card.state = .absent → exec (.cardRemoval dt) s = .next (s.tick dt))) ∧
  ∀ (dt : Nat) (s : State), s.powered = true → s.card.state ≠ .absent →
    ∃ t, exec (.cardRemoval dt) s = .next t ∧ t.card.state = .absent ∧ t.card.op = none ∧ t.card.fails = s.card.fails ∧
      t.motion = s.motion ∧ t.filter = s.filter ∧ t.frame = { s.frame with trailer := t.frame.trailer } ∧
      t.charge = s.charge ∧ t.thermal = s.thermal ∧ (AtRest s → PassAnsweredCard s t) ∧
      (AtRest s → s.link.reports.length < 32 → IssuedInOrder [.cardRemoved] t) ∧
      (s.store.state = .scanning ∨ s.store.state = .ready → FaultEntered .cardRemoved [.cardRemoved] s t) ∧
      (s.store.state = .unmounted ∨ s.store.state = .fault → AtRest s → NoRecording s → t.store = s.store)

/-! ### Power -/

/-- SET INPUT LIMIT, SET CHARGE REQUEST, SET GAUGE and CHARGE RESTART. That the two currents are read unsigned (LOG 48), that the
report of a restart carries the last VBAT measured (LOG 49), and the mark `restarted`, set where the restart has cleared an
overvoltage (LOG 47), and that in the room the answer leaves before the report (LOG 19), are the model's choices. -/
def Obligations.ChargeDirectives : Prop :=
  ∀ (dt : Nat) (tag : Byte) (s : State), Ready s →
    (∀ p : Bytes, p.length = 2 →
      (let v := min 3000 (max 100 (uintAt p 0 2))
       exec (.setInputLimit dt tag p) s = .next ((answered dt 80 tag .ok [] s).mapCharge fun c =>
         { c with ilimHost := v, ilimEff := c.ilimEff.map fun e => if v < e then v else e })) ∧
      exec (.setChargeRequest dt tag p) s = .next ((answered dt 81 tag .ok [] s).mapCharge fun c =>
        { c with request := min 3000 (uintAt p 0 2) })) ∧
    (∀ percent : Byte, percent.toNat ≤ 100 →
      exec (.setGauge dt tag [percent]) s = .next ((answered dt 83 tag .ok [] s).mapCharge fun c =>
        { c with cq := c.tab.capacity * 36000 * percent.toNat / 100, known := true })) ∧
    (s.charge.state ≠ .fault → exec (.chargeRestart dt tag []) s = .next (answered dt 82 tag .state [] s)) ∧
    (s.charge.state = .fault → s.link.reports.length < 32 →
      exec (.chargeRestart dt tag []) s = .next
        (reported (.chargeState .standby .none .fault s.charge.reason s.charge.band s.charge.meas.vbat s.charge.setpoint)
          ((answered dt 82 tag .ok [] s).mapCharge fun c =>
            { c with state := .standby, reason := .none, preTimer := 0, chargeTimer := 0,
                     restarted := decide (s.charge.reason = .overvoltage) })))

/-- POWER_UPDATE: a waiting THERMAL & SUPPLY page applies, the measurements replace those before, VIN presence follows its
thresholds, an arrival of VIN sets the effective input limit, a tenth update makes an evaluation due. Judged at once, the die
tier and the supply state follow their thresholds, and an entry to LIMIT or CUTOFF from below makes the setpoint 0; at a tenth
update the monitor's handling may wait for the evaluation instead (R143, LOG 11). A change of VIN presence, of the tier and of
the supply state is reported, and the conditions follow it. That INPUT_CHANGED carries an absent limit after a departure (LOG 45),
that it comes before the other two (LOG 46), and that `supplyFirst` tells which of these is handed on first (LOG 11), are the
model's readings and choices. -/
def Obligations.PowerUpdateJudgesTheSupply : Prop :=
  ∀ (dt : Nat) (m : Measurements) (supplyFirst monitorLast : Bool) (s : State), s.powered = true → s.thermal.deferred = none →
    let page := s.link.waitThermal.getD s.thermal.tab
    ∃ t, exec (.powerUpdate dt m supplyFirst monitorLast) s = .next t ∧ t.thermal.tab = page ∧ t.link.waitThermal = none ∧
      t.charge.meas = m ∧ t.charge.updates = s.charge.updates + 1 ∧
      t.charge.evalDue = (s.charge.evalDue || decide ((s.charge.updates + 1) % 10 = 0)) ∧
      t.charge.vin = (if 4300 ≤ m.vin then true else if m.vin < 4100 then false else s.charge.vin) ∧
      t.charge.ilimEff =
        (if t.charge.vin = s.charge.vin then s.charge.ilimEff else if t.charge.vin then some s.charge.ilimHost else none) ∧
      t.charge.state = s.charge.state ∧ t.charge.cq = s.charge.cq ∧ t.motion = s.motion ∧ t.filter = s.filter ∧
      t.frame = { s.frame with trailer := t.frame.trailer } ∧
      (monitorLast = true → (s.charge.updates + 1) % 10 = 0 →
        t.thermal = { s.thermal with tab := page, deferred := some supplyFirst } ∧ t.charge.setpoint = s.charge.setpoint) ∧
      (AtRest s → Quiet (condVinPresent ||| condTierDerate ||| condTierLimit ||| condSupplyWarn) s →
        (s.store.writer = .recording ∨ s.store.writer = .stopping →
          t.thermal.supply ≠ .emergency ∧ t.thermal.tier ≠ .cutoff) →
        let vin := decide (t.charge.vin ≠ s.charge.vin)
        let tier := decide (t.thermal.tier ≠ s.thermal.tier)
        let supply := decide (t.thermal.supply ≠ s.thermal.supply)
        let bit (c : BitVec 16) (changed holds : Bool) : Prop :=
          t.trig.conds &&& c = if changed then (if holds then c else 0#16) else s.trig.conds &&& c
        bit condVinPresent vin t.charge.vin ∧ bit condTierDerate tier (decide (1 ≤ t.thermal.tier.code)) ∧
        bit condTierLimit tier (decide (2 ≤ t.thermal.tier.code)) ∧ bit condSupplyWarn supply (decide (t.thermal.supply ≠ .normal)) ∧
        (s.link.reports.length < 30 →
          let input := if vin then [Payload.inputChanged t.charge.vin m.vin t.charge.ilimEff] else []
          let heat := if tier then [Payload.tier t.thermal.tier s.thermal.tier m.dieTemp] else []
          let cell := if supply then [Payload.supply t.thermal.supply s.thermal.supply m.vbat] else []
          IssuedInOrder (input ++ if supplyFirst then cell ++ heat else heat ++ cell) t)) ∧
      (monitorLast = false ∨ (s.charge.updates + 1) % 10 ≠ 0 →
        t.thermal.deferred = none ∧
        t.charge.setpoint =
          (if 2 ≤ t.thermal.tier.code ∧ s.thermal.tier.code < t.thermal.tier.code then 0 else s.charge.setpoint) ∧
        TierFollows page s.thermal.tier m.dieTemp t.thermal.tier ∧
        t.thermal.supply =
          (let b := page
           match s.thermal.supply with
           | .normal => if m.vbat < b.emergencyEntry then .emergency else if m.vbat < b.warnEntry then .warn else .normal
           | .warn => if m.vbat < b.emergencyEntry then .emergency else if b.warnExit ≤ m.vbat then .normal else .warn
           | .emergency =>
             if b.emergencyExit ≤ m.vbat ∧ b.warnExit ≤ m.vbat then .normal
             else if b.emergencyExit ≤ m.vbat then .warn else .emergency))

/-- CHARGE_EVALUATION with VIN present, no fault and a request above 0: the band follows the temperature and the band before,
and an INVALID, COLD or HOT band or a LIMIT or CUTOFF die suspends the charge with its reason and a setpoint of 0, and leaves
the safety timers. That with no evaluation due nothing happens is the model's choice (LOG 8, LOG 10). -/
def Obligations.EvaluationSuspendsTheCharge : Prop :=
  (∀ (dt : Nat) (s : State), s.powered = true → s.charge.evalDue = true → s.thermal.deferred = none → s.charge.vin = true →
    s.charge.state ≠ .fault → s.charge.request ≠ 0 →
    let tab := s.link.waitCharge.getD s.charge.tab
    ∃ t b, exec (.chargeEvaluation dt) s = .next t ∧ t.charge.tab = tab ∧ t.charge.band = some b ∧
      BandFollows tab s.charge.band s.charge.meas.batTemp b ∧ t.charge.evalDue = false ∧ t.thermal = s.thermal ∧
      t.motion = s.motion ∧
      ∀ r, (b = .invalid ∧ r = .thermistor) ∨ (b = .cold ∧ r = .batteryCold) ∨ (b = .hot ∧ r = .batteryHot) ∨
          (b.permits ∧ (s.thermal.tier = .limit ∨ s.thermal.tier = .cutoff) ∧ r = .dieLimit) →
        t.charge.state = .suspended ∧ t.charge.reason = r ∧ t.charge.setpoint = 0 ∧
        t.charge.preTimer = s.charge.preTimer ∧ t.charge.chargeTimer = s.charge.chargeTimer ∧ t.charge.charging = false) ∧
  ∀ (dt : Nat) (s : State), s.powered = true → AtRest s → s.charge.evalDue = false →
    exec (.chargeEvaluation dt) s = .next (s.tick dt) ∧ exec (.safetyTimerTimeout dt) s = .next (s.tick dt)

/-- A due evaluation: the input limit is regulated against VIN; the state moves by R147, R148 and R150, unless a timer reaches
its limit; the setpoint is at most the request, the derated phase current, the budget left of the input limit after the
system's draw and the headroom, and one step above the setpoint before, and in a charging state it is the largest multiple of
25 mA within them; the termination count follows R148; the gauge counts, and is full at a termination. That at the first
evaluation after a restart from an overvoltage one that persists is entered again, by the mark `restarted` that every
evaluation clears, is the model's choice between R147, case 5, and R157 (LOG 47). -/
def Obligations.SetpointStaysWithinItsLimits : Prop :=
  ∀ (dt : Nat) (s : State), s.powered = true → s.charge.evalDue = true →
    let q := s.charge
    let tab := s.link.waitCharge.getD q.tab
    let cap := tab.capacity * 36000
    let counted := if tab.capacity = q.tab.capacity then q.cq else q.cq * tab.capacity / q.tab.capacity
    ∃ t b, exec (.chargeEvaluation dt) s = .next t ∧ t.charge.evalDue = false ∧ t.charge.restarted = false ∧
      t.link.waitCharge = none ∧ t.charge.band = some b ∧ BandFollows tab q.band q.meas.batTemp b ∧
      t.charge.ilimEff = (if q.vin = true then q.ilimEff.map (q.regulatedLimit tab) else q.ilimEff) ∧
      (q.vin = false → t.charge.state = .noInput ∧ t.charge.reason = .none) ∧
      (q.vin = true → q.state = .fault → t.charge.state = .fault ∧ t.charge.reason = q.reason) ∧
      (q.vin = true → q.state ≠ .fault → q.request = 0 → t.charge.state = .standby ∧ t.charge.reason = .none) ∧
      (q.vin = true → q.state ≠ .fault → q.request ≠ 0 → b.permits → s.thermal.tier = .clear ∨ s.thermal.tier = .derate →
        ∃ m r, ChargeMoves tab q (tab.voltageOf b) m r ∧
          ((t.charge.state = m ∧ t.charge.reason = r) ∨
            (t.charge.state = .fault ∧ m = .precharge ∧ t.charge.reason = .prechargeTimeout ∧
              tab.prechargeTimeout * 600 ≤ t.charge.preTimer) ∨
            (t.charge.state = .fault ∧ (m = .fast ∨ m = .taper) ∧ t.charge.reason = .chargeTimeout ∧
              tab.chargeTimeout * 600 ≤ t.charge.chargeTimer))) ∧
      (t.charge.state = .taper → q.state = .taper → t.charge.termCount = q.termAfter tab) ∧
      (t.charge.state ≠ .taper ∨ q.state ≠ .taper → t.charge.termCount = 0) ∧
      (let phase := if t.charge.state = .precharge then 100 else tab.currentOf b
       let derated := if s.thermal.tier = .derate then phase / 2 else phase
       let budget : Int := max 0 ((t.charge.ilimEff.getD 0 : Int) - (q.meas.iin - max q.meas.ibat 0) - tab.headroom)
       t.charge.setpoint ≤ q.request ∧ t.charge.setpoint ≤ q.setpoint + tab.step ∧ (t.charge.setpoint : Int) ≤ budget ∧
         t.charge.setpoint ≤ derated ∧
         (s.thermal.deferred = none → t.charge.state = .precharge ∨ t.charge.state = .fast ∨ t.charge.state = .taper →
           let target := min (min derated q.request) budget.toNat / 25 * 25
           t.charge.setpoint = if target ≤ q.setpoint then target else min target (q.setpoint + tab.step))) ∧
      (q.state = .taper ∧ t.charge.state = .done → t.charge.cq = cap ∧ t.charge.known = true) ∧
      (¬(q.state = .taper ∧ t.charge.state = .done) → t.charge.known = q.known ∧
        (q.known = true → (t.charge.cq : Int) = max 0 (min (cap : Int) (counted + q.meas.ibat))) ∧
        (q.known = false → t.charge.cq = counted))

/-- The safety timers, at a due evaluation that stays in PRECHARGE, or in FAST or TAPER, with a setpoint above 0: the timer of
the phase rises by one. When it has then reached its limit, SAFETY_TIMER_TIMEOUT makes the state FAULT with that timer's
reason, the setpoint 0 and the termination count 0; below the limit CHARGE_EVALUATION keeps the charge, and
SAFETY_TIMER_TIMEOUT lets only time pass. That SAFETY_TIMER_TIMEOUT is the evaluation that reaches a limit, and does nothing
where none is due or none is reached, is the model's choice (LOG 10). -/
def Obligations.SafetyTimeoutFaultsTheCharge : Prop :=
  ∀ (dt : Nat) (b : Band) (e : Nat) (s : State), s.powered = true →
    (s.charge.evalDue = false → AtRest s → exec (.safetyTimerTimeout dt) s = .next (s.tick dt)) ∧
    (s.charge.evalDue = true → s.thermal.deferred = none → s.thermal.tier = .clear ∨ s.thermal.tier = .derate →
      s.link.waitCharge = none → s.charge.vin = true → s.charge.ilimEff = some e → s.charge.band = some b → b.permits →
      let q := s.charge
      let tab := q.tab
      let v := q.meas.vbat
      q.meas.batTemp ≤ 250 → -80 ≤ q.meas.batTemp → PlainBand tab q.meas.batTemp b → v ≤ tab.voltageOf b + 100 →
      25 ≤ q.request → 0 < tab.step → 50 ≤ tab.currentOf b →
      25 ≤ (q.regulatedLimit tab e : Int) - (q.meas.iin - max q.meas.ibat 0) - tab.headroom →
      (q.state = .precharge → v < tab.prechargeThreshold + 100 →
        (tab.prechargeTimeout * 600 ≤ q.preTimer + 1 →
          ∃ t, exec (.safetyTimerTimeout dt) s = .next t ∧ t.charge.state = .fault ∧ t.charge.reason = .prechargeTimeout ∧
            t.charge.setpoint = 0 ∧ t.charge.termCount = 0 ∧ t.charge.preTimer = q.preTimer + 1 ∧
            t.charge.chargeTimer = q.chargeTimer ∧ t.charge.evalDue = false ∧ t.thermal = s.thermal ∧ t.motion = s.motion) ∧
        (q.preTimer + 1 < tab.prechargeTimeout * 600 →
          (AtRest s → exec (.safetyTimerTimeout dt) s = .next (s.tick dt)) ∧
          ∃ t, exec (.chargeEvaluation dt) s = .next t ∧ t.charge.state = .precharge ∧ 0 < t.charge.setpoint ∧
            t.charge.preTimer = q.preTimer + 1 ∧ t.charge.chargeTimer = q.chargeTimer)) ∧
      (q.state = .fast ∨ (q.state = .taper ∧ q.termAfter tab ≠ 3) →
        (tab.chargeTimeout * 600 ≤ q.chargeTimer + 1 →
          ∃ t, exec (.safetyTimerTimeout dt) s = .next t ∧ t.charge.state = .fault ∧ t.charge.reason = .chargeTimeout ∧
            t.charge.setpoint = 0 ∧ t.charge.termCount = 0 ∧ t.charge.preTimer = q.preTimer ∧
            t.charge.chargeTimer = q.chargeTimer + 1 ∧ t.charge.evalDue = false ∧ t.thermal = s.thermal ∧
            t.motion = s.motion) ∧
        (q.chargeTimer + 1 < tab.chargeTimeout * 600 →
          (AtRest s → exec (.safetyTimerTimeout dt) s = .next (s.tick dt)) ∧
          ∃ t, exec (.chargeEvaluation dt) s = .next t ∧ (t.charge.state = .fast ∨ t.charge.state = .taper) ∧
            0 < t.charge.setpoint ∧ t.charge.preTimer = q.preTimer ∧ t.charge.chargeTimer = q.chargeTimer + 1)))

/-! ### Operations -/

/-- The band offsets: clamped to the margins, the flag of an axis set and the band-clamp counter raised exactly where the clamp
changes it; dx = dy = 0 without lookup, flag or count in OFF, whatever the history holds. In STEADY and ECO the correction
comes from the history at the exposure centre, is converted by the lens densities with halves away from zero, and is then
clamped, to the margins and, after the first band, to the slew from the band before. -/
def Obligations.BandOffsetsAreClamped : Prop :=
  (∀ (g : Geometry) (slew : Nat) (dx dy : Int) (s : State) (h : Bool),
    let b := clampBand g slew dx dy none
    let mx : Int := ((g.wIn - g.wOut) / 2 : Nat)
    let my : Int := ((g.hIn - g.hOut) / 2 : Nat)
    b.decided = true ∧ -mx ≤ b.dx ∧ b.dx ≤ mx ∧ -my ≤ b.dy ∧ b.dy ≤ my ∧
    (-mx ≤ dx → dx ≤ mx → b.dx = dx) ∧ (dx < -mx → b.dx = -mx) ∧ (mx < dx → b.dx = mx) ∧
    (-my ≤ dy → dy ≤ my → b.dy = dy) ∧ (dy < -my → b.dy = -my) ∧ (my < dy → b.dy = my) ∧
    (b.xClamp = true ↔ b.dx ≠ dx) ∧ (b.yClamp = true ↔ b.dy ≠ dy) ∧ b.slewClamp = false ∧
    (countBand b h s).counters.bandClamps =
      satAdd s.counters.bandClamps ((if b.dx ≠ dx then 1 else 0) + (if b.dy ≠ dy then 1 else 0)) ∧
    (∀ p : Int, (clampBand g slew dx dy (some p)).xClamp = b.xClamp ∧ (clampBand g slew dx dy (some p)).yClamp = b.yClamp ∧
      (clampBand g slew dx dy (some p)).dx = b.dx)) ∧
  (∀ (g : Geometry) (r : FrameRec) (e : LensEntry) (t : Nat) (prev : Option Int) (s : State), r.mode = .off →
    bandCorrection g r e t prev s = (⟨true, 0, 0, false, false, false, false⟩, s)) ∧
  ∀ (g : Geometry) (r : FrameRec) (e : LensEntry) (t : Nat) (prev : Option Int) (s : State),
    r.mode = .steady ∨ r.mode = .eco → ∃ (found : Option HistoryEntry) (early : Bool) (dx dy : Int),
      LookedUp s.filter.history ((t : Int) - e.lineDelay - (r.exposure / 2 : Nat)) found early ∧
      Rounded ((found.map HistoryEntry.cYaw).getD 0 * e.ppdx) 16777216 dx ∧
      Rounded ((found.map HistoryEntry.cPitch).getD 0 * e.ppdy) 16777216 dy ∧
      bandCorrection g r e t prev s =
        (clampBand g r.slewEff dx dy prev, countBand (clampBand g r.slewEff dx dy prev) early s) ∧
      (∀ b, (countBand b early s).counters.historyClamps = satAdd s.counters.historyClamps (if early then 1 else 0)) ∧
      ∀ p, prev = some p →
        let y := (clampBand g r.slewEff dx dy none).dy
        let b := clampBand g r.slewEff dx dy prev
        (p - r.slewEff ≤ y → y ≤ p + r.slewEff → b.dy = y ∧ b.slewClamp = false) ∧
        (y < p - r.slewEff → b.dy = p - r.slewEff ∧ b.slewClamp = true) ∧
        (p + r.slewEff < y → b.dy = p + r.slewEff ∧ b.slewClamp = true)

/-- An entry fires at a change exactly when it is enabled, its last value is false, its mask holds a changed condition and its
value after the change is true; the entries that fire do so in ascending order, each action whole; every entry whose mask holds
a changed condition takes its value after the change as its last value. While the link is ASLEEP or a link reset is in progress
a change moves the condition values and the last values, and nothing else. -/
def Obligations.TriggerEntriesFire : Prop :=
  (∀ (changed conds : BitVec 16) (es : List TrigEntry) (ls : List Bool),
    (∀ (i : Nat) (e : TrigEntry), (i, e) ∈ firing changed conds 0 es ls ↔
      es[i]? = some e ∧ ls[i]? = some false ∧ e.enabled = true ∧ e.mask &&& changed ≠ 0#16 ∧
        (e.sense = .rise ∧ e.mask &&& conds ≠ 0#16 ∨ e.sense = .fall ∧ e.mask &&& conds = 0#16)) ∧
    ((firing changed conds 0 es ls).map Prod.fst).Pairwise (· < ·) ∧
    (lastAfter changed conds es ls).length = ls.length ∧
    ∀ (i : Nat) (e : TrigEntry) (l : Bool), es[i]? = some e → ls[i]? = some l →
      (e.mask &&& changed = 0#16 → (lastAfter changed conds es ls)[i]? = some l) ∧
      (e.mask &&& changed ≠ 0#16 →
        ((lastAfter changed conds es ls)[i]? = some true ↔
          (e.sense = .rise ∧ e.mask &&& conds ≠ 0#16 ∨ e.sense = .fall ∧ e.mask &&& conds = 0#16)))) ∧
  ∀ (c : Change) (s : State),
    let conds := (s.trig.conds &&& ~~~c.mask) ||| (c.values &&& c.mask)
    let changed := conds ^^^ s.trig.conds
    let moved := s.mapTrig fun t => { t with conds := conds, last := lastAfter changed conds t.entries t.last }
    (s.link.awake = true → s.motion.checking = false →
      takeChange c s =
        (firing changed conds 0 s.trig.entries s.trig.last).foldl (fun s (f : Nat × TrigEntry) => fire f.1 f.2 s) moved) ∧
    (s.link.awake = false ∨ s.motion.checking = true → takeChange c s = moved)

/-- What a trigger entry does when it fires: its action is taken, then one TRIGGER report carries the outcome, for a LOCK that of
both parts. SPLIT sets the split mark once. STOP makes the OPEN clip CLOSING with TRIGGER, or removes it where nothing of it
was written or buffered. START opens a clip as START RECORDING does, at the present part time, with the same refusals. LOCK
tries the OPEN clip, and within the pre-lock window then the highest-numbered other record. The clip that a refused or
ineffective outcome names is the model's reading (LOG 39), and that no entry fires at a change to EMERGENCY or CUTOFF before
the writer has entered EMERGENCY, so that START is STATE there, its choice (LOG 64). -/
def Obligations.TriggerActionsAct : Prop :=
  let nothing : Outcome := ⟨.noEffect, .ok, 0⟩
  (∀ (i : Nat) (e : TrigEntry) (s : State),
    let told (o pre : Outcome) (t : State) : State :=
      report (.trigger i e.action o.result o.code o.clip pre.result pre.code pre.clip) t
    (e.action = .mark → fire i e s = told (actMark i s).1 nothing (actMark i s).2) ∧
    (e.action = .lock → fire i e s = told (actLock s).1 (actLock s).2.1 (actLock s).2.2) ∧
    (e.action = .split → fire i e s = told (actSplit s).1 nothing (actSplit s).2) ∧
    (e.action = .stop → fire i e s = told (actStop s).1 nothing (actStop s).2) ∧
    (e.action = .start → fire i e s = told (actStart s).1 nothing (actStart s).2)) ∧
  (∀ s : State,
    (s.intake.record = none → actSplit s = (nothing, s)) ∧
    (s.store.writer ≠ .recording → actSplit s = (nothing, s) ∧ actStop s = (nothing, s)) ∧
    (∀ r, s.store.writer = .recording → s.intake.record = some r →
      (r.splitMark = true → actSplit s = (⟨.noEffect, .ok, r.clip⟩, s)) ∧
      (r.splitMark = false → actSplit s =
        (⟨.done, .ok, r.clip⟩, s.mapIntake fun i => { i with record := some { r with splitMark := true } }))) ∧
    (s.thermal.supply = .emergency ∨ s.thermal.tier = .cutoff → actStart s = (⟨.refused, .state, 0⟩, s)) ∧
    (s.store.writer = .recording → s.thermal.supply ≠ .emergency → s.thermal.tier ≠ .cutoff → actStart s = (nothing, s)) ∧
    (s.store.writer ≠ .recording →
      (s.store.state ≠ .ready ∨ s.store.writer = .emergency → actStart s = (⟨.refused, .state, 0⟩, s)) ∧
      (s.store.state = .ready → s.thermal.supply ≠ .emergency → s.thermal.tier ≠ .cutoff →
        (s.store.writer = .stopping → actStart s = (⟨.refused, .busy, 0⟩, s)) ∧
        (s.store.writer = .idle → StoreJudged s → s.store.free = [] ∨ 512 ≤ s.store.index.length →
          (∀ c ∈ s.store.index, c.state = .closed → c.locked = true) → actStart s = (⟨.refused, .full, 0⟩, s)) ∧
        (NoRecording s → StoreJudged s → s.store.index.length < 512 → s.store.nextClip < 4294967296 →
          s.store.free ≠ [] ∨ (∃ c ∈ s.store.index, c.locked = false) →
          let n := s.store.nextClip
          actStart s = (⟨.done, .ok, n⟩, report (.clipOpened n s.partTime false)
            ((s.mapStore fun st =>
              { st with writer := .recording, nextClip := n + 1,
                        index := st.index ++
                          [{ number := n, state := .opened, locked := false, flags := ⟨false, false, false, false, false⟩,
                             start := s.partTime, openTime := some s.partTime, firstPts := none, duration := 0,
                             firstExtent := none, lastExtent := none, extentCount := 0, dataBlocks := 0, markers := [],
                             reason := none, phase := .none, finalBegun := false }] }).mapIntake fun i =>
              { i with record := some ⟨n, false, none, false, false⟩,
                       stallEnd := some (s.partTime + 1000 * s.store.tab.stallTime) })))))) ∧
  (∀ (before : List Clip) (c : Clip) (s : State), judgeHold s = s →
    (RecordingInto before c s → actStop s = (⟨.done, .ok, c.number⟩,
      (s.mapStore fun st =>
        { st with writer := .stopping, index := before ++ [{ c with state := .closing, reason := some .trigger }] }).mapIntake
        fun i => { i with record := none, stallEnd := none, packing := [],
                          buffer := i.buffer ++
                            (if i.packing = [] then [] else [⟨c.number, i.packing ++ padding i.packing.length⟩]) })) ∧
    (s.store.state = .ready → s.store.writer = .recording → s.store.flush = none → s.store.index = before ++ [c] →
      (∀ d ∈ before, d.state = .closed ∧ d.number ≠ c.number) → c.state = .opened → c.extentCount = 0 → c.dataBlocks = 0 →
      s.intake.buffer = [] → s.intake.packing = [] → (∀ u ∈ s.card.updates, u.clip ≠ c.number) → StoreJudged s →
      actStop s = (⟨.done, .ok, c.number⟩, report (.clipClosed c.number .trigger c.flags 0 0 c.duration true)
        ((s.mapStore fun st => { st with writer := .idle, index := before }).mapIntake fun i =>
          { i with record := none, stallEnd := none })))) ∧
  ∀ s : State,
    (s.store.openClip = none → actLock s = (nothing, nothing, s)) ∧
    ∀ c, s.store.openClip = some c → StoreJudged s → s.store.tab.reserve ≤ s.store.free.length →
      (s.store.index.map Clip.number).Pairwise (· < ·) →
      ∃ o u, LockTried c s o u ∧
        (1000000 * s.store.tab.preLock ≤ s.partTime - c.openTime.getD 0 ∨ s.store.index = [c] →
          actLock s = (o, nothing, u)) ∧
        (s.partTime - c.openTime.getD 0 < 1000000 * s.store.tab.preLock → ∀ d ∈ s.store.index, d.number ≠ c.number →
          (∀ x ∈ s.store.index, x.number ≠ c.number → x.number ≤ d.number) →
          ∃ pre t, LockTried d u pre t ∧ actLock s = (o, pre, t))

/-- A trailer that the part writes is read back by a scan of the same generation as it was written. -/
def Obligations.TrailerReadsBackAsWritten : Prop :=
  ∀ (generation n : Nat) (t : TrailerInfo), generation < 4294967296 → n ≤ 16384 → t.clip < 4294967296 → t.seq < n →
    t.data ≤ 16383 → t.start < 18446744073709551616 → t.duration < 18446744073709551616 →
    (t.seq = 0 → t.prev = none) → (t.seq ≠ 0 → ∃ q, t.prev = some q ∧ q < n) →
    (trailerBlock generation t).length = 512 ∧ parseTrailer generation n (trailerBlock generation t) = some t

/-! ### Invariants that every step keeps -/

/-- The Report Queue, the Answer Queue, the Angle History, the Line Ring and the Segment Buffer keep within their sizes; HOLD
stays the union of its two causes, and the answer cause stays as the Answer Queue gives it. -/
def Obligations.StepKeepsQueuesAndHold : Prop :=
  ∀ s t : State, step s = .next t →
    (ReportsBounded s → AnswersBounded s → RingsBounded s → ReportsBounded t ∧ AnswersBounded t ∧ RingsBounded t) ∧
      (HoldFollows s → HoldFollows t) ∧ (BufferBounded s → BufferBounded t)

/-- Values keep within their ranges: the biases within −2048 to 2047, and the effective mode one of OFF, STEADY and ECO; the
input limits ordered and the gauge within the capacity; the setpoint 0 unless the charge state is PRECHARGE, FAST or TAPER and
the tier lies below LIMIT, and the termination count 0 outside TAPER; no counter past 4,294,967,295, and the loaded pages with
the entry counts of Table 10-5. -/
def Obligations.StepKeepsRanges : Prop :=
  ∀ s t : State, step s = .next t →
    (BiasInRange s → EffectiveMode s → BiasInRange t ∧ EffectiveMode t) ∧
      (InputLimitBounded s → GaugeBounded s → InputLimitBounded t ∧ GaugeBounded t) ∧
      (SetpointAllowed s → SetpointAllowed t) ∧ (CountersBounded s → TablesSized s → CountersBounded t ∧ TablesSized t)

/-- The Clip Index stays within 512 records, in ascending number below the next clip number, at most one of them OPEN and then
with the writer RECORDING, and the trailer-update queue within 16 entries. In supply EMERGENCY and in tier CUTOFF the writer
does not record and no record is OPEN, and the extents of the locked records stay within Q_eff. -/
def Obligations.StepKeepsStoreBounds : Prop :=
  ∀ s t : State, StoreBounded s → ClipsOrdered s → step s = .next t →
    StoreBounded t ∧ ClipsOrdered t ∧ (NoneOpenUnderEmergency s → NoneOpenUnderEmergency t) ∧
      (LocksWithinQuota s → LocksWithinQuota t)

/-- While the store is READY every extent stays in exactly one place, and what the buffer, the intake record, the writes and
the scan stand on stays there. -/
def Obligations.StepKeepsExtentsPlaced : Prop :=
  ∀ s t : State, StoreBounded s → ClipsOrdered s → StoreSound s → ExtentsPlaced s → step s = .next t →
    StoreSound t ∧ ExtentsPlaced t

/-- The state after reset has every one of these properties. -/
def Obligations.ResetMeetsTheInvariants : Prop :=
  ReportsBounded State.reset ∧ AnswersBounded State.reset ∧ RingsBounded State.reset ∧ HoldFollows State.reset ∧
    BufferBounded State.reset ∧
    BiasInRange State.reset ∧ EffectiveMode State.reset ∧ InputLimitBounded State.reset ∧ GaugeBounded State.reset ∧
    SetpointAllowed State.reset ∧ StoreBounded State.reset ∧ ClipsOrdered State.reset ∧
    NoneOpenUnderEmergency State.reset ∧ LocksWithinQuota State.reset ∧ StoreSound State.reset ∧
    ExtentsPlaced State.reset ∧ CountersBounded State.reset ∧ TablesSized State.reset
end

