-- ==== Sys2Proof/Laws/State.lean ====
section
/-! SUPPORT. One lemma per field per update of State, true by rfl: a block's update changes that block alone. -/

namespace Sys2Proof.Machine.State

variable (s : State)

@[simp] theorem mapMotion_pending (f : Motion → Motion) : (s.mapMotion f).pending = s.pending := rfl
@[simp] theorem mapMotion_powered (f : Motion → Motion) : (s.mapMotion f).powered = s.powered := rfl
@[simp] theorem mapMotion_partTime (f : Motion → Motion) : (s.mapMotion f).partTime = s.partTime := rfl
@[simp] theorem mapMotion_captureOut (f : Motion → Motion) : (s.mapMotion f).captureOut = s.captureOut := rfl
@[simp] theorem mapMotion_motion (f : Motion → Motion) : (s.mapMotion f).motion = f s.motion := rfl
@[simp] theorem mapMotion_filter (f : Motion → Motion) : (s.mapMotion f).filter = s.filter := rfl
@[simp] theorem mapMotion_frame (f : Motion → Motion) : (s.mapMotion f).frame = s.frame := rfl
@[simp] theorem mapMotion_intake (f : Motion → Motion) : (s.mapMotion f).intake = s.intake := rfl
@[simp] theorem mapMotion_store (f : Motion → Motion) : (s.mapMotion f).store = s.store := rfl
@[simp] theorem mapMotion_card (f : Motion → Motion) : (s.mapMotion f).card = s.card := rfl
@[simp] theorem mapMotion_trig (f : Motion → Motion) : (s.mapMotion f).trig = s.trig := rfl
@[simp] theorem mapMotion_charge (f : Motion → Motion) : (s.mapMotion f).charge = s.charge := rfl
@[simp] theorem mapMotion_thermal (f : Motion → Motion) : (s.mapMotion f).thermal = s.thermal := rfl
@[simp] theorem mapMotion_link (f : Motion → Motion) : (s.mapMotion f).link = s.link := rfl
@[simp] theorem mapMotion_counters (f : Motion → Motion) : (s.mapMotion f).counters = s.counters := rfl
@[simp] theorem mapFilter_pending (f : Filter → Filter) : (s.mapFilter f).pending = s.pending := rfl
@[simp] theorem mapFilter_powered (f : Filter → Filter) : (s.mapFilter f).powered = s.powered := rfl
@[simp] theorem mapFilter_partTime (f : Filter → Filter) : (s.mapFilter f).partTime = s.partTime := rfl
@[simp] theorem mapFilter_captureOut (f : Filter → Filter) : (s.mapFilter f).captureOut = s.captureOut := rfl
@[simp] theorem mapFilter_motion (f : Filter → Filter) : (s.mapFilter f).motion = s.motion := rfl
@[simp] theorem mapFilter_filter (f : Filter → Filter) : (s.mapFilter f).filter = f s.filter := rfl
@[simp] theorem mapFilter_frame (f : Filter → Filter) : (s.mapFilter f).frame = s.frame := rfl
@[simp] theorem mapFilter_intake (f : Filter → Filter) : (s.mapFilter f).intake = s.intake := rfl
@[simp] theorem mapFilter_store (f : Filter → Filter) : (s.mapFilter f).store = s.store := rfl
@[simp] theorem mapFilter_card (f : Filter → Filter) : (s.mapFilter f).card = s.card := rfl
@[simp] theorem mapFilter_trig (f : Filter → Filter) : (s.mapFilter f).trig = s.trig := rfl
@[simp] theorem mapFilter_charge (f : Filter → Filter) : (s.mapFilter f).charge = s.charge := rfl
@[simp] theorem mapFilter_thermal (f : Filter → Filter) : (s.mapFilter f).thermal = s.thermal := rfl
@[simp] theorem mapFilter_link (f : Filter → Filter) : (s.mapFilter f).link = s.link := rfl
@[simp] theorem mapFilter_counters (f : Filter → Filter) : (s.mapFilter f).counters = s.counters := rfl
@[simp] theorem mapFrame_pending (f : Frame → Frame) : (s.mapFrame f).pending = s.pending := rfl
@[simp] theorem mapFrame_powered (f : Frame → Frame) : (s.mapFrame f).powered = s.powered := rfl
@[simp] theorem mapFrame_partTime (f : Frame → Frame) : (s.mapFrame f).partTime = s.partTime := rfl
@[simp] theorem mapFrame_captureOut (f : Frame → Frame) : (s.mapFrame f).captureOut = s.captureOut := rfl
@[simp] theorem mapFrame_motion (f : Frame → Frame) : (s.mapFrame f).motion = s.motion := rfl
@[simp] theorem mapFrame_filter (f : Frame → Frame) : (s.mapFrame f).filter = s.filter := rfl
@[simp] theorem mapFrame_frame (f : Frame → Frame) : (s.mapFrame f).frame = f s.frame := rfl
@[simp] theorem mapFrame_intake (f : Frame → Frame) : (s.mapFrame f).intake = s.intake := rfl
@[simp] theorem mapFrame_store (f : Frame → Frame) : (s.mapFrame f).store = s.store := rfl
@[simp] theorem mapFrame_card (f : Frame → Frame) : (s.mapFrame f).card = s.card := rfl
@[simp] theorem mapFrame_trig (f : Frame → Frame) : (s.mapFrame f).trig = s.trig := rfl
@[simp] theorem mapFrame_charge (f : Frame → Frame) : (s.mapFrame f).charge = s.charge := rfl
@[simp] theorem mapFrame_thermal (f : Frame → Frame) : (s.mapFrame f).thermal = s.thermal := rfl
@[simp] theorem mapFrame_link (f : Frame → Frame) : (s.mapFrame f).link = s.link := rfl
@[simp] theorem mapFrame_counters (f : Frame → Frame) : (s.mapFrame f).counters = s.counters := rfl
@[simp] theorem mapIntake_pending (f : Intake → Intake) : (s.mapIntake f).pending = s.pending := rfl
@[simp] theorem mapIntake_powered (f : Intake → Intake) : (s.mapIntake f).powered = s.powered := rfl
@[simp] theorem mapIntake_partTime (f : Intake → Intake) : (s.mapIntake f).partTime = s.partTime := rfl
@[simp] theorem mapIntake_captureOut (f : Intake → Intake) : (s.mapIntake f).captureOut = s.captureOut := rfl
@[simp] theorem mapIntake_motion (f : Intake → Intake) : (s.mapIntake f).motion = s.motion := rfl
@[simp] theorem mapIntake_filter (f : Intake → Intake) : (s.mapIntake f).filter = s.filter := rfl
@[simp] theorem mapIntake_frame (f : Intake → Intake) : (s.mapIntake f).frame = s.frame := rfl
@[simp] theorem mapIntake_intake (f : Intake → Intake) : (s.mapIntake f).intake = f s.intake := rfl
@[simp] theorem mapIntake_store (f : Intake → Intake) : (s.mapIntake f).store = s.store := rfl
@[simp] theorem mapIntake_card (f : Intake → Intake) : (s.mapIntake f).card = s.card := rfl
@[simp] theorem mapIntake_trig (f : Intake → Intake) : (s.mapIntake f).trig = s.trig := rfl
@[simp] theorem mapIntake_charge (f : Intake → Intake) : (s.mapIntake f).charge = s.charge := rfl
@[simp] theorem mapIntake_thermal (f : Intake → Intake) : (s.mapIntake f).thermal = s.thermal := rfl
@[simp] theorem mapIntake_link (f : Intake → Intake) : (s.mapIntake f).link = s.link := rfl
@[simp] theorem mapIntake_counters (f : Intake → Intake) : (s.mapIntake f).counters = s.counters := rfl
@[simp] theorem mapStore_pending (f : Store → Store) : (s.mapStore f).pending = s.pending := rfl
@[simp] theorem mapStore_powered (f : Store → Store) : (s.mapStore f).powered = s.powered := rfl
@[simp] theorem mapStore_partTime (f : Store → Store) : (s.mapStore f).partTime = s.partTime := rfl
@[simp] theorem mapStore_captureOut (f : Store → Store) : (s.mapStore f).captureOut = s.captureOut := rfl
@[simp] theorem mapStore_motion (f : Store → Store) : (s.mapStore f).motion = s.motion := rfl
@[simp] theorem mapStore_filter (f : Store → Store) : (s.mapStore f).filter = s.filter := rfl
@[simp] theorem mapStore_frame (f : Store → Store) : (s.mapStore f).frame = s.frame := rfl
@[simp] theorem mapStore_intake (f : Store → Store) : (s.mapStore f).intake = s.intake := rfl
@[simp] theorem mapStore_store (f : Store → Store) : (s.mapStore f).store = f s.store := rfl
@[simp] theorem mapStore_card (f : Store → Store) : (s.mapStore f).card = s.card := rfl
@[simp] theorem mapStore_trig (f : Store → Store) : (s.mapStore f).trig = s.trig := rfl
@[simp] theorem mapStore_charge (f : Store → Store) : (s.mapStore f).charge = s.charge := rfl
@[simp] theorem mapStore_thermal (f : Store → Store) : (s.mapStore f).thermal = s.thermal := rfl
@[simp] theorem mapStore_link (f : Store → Store) : (s.mapStore f).link = s.link := rfl
@[simp] theorem mapStore_counters (f : Store → Store) : (s.mapStore f).counters = s.counters := rfl
@[simp] theorem mapCard_pending (f : Card → Card) : (s.mapCard f).pending = s.pending := rfl
@[simp] theorem mapCard_powered (f : Card → Card) : (s.mapCard f).powered = s.powered := rfl
@[simp] theorem mapCard_partTime (f : Card → Card) : (s.mapCard f).partTime = s.partTime := rfl
@[simp] theorem mapCard_captureOut (f : Card → Card) : (s.mapCard f).captureOut = s.captureOut := rfl
@[simp] theorem mapCard_motion (f : Card → Card) : (s.mapCard f).motion = s.motion := rfl
@[simp] theorem mapCard_filter (f : Card → Card) : (s.mapCard f).filter = s.filter := rfl
@[simp] theorem mapCard_frame (f : Card → Card) : (s.mapCard f).frame = s.frame := rfl
@[simp] theorem mapCard_intake (f : Card → Card) : (s.mapCard f).intake = s.intake := rfl
@[simp] theorem mapCard_store (f : Card → Card) : (s.mapCard f).store = s.store := rfl
@[simp] theorem mapCard_card (f : Card → Card) : (s.mapCard f).card = f s.card := rfl
@[simp] theorem mapCard_trig (f : Card → Card) : (s.mapCard f).trig = s.trig := rfl
@[simp] theorem mapCard_charge (f : Card → Card) : (s.mapCard f).charge = s.charge := rfl
@[simp] theorem mapCard_thermal (f : Card → Card) : (s.mapCard f).thermal = s.thermal := rfl
@[simp] theorem mapCard_link (f : Card → Card) : (s.mapCard f).link = s.link := rfl
@[simp] theorem mapCard_counters (f : Card → Card) : (s.mapCard f).counters = s.counters := rfl
@[simp] theorem mapTrig_pending (f : Trig → Trig) : (s.mapTrig f).pending = s.pending := rfl
@[simp] theorem mapTrig_powered (f : Trig → Trig) : (s.mapTrig f).powered = s.powered := rfl
@[simp] theorem mapTrig_partTime (f : Trig → Trig) : (s.mapTrig f).partTime = s.partTime := rfl
@[simp] theorem mapTrig_captureOut (f : Trig → Trig) : (s.mapTrig f).captureOut = s.captureOut := rfl
@[simp] theorem mapTrig_motion (f : Trig → Trig) : (s.mapTrig f).motion = s.motion := rfl
@[simp] theorem mapTrig_filter (f : Trig → Trig) : (s.mapTrig f).filter = s.filter := rfl
@[simp] theorem mapTrig_frame (f : Trig → Trig) : (s.mapTrig f).frame = s.frame := rfl
@[simp] theorem mapTrig_intake (f : Trig → Trig) : (s.mapTrig f).intake = s.intake := rfl
@[simp] theorem mapTrig_store (f : Trig → Trig) : (s.mapTrig f).store = s.store := rfl
@[simp] theorem mapTrig_card (f : Trig → Trig) : (s.mapTrig f).card = s.card := rfl
@[simp] theorem mapTrig_trig (f : Trig → Trig) : (s.mapTrig f).trig = f s.trig := rfl
@[simp] theorem mapTrig_charge (f : Trig → Trig) : (s.mapTrig f).charge = s.charge := rfl
@[simp] theorem mapTrig_thermal (f : Trig → Trig) : (s.mapTrig f).thermal = s.thermal := rfl
@[simp] theorem mapTrig_link (f : Trig → Trig) : (s.mapTrig f).link = s.link := rfl
@[simp] theorem mapTrig_counters (f : Trig → Trig) : (s.mapTrig f).counters = s.counters := rfl
@[simp] theorem mapCharge_pending (f : Charge → Charge) : (s.mapCharge f).pending = s.pending := rfl
@[simp] theorem mapCharge_powered (f : Charge → Charge) : (s.mapCharge f).powered = s.powered := rfl
@[simp] theorem mapCharge_partTime (f : Charge → Charge) : (s.mapCharge f).partTime = s.partTime := rfl
@[simp] theorem mapCharge_captureOut (f : Charge → Charge) : (s.mapCharge f).captureOut = s.captureOut := rfl
@[simp] theorem mapCharge_motion (f : Charge → Charge) : (s.mapCharge f).motion = s.motion := rfl
@[simp] theorem mapCharge_filter (f : Charge → Charge) : (s.mapCharge f).filter = s.filter := rfl
@[simp] theorem mapCharge_frame (f : Charge → Charge) : (s.mapCharge f).frame = s.frame := rfl
@[simp] theorem mapCharge_intake (f : Charge → Charge) : (s.mapCharge f).intake = s.intake := rfl
@[simp] theorem mapCharge_store (f : Charge → Charge) : (s.mapCharge f).store = s.store := rfl
@[simp] theorem mapCharge_card (f : Charge → Charge) : (s.mapCharge f).card = s.card := rfl
@[simp] theorem mapCharge_trig (f : Charge → Charge) : (s.mapCharge f).trig = s.trig := rfl
@[simp] theorem mapCharge_charge (f : Charge → Charge) : (s.mapCharge f).charge = f s.charge := rfl
@[simp] theorem mapCharge_thermal (f : Charge → Charge) : (s.mapCharge f).thermal = s.thermal := rfl
@[simp] theorem mapCharge_link (f : Charge → Charge) : (s.mapCharge f).link = s.link := rfl
@[simp] theorem mapCharge_counters (f : Charge → Charge) : (s.mapCharge f).counters = s.counters := rfl
@[simp] theorem mapThermal_pending (f : Thermal → Thermal) : (s.mapThermal f).pending = s.pending := rfl
@[simp] theorem mapThermal_powered (f : Thermal → Thermal) : (s.mapThermal f).powered = s.powered := rfl
@[simp] theorem mapThermal_partTime (f : Thermal → Thermal) : (s.mapThermal f).partTime = s.partTime := rfl
@[simp] theorem mapThermal_captureOut (f : Thermal → Thermal) : (s.mapThermal f).captureOut = s.captureOut := rfl
@[simp] theorem mapThermal_motion (f : Thermal → Thermal) : (s.mapThermal f).motion = s.motion := rfl
@[simp] theorem mapThermal_filter (f : Thermal → Thermal) : (s.mapThermal f).filter = s.filter := rfl
@[simp] theorem mapThermal_frame (f : Thermal → Thermal) : (s.mapThermal f).frame = s.frame := rfl
@[simp] theorem mapThermal_intake (f : Thermal → Thermal) : (s.mapThermal f).intake = s.intake := rfl
@[simp] theorem mapThermal_store (f : Thermal → Thermal) : (s.mapThermal f).store = s.store := rfl
@[simp] theorem mapThermal_card (f : Thermal → Thermal) : (s.mapThermal f).card = s.card := rfl
@[simp] theorem mapThermal_trig (f : Thermal → Thermal) : (s.mapThermal f).trig = s.trig := rfl
@[simp] theorem mapThermal_charge (f : Thermal → Thermal) : (s.mapThermal f).charge = s.charge := rfl
@[simp] theorem mapThermal_thermal (f : Thermal → Thermal) : (s.mapThermal f).thermal = f s.thermal := rfl
@[simp] theorem mapThermal_link (f : Thermal → Thermal) : (s.mapThermal f).link = s.link := rfl
@[simp] theorem mapThermal_counters (f : Thermal → Thermal) : (s.mapThermal f).counters = s.counters := rfl
@[simp] theorem mapLink_pending (f : Link → Link) : (s.mapLink f).pending = s.pending := rfl
@[simp] theorem mapLink_powered (f : Link → Link) : (s.mapLink f).powered = s.powered := rfl
@[simp] theorem mapLink_partTime (f : Link → Link) : (s.mapLink f).partTime = s.partTime := rfl
@[simp] theorem mapLink_captureOut (f : Link → Link) : (s.mapLink f).captureOut = s.captureOut := rfl
@[simp] theorem mapLink_motion (f : Link → Link) : (s.mapLink f).motion = s.motion := rfl
@[simp] theorem mapLink_filter (f : Link → Link) : (s.mapLink f).filter = s.filter := rfl
@[simp] theorem mapLink_frame (f : Link → Link) : (s.mapLink f).frame = s.frame := rfl
@[simp] theorem mapLink_intake (f : Link → Link) : (s.mapLink f).intake = s.intake := rfl
@[simp] theorem mapLink_store (f : Link → Link) : (s.mapLink f).store = s.store := rfl
@[simp] theorem mapLink_card (f : Link → Link) : (s.mapLink f).card = s.card := rfl
@[simp] theorem mapLink_trig (f : Link → Link) : (s.mapLink f).trig = s.trig := rfl
@[simp] theorem mapLink_charge (f : Link → Link) : (s.mapLink f).charge = s.charge := rfl
@[simp] theorem mapLink_thermal (f : Link → Link) : (s.mapLink f).thermal = s.thermal := rfl
@[simp] theorem mapLink_link (f : Link → Link) : (s.mapLink f).link = f s.link := rfl
@[simp] theorem mapLink_counters (f : Link → Link) : (s.mapLink f).counters = s.counters := rfl
@[simp] theorem mapCounters_pending (f : Counters → Counters) : (s.mapCounters f).pending = s.pending := rfl
@[simp] theorem mapCounters_powered (f : Counters → Counters) : (s.mapCounters f).powered = s.powered := rfl
@[simp] theorem mapCounters_partTime (f : Counters → Counters) : (s.mapCounters f).partTime = s.partTime := rfl
@[simp] theorem mapCounters_captureOut (f : Counters → Counters) : (s.mapCounters f).captureOut = s.captureOut := rfl
@[simp] theorem mapCounters_motion (f : Counters → Counters) : (s.mapCounters f).motion = s.motion := rfl
@[simp] theorem mapCounters_filter (f : Counters → Counters) : (s.mapCounters f).filter = s.filter := rfl
@[simp] theorem mapCounters_frame (f : Counters → Counters) : (s.mapCounters f).frame = s.frame := rfl
@[simp] theorem mapCounters_intake (f : Counters → Counters) : (s.mapCounters f).intake = s.intake := rfl
@[simp] theorem mapCounters_store (f : Counters → Counters) : (s.mapCounters f).store = s.store := rfl
@[simp] theorem mapCounters_card (f : Counters → Counters) : (s.mapCounters f).card = s.card := rfl
@[simp] theorem mapCounters_trig (f : Counters → Counters) : (s.mapCounters f).trig = s.trig := rfl
@[simp] theorem mapCounters_charge (f : Counters → Counters) : (s.mapCounters f).charge = s.charge := rfl
@[simp] theorem mapCounters_thermal (f : Counters → Counters) : (s.mapCounters f).thermal = s.thermal := rfl
@[simp] theorem mapCounters_link (f : Counters → Counters) : (s.mapCounters f).link = s.link := rfl
@[simp] theorem mapCounters_counters (f : Counters → Counters) : (s.mapCounters f).counters = f s.counters := rfl

end Sys2Proof.Machine.State
end

