-- ==== Sys2Proof/Laws/Settle.lean ====
section
/-! SUPPORT. What the store's, the card's and the Trigger Unit's operations leave alone, said once for each of them through
`State.outside`, and when settling changes nothing. -/

namespace Sys2Proof.Machine

/-! ### The part of the state that settling never changes -/

/-- `s` with everything erased that the store, the card, the Trigger Unit and their reports and answers may change, what leaves
on the capture link among it. -/
def State.outside (s : State) : State :=
  { s with
    captureOut := []
    frame := { s.frame with trailer := none }
    intake := { coldIntake with receive := s.intake.receive }
    store := { coldStore with tab := s.store.tab, areaStart := s.store.areaStart, count := s.store.count,
                              generation := s.store.generation, quota := s.store.quota }
    card := coldCard false
    trig := { coldTrig with entries := s.trig.entries }
    counters := zeroCounters
    link := { s.link with answers := [], held := none, reports := [], lost := 0 } }

theorem outside_foldl {α : Type} (f : State → α → State) (h : ∀ s a, (f s a).outside = s.outside) (l : List α) (s : State) :
    (l.foldl f s).outside = s.outside := by
  induction l generalizing s with
  | nil => rfl
  | cons a l ih => simp [ih, h]

@[simp] theorem outside_emit (i : CaptureItem) (s : State) : (s.emit i).outside = s.outside := rfl
@[simp] theorem outside_enqueueReport (p : Payload) (s : State) : (enqueueReport p s).outside = s.outside := by
  unfold enqueueReport; split <;> rfl
@[simp] theorem outside_notify (c : Change) (s : State) : (notify c s).outside = s.outside := rfl
@[simp] theorem outside_judgeHold (s : State) : (judgeHold s).outside = s.outside := by
  unfold judgeHold; dsimp only; split <;> rfl
@[simp] theorem outside_fillSlot (s : State) : (fillSlot s).outside = s.outside := by
  unfold fillSlot; split
  · rfl
  · split
    · rfl
    · split
      · unfold answerRemoved; split <;> (rw [outside_judgeHold]; rfl)
      · split
        · unfold reportRemoved; dsimp only; split
          · rw [outside_enqueueReport]; rfl
          · rfl
        · rfl
@[simp] theorem outside_fillSlots (n : Nat) (s : State) : (fillSlots n s).outside = s.outside := by
  induction n generalizing s with
  | zero => rfl
  | succ n ih => unfold fillSlots; rw [ih, outside_fillSlot]
@[simp] theorem outside_drainRoom (s : State) : (drainRoom s).outside = s.outside := outside_fillSlots _ s
@[simp] theorem outside_leaveAll (s : State) : (leaveAll s).outside = s.outside := by unfold leaveAll; split <;> simp
@[simp] theorem outside_report (p : Payload) (s : State) : (report p s).outside = s.outside := by
  unfold report; split <;> simp
@[simp] theorem outside_enqueueAnswer (a : Answer) (s : State) : (enqueueAnswer a s).outside = s.outside := by
  unfold enqueueAnswer; split
  · simp
  · rw [outside_judgeHold]; rfl
@[simp] theorem outside_answer (d : Nat) (t : Byte) (c : AnswerCode) (b : Bytes) (s : State) :
    (answer d t c b s).outside = s.outside := by unfold answer; simp
@[simp] theorem outside_updateClip (n : Nat) (f : Clip → Clip) (s : State) : (updateClip n f s).outside = s.outside := rfl
@[simp] theorem outside_updateOwned (i : Nat) (f : Owned → Owned) (s : State) : (updateOwned i f s).outside = s.outside := rfl
@[simp] theorem outside_judgeStore (s : State) : (judgeStore s).outside = s.outside := by
  unfold judgeStore; dsimp only
  split <;> split <;> first
    | rfl
    | (rw [outside_notify, outside_report]; rfl)
    | (rw [outside_report]; rfl)
@[simp] theorem outside_releaseExtent (s : State) (i : Nat) : (releaseExtent s i).outside = s.outside := by
  unfold releaseExtent; split
  · split <;> rfl
  · rfl
@[simp] theorem outside_withdrawUpdates (n : Nat) (s : State) : (withdrawUpdates n s).outside = s.outside := rfl
@[simp] theorem outside_dropClip (c : Clip) (s : State) : (dropClip c s).outside = s.outside := by
  unfold dropClip
  rw [outside_judgeStore, outside_withdrawUpdates]
  exact outside_foldl releaseExtent outside_releaseExtent _ s
@[simp] theorem outside_reclaim (c : Clip) (s : State) : (reclaim c s).outside = s.outside := outside_dropClip c s
@[simp] theorem outside_reclaimUntil (w n : Nat) (s : State) : (reclaimUntil w n s).outside = s.outside := by
  induction n generalizing s with
  | zero => rfl
  | succ n ih =>
    unfold reclaimUntil; split
    · split
      · rw [ih, outside_reclaim]
      · rfl
    · rfl
@[simp] theorem outside_discardBlocks (n : Nat) (s : State) : (discardBlocks n s).outside = s.outside := rfl
@[simp] theorem outside_discardPacking (s : State) : (discardPacking s).outside = s.outside := rfl
@[simp] theorem outside_reportClosed (c : Clip) (b : Bool) (s : State) : (reportClosed c b s).outside = s.outside :=
  outside_report _ s
@[simp] theorem outside_countFlush (f : Flush → Flush) (s : State) : (countFlush f s).outside = s.outside := rfl
@[simp] theorem outside_removeClip (n : Nat) (s : State) : (removeClip n s).outside = s.outside := by
  unfold removeClip; split <;> simp
@[simp] theorem outside_closeClip (n : Nat) (s : State) : (closeClip n s).outside = s.outside := by
  unfold closeClip; dsimp only; split <;> simp
@[simp] theorem outside_reapEmpty (s : State) : (reapEmpty s).outside = s.outside :=
  outside_foldl _ (fun s n => outside_removeClip n s) _ s
@[simp] theorem outside_restWriter (s : State) : (restWriter s).outside = s.outside := by
  unfold restWriter; split
  · rfl
  · split
    · rfl
    · dsimp only; rw [outside_judgeHold]; split
      · rw [outside_report]; rfl
      · rfl
    · rfl
@[simp] theorem outside_completePacking (c : Nat) (s : State) : (completePacking c s).outside = s.outside := by
  unfold completePacking; split <;> rfl
@[simp] theorem outside_updateIntake (f : IntakeRec → IntakeRec) (s : State) : (updateIntake f s).outside = s.outside := rfl
@[simp] theorem outside_endIntake (s : State) : (endIntake s).outside = s.outside := rfl
@[simp] theorem outside_closeOpen (r : CloseReason) (s : State) : (closeOpen r s).outside = s.outside := by
  unfold closeOpen; split <;> simp
@[simp] theorem outside_setWriter (w : WriterState) (s : State) : (setWriter w s).outside = s.outside := rfl
@[simp] theorem outside_afterClose (s : State) : (afterClose s).outside = s.outside := by simp [afterClose]
@[simp] theorem outside_stopRecording (r : CloseReason) (s : State) : (stopRecording r s).outside = s.outside := by
  unfold stopRecording; split <;> simp
@[simp] theorem outside_enterEmergency (r : CloseReason) (s : State) : (enterEmergency r s).outside = s.outside := by
  unfold enterEmergency; split
  · dsimp only
    rw [outside_afterClose, outside_judgeHold]
    exact (outside_closeOpen r _).trans rfl
  · rfl
@[simp] theorem outside_openingTest (s : State) : (openingTest s).2.outside = s.outside := by
  unfold openingTest; dsimp only; split
  · split <;> simp
  · rfl
@[simp] theorem outside_openRecord (t : Nat) (st : ClipState) (k : Bool) (r : Option CloseReason) (s : State) :
    (openRecord t st k r s).outside = s.outside := by
  unfold openRecord; dsimp only; rw [outside_report]; rfl
@[simp] theorem outside_freshIntake (n : Nat) (s : State) : (freshIntake n s).outside = s.outside := rfl
@[simp] theorem outside_startStall (s : State) : (startStall s).outside = s.outside := rfl
@[simp] theorem outside_startRecording (t : Nat) (s : State) : (startRecording t s).2.outside = s.outside := by
  unfold startRecording; split
  · rfl
  · split
    · rfl
    · split
      · rfl
      · dsimp only; split <;> simp
@[simp] theorem outside_addMarker (k : Nat) (s : State) : (addMarker k s).2.2.outside = s.outside := by
  unfold addMarker; split
  · rfl
  · split <;> simp
@[simp] theorem outside_enqueueUpdate (n : Nat) (s : State) : (enqueueUpdate n s).outside = s.outside := by
  unfold enqueueUpdate; split <;> rfl
@[simp] theorem outside_setLock (c : Clip) (v : Bool) (s : State) : (setLock c v s).outside = s.outside := by
  unfold setLock; dsimp only; rw [outside_judgeStore]; split <;> simp
@[simp] theorem outside_lockRecord (c : Clip) (s : State) : (lockRecord c s).2.outside = s.outside := by
  unfold lockRecord; split
  · rfl
  · split
    · simp
    · split <;> simp
@[simp] theorem outside_closeBehind (s : State) : (closeBehind s).outside = s.outside := by
  unfold closeBehind; split <;> simp
@[simp] theorem outside_stopWriter (s : State) : (stopWriter s).outside = s.outside := by
  unfold stopWriter; split <;> simp
@[simp] theorem outside_fullClose (c : Clip) (s : State) : (fullClose c s).outside = s.outside := by
  unfold fullClose; dsimp only; rw [outside_afterClose, outside_stopWriter]; split <;> simp
@[simp] theorem outside_retag (a b : Nat) (s : State) : (retag a b s).outside = s.outside := rfl
@[simp] theorem outside_continueIntake (n : Nat) (s : State) : (continueIntake n s).outside = s.outside := rfl
@[simp] theorem outside_quotaClose (c : Clip) (s : State) : (quotaClose c s).outside = s.outside := by
  unfold quotaClose; dsimp only
  split <;> split <;> simp only [outside_afterClose, outside_stopWriter] <;> split <;> simp
@[simp] theorem outside_cancelBurst (n : Nat) (s : State) : (cancelBurst n s).outside = s.outside := rfl
@[simp] theorem outside_dropOrphan (s : State) : (dropOrphan s).outside = s.outside := rfl
@[simp] theorem outside_cutFlush (s : State) : (cutFlush s).outside = s.outside := by
  unfold cutFlush; dsimp only; split
  · rfl
  · rw [outside_dropOrphan, outside_afterClose]; rfl
@[simp] theorem outside_chainExtent (c : Clip) (e : Nat) (s : State) : (chainExtent c e s).outside = s.outside := by
  unfold chainExtent; dsimp only; rw [outside_updateClip]; split <;> rfl
@[simp] theorem outside_allocate (c : Clip) (s : State) : (allocate c s).outside = s.outside := by
  unfold allocate; split
  · split <;> simp
  · dsimp only; split
    · split <;> simp
    · simp
@[simp] theorem outside_clearRetry (s : State) : (clearRetry s).outside = s.outside := rfl
@[simp] theorem outside_startOp (o : OpSource) (c : Nat) (k : OpKind) (a n : Nat) (d : Bytes) (s : State) :
    (startOp o c k a n d s).outside = s.outside := rfl
@[simp] theorem outside_countRetry (b : Bool) (s : State) : (countRetry b s).outside = s.outside := by
  unfold countRetry; split <;> rfl
@[simp] theorem outside_startTrailer (w : WWrite) (c n e d : Nat) (f : Bool) (s : State) :
    (startTrailer w c n e d f s).outside = s.outside := by unfold startTrailer; split <;> simp
@[simp] theorem outside_startWriter (c : Nat) (w : WWrite) (s : State) : (startWriter c w s).outside = s.outside := by
  unfold startWriter; dsimp only; split <;> simp
@[simp] theorem outside_popUpdate (s : State) : (popUpdate s).outside = s.outside := rfl
@[simp] theorem outside_startUpdate (s : State) : (startUpdate s).outside = s.outside := by
  unfold startUpdate; split
  · rfl
  · split
    · simp
    · split
      · simp
      · rw [outside_startOp, outside_countRetry]; rfl
@[simp] theorem outside_startScan (s : State) : (startScan s).outside = s.outside := by
  unfold startScan; split <;> simp
@[simp] theorem outside_passAnswer (c : AnswerCode) (d : Bytes) (s : State) : (passAnswer c d s).outside = s.outside := by
  unfold passAnswer; split
  · rfl
  · dsimp only; split
    · rfl
    · rw [outside_enqueueAnswer]; rfl
@[simp] theorem outside_startPass (s : State) : (startPass s).outside = s.outside := by
  unfold startPass; split
  · rfl
  · split
    · simp
    · rfl
@[simp] theorem outside_startClaim (s : State) : (startClaim s).outside = s.outside := by
  unfold startClaim
  split <;> first
    | rfl
    | simp
    | (split <;> simp)

/-- The store's and the card's due work leaves the rest of the part alone. -/
theorem outside_pumpStep {s t : State} (h : pumpStep s = some t) : t.outside = s.outside := by
  unfold pumpStep at h
  split at h
  · cases h; simp
  · split at h
    · cases h; simp
    · split at h
      · cases h; simp
      · split at h
        · cases h; simp
        · cases h

/-! ### The Trigger Unit -/

@[simp] theorem outside_actMark (i : Nat) (s : State) : (actMark i s).2.outside = s.outside := by
  unfold actMark; split <;> simp
@[simp] theorem outside_actSplit (s : State) : (actSplit s).2.outside = s.outside := by
  unfold actSplit; split
  · rfl
  · split
    · rfl
    · split <;> simp
@[simp] theorem outside_lockPart (c : Clip) (s : State) : (lockPart c s).2.outside = s.outside := by
  unfold lockPart; split <;> simp
@[simp] theorem outside_actLock (s : State) : (actLock s).2.2.outside = s.outside := by
  unfold actLock
  cases s.store.openClip with
  | none => rfl
  | some c =>
    dsimp only
    rw [apply_ite (fun p : Outcome × Outcome × State => p.2.2.outside)]
    have h := outside_lockPart c s
    split
    · cases (lockPart c s).2.store.newestBut c.number with
      | none => exact h
      | some d => exact (outside_lockPart d _).trans h
    · exact h
@[simp] theorem outside_actStop (s : State) : (actStop s).2.outside = s.outside := by
  unfold actStop; split <;> simp
@[simp] theorem outside_actStart (s : State) : (actStart s).2.outside = s.outside := by
  unfold actStart; split <;> simp
@[simp] theorem outside_fire (i : Nat) (e : TrigEntry) (s : State) : (fire i e s).outside = s.outside := by
  unfold fire reportFiring; split <;> simp
@[simp] theorem outside_takeChange (c : Change) (s : State) : (takeChange c s).outside = s.outside := by
  unfold takeChange; dsimp only
  exact outside_foldl _ (fun s (f : Nat × TrigEntry) => outside_fire f.1 f.2 s) _ _

@[simp] theorem outside_takeWaiting (n : Nat) (s : State) : (takeWaiting n s).outside = s.outside := by
  induction n generalizing s with
  | zero => rfl
  | succ n ih =>
    unfold takeWaiting; split
    · rw [ih, outside_takeChange]; rfl
    · rfl
@[simp] theorem outside_hand (cs : List Change) (s : State) : (hand cs s).outside = s.outside := by
  unfold hand; rw [outside_takeWaiting]; rfl

@[simp] theorem outside_takeEach (cs : List Change) (s : State) : (takeEach cs s).outside = s.outside :=
  outside_foldl _ (fun s c => outside_takeChange c s) _ _

theorem outside_settleStep {s t : State} (h : settleStep s = some t) : t.outside = s.outside := by
  unfold settleStep at h
  split at h
  · cases h; rw [outside_takeChange]; rfl
  · exact outside_pumpStep h

@[simp] theorem outside_quiesce (n : Nat) (s : State) : (quiesce n s).outside = s.outside := by
  induction n generalizing s with
  | zero => rfl
  | succ n ih =>
    unfold quiesce; split
    · next t h => rw [ih, outside_settleStep h]
    · rfl

/-- Settling leaves the rest of the part alone. -/
@[simp] theorem outside_settle (s : State) : (settle s).outside = s.outside := outside_quiesce _ s

/-! ### What that says field by field -/

/-- What `State.outside` keeps, settling keeps. -/
theorem settle_keeps {α : Type} (f : State → α) (h : ∀ s : State, f s.outside = f s) (s : State) : f (settle s) = f s := by
  rw [← h (settle s), outside_settle, h]

section
variable (s : State)
@[simp] theorem settle_pending : (settle s).pending = s.pending := settle_keeps State.pending (fun _ => rfl) s
@[simp] theorem settle_powered : (settle s).powered = s.powered := settle_keeps State.powered (fun _ => rfl) s
@[simp] theorem settle_partTime : (settle s).partTime = s.partTime := settle_keeps State.partTime (fun _ => rfl) s
@[simp] theorem settle_motion : (settle s).motion = s.motion := settle_keeps State.motion (fun _ => rfl) s
@[simp] theorem settle_filter : (settle s).filter = s.filter := settle_keeps State.filter (fun _ => rfl) s
theorem settle_frame : { (settle s).frame with trailer := none } = { s.frame with trailer := none } :=
  settle_keeps (fun t : State => { t.frame with trailer := none }) (fun _ => rfl) s
@[simp] theorem settle_frameState : (settle s).frame.state = s.frame.state :=
  settle_keeps (fun t : State => t.frame.state) (fun _ => rfl) s
@[simp] theorem settle_frameRecord : (settle s).frame.record = s.frame.record :=
  settle_keeps (fun t : State => t.frame.record) (fun _ => rfl) s
@[simp] theorem settle_charge : (settle s).charge = s.charge := settle_keeps State.charge (fun _ => rfl) s
@[simp] theorem settle_thermal : (settle s).thermal = s.thermal := settle_keeps State.thermal (fun _ => rfl) s
@[simp] theorem settle_entries : (settle s).trig.entries = s.trig.entries :=
  settle_keeps (fun t : State => t.trig.entries) (fun _ => rfl) s
@[simp] theorem settle_receive : (settle s).intake.receive = s.intake.receive :=
  settle_keeps (fun t : State => t.intake.receive) (fun _ => rfl) s
@[simp] theorem settle_tab : (settle s).store.tab = s.store.tab :=
  settle_keeps (fun t : State => t.store.tab) (fun _ => rfl) s
@[simp] theorem settle_awake : (settle s).link.awake = s.link.awake :=
  settle_keeps (fun t : State => t.link.awake) (fun _ => rfl) s
@[simp] theorem settle_loaded : (settle s).link.loaded = s.link.loaded :=
  settle_keeps (fun t : State => t.link.loaded) (fun _ => rfl) s
@[simp] theorem settle_active : (settle s).link.active = s.link.active :=
  settle_keeps (fun t : State => t.link.active) (fun _ => rfl) s
end

/-! ### Rest -/

/-- The store and the card have nothing to do exactly when each of the four sources of work is idle. -/
theorem pumpStep_eq_none_iff (s : State) :
    pumpStep s = none ↔ closeWork s = false ∧ flushSpent s = false ∧ allocationDue s = none ∧
      ¬(s.card.state = .idle ∧ claimClasses s ≠ []) := by
  unfold pumpStep
  split
  · simp_all
  · split
    · simp_all
    · split
      · simp_all
      · split <;> simp_all

/-- Settling stops where nothing is left to do. -/
theorem settle_of_rest {s : State} (h : settleStep s = none) : settle s = s := by
  unfold settle Config.settleBound quiesce; rw [h]

/-- Settling from a state whose first step leads to rest. -/
theorem settle_of_step {s t : State} (h : settleStep s = some t) (ht : settleStep t = none) : settle s = t := by
  unfold settle Config.settleBound quiesce; rw [h]
  show quiesce 4095 t = t
  unfold quiesce; rw [ht]

end Sys2Proof.Machine
end

