-- ==== Sys2Proof/Laws/Ops.lean ====
section
/-! SUPPORT. One lemma for each shared operation: what a report, an answer, the judgement of HOLD and the reception of a
directive do, and what rest depends on. -/

namespace Sys2Proof.Machine

/-! ### Part time -/

section
variable (dt : Nat) (s : State)
@[simp] theorem tick_pending : (s.tick dt).pending = s.pending := rfl
@[simp] theorem tick_powered : (s.tick dt).powered = s.powered := rfl
@[simp] theorem tick_partTime : (s.tick dt).partTime = s.partTime + dt := rfl
@[simp] theorem tick_captureOut : (s.tick dt).captureOut = [] := rfl
@[simp] theorem tick_motion : (s.tick dt).motion = s.motion := rfl
@[simp] theorem tick_filter : (s.tick dt).filter = s.filter := rfl
@[simp] theorem tick_frame : (s.tick dt).frame = s.frame := rfl
@[simp] theorem tick_intake : (s.tick dt).intake = s.intake := rfl
@[simp] theorem tick_store : (s.tick dt).store = s.store := rfl
@[simp] theorem tick_card : (s.tick dt).card = s.card := rfl
@[simp] theorem tick_trig : (s.tick dt).trig = s.trig := rfl
@[simp] theorem tick_charge : (s.tick dt).charge = s.charge := rfl
@[simp] theorem tick_thermal : (s.tick dt).thermal = s.thermal := rfl
@[simp] theorem tick_link : (s.tick dt).link = s.link := rfl
@[simp] theorem tick_counters : (s.tick dt).counters = s.counters := rfl
end

/-- A powered part takes the command; a stopped one does not change. -/
theorem live_powered {dt : Nat} {f : State → State} {s : State} (h : s.powered = true) :
    live dt f s = .next (f (s.tick dt)) := by unfold live; rw [if_pos h]

theorem live_stopped {dt : Nat} {f : State → State} {s : State} (h : s.powered = false) : live dt f s = .next s := by
  unfold live; rw [if_neg (by simp [h])]

/-! ### Side packets (R60, R176 to R178) -/

/-- `s` with everything erased that side packets which leave or join their queues may change. -/
def State.unsent (s : State) : State :=
  { s with
    captureOut := []
    frame := { s.frame with trailer := none }
    intake := { s.intake with hold := false, bufCause := false, ansCause := false }
    card := { s.card with slot := none }
    trig := { s.trig with waiting := [] }
    link := { s.link with drain := false, answers := [], held := none, reports := [], lost := 0 } }

@[simp] theorem unsent_emit (i : CaptureItem) (s : State) : (s.emit i).unsent = s.unsent := rfl
@[simp] theorem unsent_enqueueReport (p : Payload) (s : State) : (enqueueReport p s).unsent = s.unsent := by
  unfold enqueueReport; split <;> rfl
@[simp] theorem unsent_judgeHold (s : State) : (judgeHold s).unsent = s.unsent := by
  unfold judgeHold; dsimp only; split <;> rfl
@[simp] theorem unsent_fillSlot (s : State) : (fillSlot s).unsent = s.unsent := by
  unfold fillSlot; split
  · rfl
  · split
    · rfl
    · split
      · unfold answerRemoved; split <;> (rw [unsent_judgeHold]; rfl)
      · split
        · unfold reportRemoved; dsimp only; split
          · rw [unsent_enqueueReport]; rfl
          · rfl
        · rfl
@[simp] theorem unsent_fillSlots (n : Nat) (s : State) : (fillSlots n s).unsent = s.unsent := by
  induction n generalizing s with
  | zero => rfl
  | succ n ih => unfold fillSlots; rw [ih, unsent_fillSlot]
@[simp] theorem unsent_drainRoom (s : State) : (drainRoom s).unsent = s.unsent := unsent_fillSlots _ s
@[simp] theorem unsent_leaveAll (s : State) : (leaveAll s).unsent = s.unsent := by unfold leaveAll; split <;> simp
@[simp] theorem unsent_depart (s : State) : (depart s).unsent = s.unsent := by
  unfold depart; split
  · unfold endDrain; split
    · exact unsent_drainRoom s
    · exact unsent_drainRoom s
  · rfl
/-- Issuing a report changes nothing but what side packets change. -/
@[simp] theorem unsent_report (p : Payload) (s : State) : (report p s).unsent = s.unsent := by
  unfold report; split <;> simp
/-- Answering changes nothing but what side packets change. -/
@[simp] theorem unsent_enqueueAnswer (a : Answer) (s : State) : (enqueueAnswer a s).unsent = s.unsent := by
  unfold enqueueAnswer; split
  · simp
  · rw [unsent_judgeHold]; rfl

/-- What `State.unsent` keeps, a report keeps. -/
theorem report_keeps {α : Type} (f : State → α) (h : ∀ s : State, f s.unsent = f s) (p : Payload) (s : State) :
    f (report p s) = f s := by rw [← h (report p s), unsent_report, h]

section
variable (p : Payload) (s : State)
@[simp] theorem report_pending : (report p s).pending = s.pending := report_keeps State.pending (fun _ => rfl) p s
@[simp] theorem report_powered : (report p s).powered = s.powered := report_keeps State.powered (fun _ => rfl) p s
@[simp] theorem report_partTime : (report p s).partTime = s.partTime := report_keeps State.partTime (fun _ => rfl) p s
@[simp] theorem report_motion : (report p s).motion = s.motion := report_keeps State.motion (fun _ => rfl) p s
@[simp] theorem report_filter : (report p s).filter = s.filter := report_keeps State.filter (fun _ => rfl) p s
@[simp] theorem report_store : (report p s).store = s.store := report_keeps State.store (fun _ => rfl) p s
@[simp] theorem report_charge : (report p s).charge = s.charge := report_keeps State.charge (fun _ => rfl) p s
@[simp] theorem report_thermal : (report p s).thermal = s.thermal := report_keeps State.thermal (fun _ => rfl) p s
@[simp] theorem report_counters : (report p s).counters = s.counters := report_keeps State.counters (fun _ => rfl) p s
@[simp] theorem report_frameState : (report p s).frame.state = s.frame.state :=
  report_keeps (fun t : State => t.frame.state) (fun _ => rfl) p s
@[simp] theorem report_frameRecord : (report p s).frame.record = s.frame.record :=
  report_keeps (fun t : State => t.frame.record) (fun _ => rfl) p s
@[simp] theorem report_buffer : (report p s).intake.buffer = s.intake.buffer :=
  report_keeps (fun t : State => t.intake.buffer) (fun _ => rfl) p s
@[simp] theorem report_packing : (report p s).intake.packing = s.intake.packing :=
  report_keeps (fun t : State => t.intake.packing) (fun _ => rfl) p s
@[simp] theorem report_record : (report p s).intake.record = s.intake.record :=
  report_keeps (fun t : State => t.intake.record) (fun _ => rfl) p s
@[simp] theorem report_cardState : (report p s).card.state = s.card.state :=
  report_keeps (fun t : State => t.card.state) (fun _ => rfl) p s
@[simp] theorem report_cardOp : (report p s).card.op = s.card.op :=
  report_keeps (fun t : State => t.card.op) (fun _ => rfl) p s
@[simp] theorem report_updates : (report p s).card.updates = s.card.updates :=
  report_keeps (fun t : State => t.card.updates) (fun _ => rfl) p s
@[simp] theorem report_conds : (report p s).trig.conds = s.trig.conds :=
  report_keeps (fun t : State => t.trig.conds) (fun _ => rfl) p s
@[simp] theorem report_entries : (report p s).trig.entries = s.trig.entries :=
  report_keeps (fun t : State => t.trig.entries) (fun _ => rfl) p s
@[simp] theorem report_awake : (report p s).link.awake = s.link.awake :=
  report_keeps (fun t : State => t.link.awake) (fun _ => rfl) p s
end

/-- Outside the open room a report joins the tail of a queue with room. -/
theorem report_room {p : Payload} {s : State} (ho : atOnce s = false)
    (h : s.link.reports.length < Config.reportLimit) :
    report p s = s.mapLink fun l => { l with reports := l.reports ++ [⟨s.partTime, p⟩] } := by
  unfold report enqueueReport; rw [if_neg (by simp [ho]), if_pos h]

/-- Outside the open room a report against a full queue is lost, and counted. -/
theorem report_full {p : Payload} {s : State} (ho : atOnce s = false)
    (h : Config.reportLimit ≤ s.link.reports.length) :
    report p s = s.mapLink fun l => { l with lost := satAdd l.lost 1 } := by
  unfold report enqueueReport; rw [if_neg (by simp [ho]), if_neg (by omega)]

/-! ### HOLD and answers (R73, R74, R176) -/

/-- HOLD follows its causes once they have been judged. -/
theorem judgeHold_intake (s : State) :
    (judgeHold s).intake =
      { s.intake with bufCause := bufCauseNow s, ansCause := ansCauseNow s, hold := bufCauseNow s || ansCauseNow s } := by
  unfold judgeHold; dsimp only; split <;> rfl

section
variable (s : State)
@[simp] theorem judgeHold_pending : (judgeHold s).pending = s.pending := by unfold judgeHold; dsimp only; split <;> rfl
@[simp] theorem judgeHold_powered : (judgeHold s).powered = s.powered := by unfold judgeHold; dsimp only; split <;> rfl
@[simp] theorem judgeHold_partTime : (judgeHold s).partTime = s.partTime := by unfold judgeHold; dsimp only; split <;> rfl
@[simp] theorem judgeHold_motion : (judgeHold s).motion = s.motion := by unfold judgeHold; dsimp only; split <;> rfl
@[simp] theorem judgeHold_filter : (judgeHold s).filter = s.filter := by unfold judgeHold; dsimp only; split <;> rfl
@[simp] theorem judgeHold_frame : (judgeHold s).frame = s.frame := by unfold judgeHold; dsimp only; split <;> rfl
@[simp] theorem judgeHold_store : (judgeHold s).store = s.store := by unfold judgeHold; dsimp only; split <;> rfl
@[simp] theorem judgeHold_card : (judgeHold s).card = s.card := by unfold judgeHold; dsimp only; split <;> rfl
@[simp] theorem judgeHold_charge : (judgeHold s).charge = s.charge := by unfold judgeHold; dsimp only; split <;> rfl
@[simp] theorem judgeHold_thermal : (judgeHold s).thermal = s.thermal := by unfold judgeHold; dsimp only; split <;> rfl
@[simp] theorem judgeHold_link : (judgeHold s).link = s.link := by unfold judgeHold; dsimp only; split <;> rfl
@[simp] theorem judgeHold_counters : (judgeHold s).counters = s.counters := by unfold judgeHold; dsimp only; split <;> rfl
end

/-- HOLD is as judged exactly when both causes and the line have their judged values. -/
theorem judgeHold_eq_self_iff (s : State) :
    judgeHold s = s ↔ s.intake.bufCause = bufCauseNow s ∧ s.intake.ansCause = ansCauseNow s ∧
      s.intake.hold = (bufCauseNow s || ansCauseNow s) := by
  constructor
  · intro h
    have hi := congrArg State.intake h
    rw [judgeHold_intake] at hi
    exact ⟨by rw [← hi], by rw [← hi], by rw [← hi]⟩
  · rintro ⟨hb, ha, hh⟩
    unfold judgeHold; dsimp only
    rw [if_pos hh.symm, ← hh, ← hb, ← ha]
    rfl

/-- What the judgement of HOLD reads; states that agree on it are judged alike. -/
theorem judgeHold_rest_congr {s t : State} (hi : t.intake = s.intake) (hs : t.store = s.store)
    (ha : ansCauseNow t = ansCauseNow s) (h : judgeHold s = s) : judgeHold t = t := by
  have hb : bufCauseNow t = bufCauseNow s := by unfold bufCauseNow; rw [hi, hs]
  rw [judgeHold_eq_self_iff] at h ⊢
  rw [hb, ha, hi]; exact h

/-- Outside the open room, with room for one more answer below 16, an answer changes the queue and nothing else. -/
theorem enqueueAnswer_room {a : Answer} {s : State} (ho : atOnce s = false) (h : judgeHold s = s)
    (hr : s.link.answers.length + 1 < Config.answerLimit) :
    enqueueAnswer a s = s.mapLink fun l => { l with answers := l.answers ++ [a] } := by
  unfold enqueueAnswer; rw [if_neg (by simp [ho])]
  refine judgeHold_rest_congr (s := s) rfl rfl ?_ h
  have h1 : ansCauseNow s = false := by simp [ansCauseNow]; omega
  rw [h1]; simp [ansCauseNow]; omega

/-! ### Reception of a directive (R64, R175) -/

/-- A directive of the right length reaches its owner when the link is AWAKE and the Answer Queue is not full. -/
theorem directive_taken {code : Nat} {len : Option Nat} {tag : Byte} {params : Bytes} {f : State → State} {s : State}
    (ha : s.link.awake = true) (hr : s.intake.receive = []) (hq : s.link.answers.length < Config.answerLimit)
    (hp : params.length + Config.directiveHeaderBytes ≤ Config.bodyLimit) (hl : ∀ n, len = some n → params.length = n) :
    directive code len tag params f s = f s := by
  have hc : clearReceive s = s := by
    cases s with | mk _ _ _ _ _ _ _ intake => cases intake; simp_all [clearReceive, State.mapIntake]
  unfold directive
  rw [if_neg (by simp [ha]), hc]
  dsimp only
  rw [if_neg (by omega), if_neg (by simp [queueFull]; omega), if_neg ?_]
  cases len with
  | none => simp
  | some n => simp [hl n rfl]

/-! ### Departures (R60, R185) -/

/-- Slots with nothing waiting pass empty. -/
theorem fillSlots_nothing {s : State} (ht : s.frame.trailer = none) (ha : s.link.answers = []) (hr : s.link.reports = [])
    (n : Nat) : fillSlots n s = s := by
  have h1 : fillSlot s = s := by unfold fillSlot; split <;> simp [ht, ha, hr]
  induction n with
  | zero => rfl
  | succ n ih => unfold fillSlots; rw [h1, ih]

/-- What `departed` says of an open room. -/
theorem departed_open {s : State} (h : departed s = true) (ho : atOnce s = true) :
    s.frame.trailer = none ∧ s.link.answers = [] ∧ s.link.reports = [] ∧ s.link.held = none ∧ s.link.lost = 0 ∧
      s.link.drain = false := by
  simpa [departed, ho, and_assoc] using h

/-- An open room in which nothing waits stays as it is. -/
theorem drainRoom_of_departed {s : State} (h : departed s = true) (ho : atOnce s = true) : drainRoom s = s := by
  obtain ⟨h1, h2, h3, -⟩ := departed_open h ho
  exact fillSlots_nothing h1 h2 h3 _

/-- Nothing departs where nothing waits in the room. -/
theorem depart_of_departed {s : State} (h : departed s = true) : depart s = s := by
  unfold depart
  split
  · next ho =>
    rw [drainRoom_of_departed h ho]
    unfold endDrain
    rw [if_neg (by simp [(departed_open h ho).2.2.2.2.2])]
  · rfl

/-- Where nothing waits in the room, a report leaves at once in an open one, and joins a queue with room otherwise. -/
theorem report_of_departed {p : Payload} {s : State} (h : departed s = true)
    (hr : s.link.reports.length < Config.reportLimit) : report p s = reported p s := by
  unfold report reported
  split
  · next ho => rw [drainRoom_of_departed h ho]
  · unfold enqueueReport; rw [if_pos hr]

/-- Where nothing waits in the room, HOLD is as judged and the queue has room for two answers, an answer leaves at once in an
open room and joins the queue otherwise. -/
theorem enqueueAnswer_of_departed {a : Answer} {s : State} (h : departed s = true) (hj : judgeHold s = s)
    (hr : s.link.answers.length + 1 < Config.answerLimit) : enqueueAnswer a s = sent a s := by
  by_cases ho : atOnce s = true
  · unfold enqueueAnswer sent; rw [if_pos ho, if_pos ho, drainRoom_of_departed h ho]
  · rw [enqueueAnswer_room (by simpa using ho) hj hr]; unfold sent; rw [if_neg ho]

/-- Where nothing is left to do and nothing waits in the room, nothing follows a command. -/
theorem finish_of_rest {s : State} (h : settleStep s = none) (hd : departed s = true) : finish s = s := by
  unfold finish; rw [settle_of_rest h, depart_of_departed hd, settle_of_rest h, depart_of_departed hd]

/-! ### Rest -/

/-- The writer's due write by what its class depends on. -/
theorem writerClass_of_isBurst {s t : State} (hs : t.store = s.store) (hi : t.intake = s.intake)
    (h : (dueWrite t).map WWrite.isBurst = (dueWrite s).map WWrite.isBurst) : writerClass t = writerClass s := by
  have hh : headClip t = headClip s := by unfold headClip; rw [hi, hs]
  have hb : ∀ c, burstWanted c t = burstWanted c s := fun c => by unfold burstWanted flushLeft; rw [hi, hs]
  unfold writerClass
  cases ht : dueWrite t <;> cases hs' : dueWrite s <;> simp [ht, hs'] at h ⊢
  rw [h, hh, hs, hi]
  simp only [hb]

/-- The kind of the due write depends on the store, the intake and the card alone. -/
theorem dueWrite_isBurst_congr {s t : State} (hs : t.store = s.store) (hi : t.intake = s.intake) (hc : t.card = s.card) :
    (dueWrite t).map WWrite.isBurst = (dueWrite s).map WWrite.isBurst := by
  have hf : finalDue t = finalDue s := by unfold finalDue; rw [hs, hi]
  have hh : headClip t = headClip s := by unfold headClip; rw [hi, hs]
  have hw : writerFree t = writerFree s := by unfold writerFree; rw [hs, hc]
  have hl : flushLeft t = flushLeft s := by unfold flushLeft; rw [hs]
  have hp : ∀ c, (phaseWrite c t).map WWrite.isBurst = (phaseWrite c s).map WWrite.isBurst := by
    intro c
    unfold phaseWrite
    split
    · rfl
    · split <;> try rfl
      unfold formBurst
      rw [hs, hi, hl]
      split
      · rfl
      · simp only [apply_ite (Option.map WWrite.isBurst), Option.map_none, Option.map_some, WWrite.isBurst]
  have he : ∀ c, (endingWrite c t).map WWrite.isBurst = (endingWrite c s).map WWrite.isBurst := by
    intro c
    unfold endingWrite
    rw [hs]
    split
    · exact hp c
    · rfl
  unfold dueWrite
  rw [hw, hf, hh, hs]
  split
  · rfl
  · split
    · rfl
    · split
      · exact he _
      · split
        · exact hp _
        · cases s.store.openClip with
          | none => rfl
          | some c => exact hp c

/-- The claims pending depend on the store, the intake and the card alone. -/
theorem claimClasses_congr {s t : State} (hs : t.store = s.store) (hi : t.intake = s.intake) (hc : t.card = s.card) :
    claimClasses t = claimClasses s := by
  have hw := writerClass_of_isBurst hs hi (dueWrite_isBurst_congr hs hi hc)
  have hu : updateClaim t = updateClaim s := by unfold updateClaim; rw [hc]
  have hn : scanClaim t = scanClaim s := by unfold scanClaim; rw [hs, hc]
  have hp : passClaim t = passClaim s := by unfold passClaim; rw [hc]
  unfold claimClasses claimList
  rw [hw, hu, hn, hp]

/-- Whether the store and the card have work depends on the store, the intake and the card alone. -/
theorem pumpStep_rest_congr {s t : State} (hs : t.store = s.store) (hi : t.intake = s.intake) (hc : t.card = s.card) :
    pumpStep t = none ↔ pumpStep s = none := by
  have h1 : closeWork t = closeWork s := by unfold closeWork emptyClosing; rw [hs, hi]
  have h2 : flushSpent t = flushSpent s := by unfold flushSpent flushLeft; rw [hs, hi, hc]
  have h3 : allocationDue t = allocationDue s := by
    unfold allocationDue writerFree finalDue headClip burstWanted flushLeft; rw [hs, hi, hc]
  rw [pumpStep_eq_none_iff, pumpStep_eq_none_iff, h1, h2, h3, claimClasses_congr hs hi hc, hc]

/-- Nothing waits at the Trigger Unit and nothing is due at the store and the card. -/
theorem settleStep_eq_none_iff (s : State) : settleStep s = none ↔ s.trig.waiting = [] ∧ pumpStep s = none := by
  unfold settleStep
  split
  · next h => simp [h]
  · next h => simp [h]

/-- What the capture link's side packets wait in, and whether slots open for them. -/
def State.outbox (s : State) :
    Bool × Bool × Bool × Option Trailer × List Answer × Option Answer × List Report × Nat :=
  (s.link.awake, s.link.drain, roomOpen s, s.frame.trailer, s.link.answers, s.link.held, s.link.reports, s.link.lost)

/-- States with the same outbox open the same room, and have the same packets in it. -/
theorem outbox_congr {s t : State} (h : t.outbox = s.outbox) :
    atOnce t = atOnce s ∧ departed t = departed s ∧ t.link.answers = s.link.answers := by
  simp only [State.outbox, Prod.mk.injEq] at h
  obtain ⟨h1, h2, h3, h4, h5, h6, h7, h8⟩ := h
  have ha : atOnce t = atOnce s := by unfold atOnce linkOpen; rw [h1, h2, h3]
  refine ⟨ha, ?_, h5⟩
  unfold departed; rw [ha, h2, h4, h5, h6, h7, h8]

/-- A change of a state at rest that leaves the store, the intake, the card, the waiting changes and the outbox alone leaves
it at rest. -/
theorem AtRest.congr {s t : State} (h : AtRest s) (hs : t.store = s.store) (hi : t.intake = s.intake)
    (hc : t.card = s.card) (hw : t.trig.waiting = s.trig.waiting) (ho : t.outbox = s.outbox) : AtRest t := by
  have hk := outbox_congr ho
  have ha : ansCauseNow t = ansCauseNow s := by unfold ansCauseNow; rw [hk.2.2]
  refine ⟨?_, judgeHold_rest_congr hi hs ha h.2.1, by rw [hk.2.1]; exact h.2.2⟩
  rw [settleStep_eq_none_iff, hw, pumpStep_rest_congr hs hi hc, ← settleStep_eq_none_iff]
  exact h.1

/-- A state at rest stays at rest where its queues change outside the open room and the answer cause of HOLD stands. -/
theorem AtRest.queued {s : State} (h : AtRest s) (f : Link → Link) (ho : atOnce (s.mapLink f) = false)
    (ha : ansCauseNow (s.mapLink f) = ansCauseNow s) : AtRest (s.mapLink f) := by
  have hp := (settleStep_eq_none_iff s).1 h.1
  refine ⟨(settleStep_eq_none_iff _).2 ⟨hp.1, ?_⟩, judgeHold_rest_congr (s := s) rfl rfl ha h.2.1, ?_⟩
  · exact (pumpStep_rest_congr (s := s) (t := s.mapLink f) rfl rfl rfl).2 hp.2
  · unfold departed; rw [ho]; rfl

/-- A state at rest stays at rest where it sends an answer (R60, R176). -/
theorem AtRest.sent {a : Answer} {s : State} (h : AtRest s) (hr : s.link.answers.length + 1 < Config.answerLimit) :
    AtRest (sent a s) := by
  unfold Machine.sent
  split
  · exact h.congr rfl rfl rfl rfl rfl
  · next ho =>
    have ha : atOnce s = false := by simpa using ho
    refine h.queued _ ha ?_
    have h1 : ansCauseNow s = false := by simp [ansCauseNow]; omega
    rw [h1]; simp [ansCauseNow]; omega

/-- A state at rest stays at rest where it issues a report (R60, R177). -/
theorem AtRest.reported {p : Payload} {s : State} (h : AtRest s) : AtRest (reported p s) := by
  unfold Machine.reported
  split
  · exact h.congr rfl rfl rfl rfl rfl
  · next ho =>
    have ha : atOnce s = false := by simpa using ho
    exact h.queued _ ha rfl

/-- A command whose own effect leads to a state at rest answers that state. -/
theorem act_of_rest {dt : Nat} {f : State → State} {s t : State} (hp : s.powered = true) (hf : f (s.tick dt) = t)
    (h : settleStep t = none) (hd : departed t = true) : act dt f s = .next t := by
  unfold act; rw [live_powered hp, hf, finish_of_rest h hd]

/-- A directive whose owner leaves the store, the intake, the card, the Trigger Unit's queue and the outbox alone and answers
once: the part goes to the owner's state with the answer sent, and nothing else follows. -/
theorem Ready.directive_answers {dt code : Nat} {len : Option Nat} {tag : Byte} {p : Bytes} {f : State → State}
    {ac : AnswerCode} {data : Bytes} {s u : State} (h : Ready s)
    (hp : p.length + Config.directiveHeaderBytes ≤ Config.bodyLimit) (hl : ∀ n, len = some n → p.length = n)
    (hf : f (s.tick dt) = answer code tag ac data u) (hs : u.store = s.store) (hi : u.intake = s.intake)
    (hc : u.card = s.card) (hw : u.trig.waiting = s.trig.waiting) (ho : u.outbox = s.outbox) :
    act dt (directive code len tag p f) s = .next (sent ⟨tag, BitVec.ofNat 8 code, ac, data⟩ u) := by
  obtain ⟨⟨hpow, haw, hrec, hroom⟩, hrest⟩ := h
  have hk := outbox_congr ho
  have hu : AtRest u := hrest.congr hs hi hc hw ho
  have h0 : s.link.answers.length < 16 := by unfold Config.answerLimit at hroom; omega
  have hur : u.link.answers.length + 1 < Config.answerLimit := by rw [hk.2.2]; exact hroom
  unfold act
  rw [live_powered hpow, directive_taken (s := s.tick dt) haw hrec h0 hp hl, hf]
  unfold answer
  rw [enqueueAnswer_of_departed hu.2.2 hu.2.1 hur]
  have hr := hu.sent (a := ⟨tag, BitVec.ofNat 8 code, ac, data⟩) hur
  exact congrArg _ (finish_of_rest hr.1 hr.2.2)

end Sys2Proof.Machine
end

