-- ==== Sys2Proof/Laws/PerInstr.lean ====
section
/-! SUPPORT. For every command: a well-formed one carries a part time of 64 bits and a parameter field that its packet can
carry. -/

namespace Sys2Proof.Laws.WellFormedFits

/-- What a well-formed command's elapsed time and parameter field satisfy (R188, R189). -/
def Statement (i : Instr) : Prop :=
  i.wellFormed = true →
    i.elapsed < 18446744073709551616 ∧ ∀ p, i.params = some p → p.length + Config.directiveHeaderBytes ≤ Config.bodyLimit

/-- The three checks of well-formedness hold one by one. -/
theorem of_checks (i : Instr) : Statement i := by
  intro h
  simp only [Instr.wellFormed, Bool.and_eq_true, decide_eq_true_eq] at h
  refine ⟨h.1.1, fun p hp => ?_⟩
  have := h.1.2
  rw [hp] at this
  simpa [paramsFit] using this

theorem coldStart (cardDet : Bool) :
    Statement (.coldStart cardDet) := of_checks _
theorem brownOut (dt : Nat) :
    Statement (.brownOut dt) := of_checks _
theorem rstinAssertion (dt : Nat) :
    Statement (.rstinAssertion dt) := of_checks _
theorem imuDrdyEdge (dt : Nat) :
    Statement (.imuDrdyEdge dt) := of_checks _
theorem sampleTaken (dt : Nat) (record : SampleRecord) :
    Statement (.sampleTaken dt record) := of_checks _
theorem motionLost (dt : Nat) :
    Statement (.motionLost dt) := of_checks _
theorem identityCheck (dt : Nat) (ident : Option (BitVec 8)) :
    Statement (.identityCheck dt ident) := of_checks _
theorem frameStartMarker (dt : Nat) (count : BitVec 16) :
    Statement (.frameStartMarker dt count) := of_checks _
theorem sensorLine (dt : Nat) (pixels : List Nat) :
    Statement (.sensorLine dt pixels) := of_checks _
theorem frameEndMarker (dt : Nat) :
    Statement (.frameEndMarker dt) := of_checks _
theorem sideSlot (dt : Nat) :
    Statement (.sideSlot dt) := of_checks _
theorem clipPacket (dt : Nat) (stream : ClipStream) (flags : Byte) (pts : BitVec 64) (payload : Bytes) :
    Statement (.clipPacket dt stream flags pts payload) := of_checks _
theorem malformedPacket (dt : Nat) (bytes : Bytes) :
    Statement (.malformedPacket dt bytes) := of_checks _
theorem unknownDirective (dt : Nat) (tag code : Byte) (params : Bytes) :
    Statement (.unknownDirective dt tag code params) := of_checks _
theorem linkReset (dt : Nat) (tag : Byte) (params : Bytes) :
    Statement (.linkReset dt tag params) := of_checks _
theorem sleep (dt : Nat) (tag : Byte) (params : Bytes) :
    Statement (.sleep dt tag params) := of_checks _
theorem readStatus (dt : Nat) (tag : Byte) (params : Bytes) :
    Statement (.readStatus dt tag params) := of_checks _
theorem readCounters (dt : Nat) (tag : Byte) (params : Bytes) :
    Statement (.readCounters dt tag params) := of_checks _
theorem clearCounters (dt : Nat) (tag : Byte) (params : Bytes) :
    Statement (.clearCounters dt tag params) := of_checks _
theorem writeEntry (dt : Nat) (tag : Byte) (params : Bytes) :
    Statement (.writeEntry dt tag params) := of_checks _
theorem readEntry (dt : Nat) (tag : Byte) (params : Bytes) :
    Statement (.readEntry dt tag params) := of_checks _
theorem selectPage (dt : Nat) (tag : Byte) (params : Bytes) :
    Statement (.selectPage dt tag params) := of_checks _
theorem calibrate (dt : Nat) (tag : Byte) (params : Bytes) :
    Statement (.calibrate dt tag params) := of_checks _
theorem setMode (dt : Nat) (tag : Byte) (params : Bytes) :
    Statement (.setMode dt tag params) := of_checks _
theorem recenter (dt : Nat) (tag : Byte) (params : Bytes) :
    Statement (.recenter dt tag params) := of_checks _
theorem setGeometry (dt : Nat) (tag : Byte) (params : Bytes) :
    Statement (.setGeometry dt tag params) := of_checks _
theorem setLens (dt : Nat) (tag : Byte) (params : Bytes) :
    Statement (.setLens dt tag params) := of_checks _
theorem setExposure (dt : Nat) (tag : Byte) (params : Bytes) :
    Statement (.setExposure dt tag params) := of_checks _
theorem mount (dt : Nat) (tag : Byte) (params : Bytes) :
    Statement (.mount dt tag params) := of_checks _
theorem unmount (dt : Nat) (tag : Byte) (params : Bytes) :
    Statement (.unmount dt tag params) := of_checks _
theorem startRecording (dt : Nat) (tag : Byte) (params : Bytes) :
    Statement (.startRecording dt tag params) := of_checks _
theorem stopRecording (dt : Nat) (tag : Byte) (params : Bytes) :
    Statement (.stopRecording dt tag params) := of_checks _
theorem mark (dt : Nat) (tag : Byte) (params : Bytes) :
    Statement (.mark dt tag params) := of_checks _
theorem lockClip (dt : Nat) (tag : Byte) (params : Bytes) :
    Statement (.lockClip dt tag params) := of_checks _
theorem unlockClip (dt : Nat) (tag : Byte) (params : Bytes) :
    Statement (.unlockClip dt tag params) := of_checks _
theorem deleteClip (dt : Nat) (tag : Byte) (params : Bytes) :
    Statement (.deleteClip dt tag params) := of_checks _
theorem readIndex (dt : Nat) (tag : Byte) (params : Bytes) :
    Statement (.readIndex dt tag params) := of_checks _
theorem readClip (dt : Nat) (tag : Byte) (params : Bytes) :
    Statement (.readClip dt tag params) := of_checks _
theorem cardRead (dt : Nat) (tag : Byte) (params : Bytes) :
    Statement (.cardRead dt tag params) := of_checks _
theorem cardWrite (dt : Nat) (tag : Byte) (params : Bytes) :
    Statement (.cardWrite dt tag params) := of_checks _
theorem setInputLimit (dt : Nat) (tag : Byte) (params : Bytes) :
    Statement (.setInputLimit dt tag params) := of_checks _
theorem setChargeRequest (dt : Nat) (tag : Byte) (params : Bytes) :
    Statement (.setChargeRequest dt tag params) := of_checks _
theorem chargeRestart (dt : Nat) (tag : Byte) (params : Bytes) :
    Statement (.chargeRestart dt tag params) := of_checks _
theorem setGauge (dt : Nat) (tag : Byte) (params : Bytes) :
    Statement (.setGauge dt tag params) := of_checks _
theorem readPower (dt : Nat) (tag : Byte) (params : Bytes) :
    Statement (.readPower dt tag params) := of_checks _
theorem stallTimerExpiry (dt : Nat) :
    Statement (.stallTimerExpiry dt) := of_checks _
theorem cardOpCompletion (dt : Nat) (ok : Bool) (data : Bytes) :
    Statement (.cardOpCompletion dt ok data) := of_checks _
theorem cardTimeout (dt : Nat) :
    Statement (.cardTimeout dt) := of_checks _
theorem cardInsertion (dt : Nat) :
    Statement (.cardInsertion dt) := of_checks _
theorem cardRemoval (dt : Nat) :
    Statement (.cardRemoval dt) := of_checks _
theorem powerUpdate (dt : Nat) (m : Measurements) (supplyFirst monitorLast : Bool) :
    Statement (.powerUpdate dt m supplyFirst monitorLast) := of_checks _
theorem chargeEvaluation (dt : Nat) :
    Statement (.chargeEvaluation dt) := of_checks _
theorem safetyTimerTimeout (dt : Nat) :
    Statement (.safetyTimerTimeout dt) := of_checks _

end Sys2Proof.Laws.WellFormedFits
end

