-- ==== Sys2Proof/Tests/Slice0.lean ====
section
/-! SUPPORT. Tests: well-formedness, the manual's worked examples, and for every obligation with hypotheses a concrete
state and operands that meet them. Expected values come from the manual's tables and rules, which each test names. -/

namespace Sys2Proof.Tests

open Sys2Proof Sys2Proof.Machine

-- The tests are elaborated one after the other: each thread of its own would need its own stack.
set_option Elab.async false

/-! ### Helpers -/

/-- The state after a command that answers next. -/
def after (c : Instr) (s : State) : State :=
  match exec c s with
  | .next t => t
  | _ => s

/-- The state after a list of commands. -/
def runs (cs : List Instr) (s : State) : State := cs.foldl (fun s c => after c s) s

/-- The reports that wait. -/
def payloads (s : State) : List Payload := s.link.reports.map Report.payload

/-- The state after reset with the link AWAKE. -/
def up : State := State.reset.mapLink fun l => { l with awake := true }

/-- The state after a link reset that found the sensor. -/
def running : State := runs [.rstinAssertion 0, .identityCheck 0 (some 180#8)] State.reset

/-- A frame record of two bands with one row sent. -/
def oneRow : FrameRec :=
  { number := 0, sensorCount := 0#16, start := 0, mode := .off, lens := 0, exposure := 4000, nb := 2, lb := 90,
    slewEff := 8, yaw := 0, pitch := 0, roll := 0, bands := [], lines := 30, rows := 1, lastRow := none, long := false }

/-- `s` within a frame, where answers and reports wait for the frame's slots. -/
def inFrame (s : State) : State :=
  s.mapFrame fun f => { f with state := .opened, geometry := some ⟨640, 360, 320, 180, 2, 8⟩, record := some oneRow }

/-- A sample record of sequence number `q`, a gyro z of `g`, and 1 g on the z axis. -/
def sample (q : Nat) (g : Int) : SampleRecord := ⟨BitVec.ofNat 8 q, 0#16, 0#16, BitVec.ofInt 16 g, 0#16, 0#16, 2048#16⟩

/-- A clip record `n` in state `st` with `ec` extents, the first `fe` and the last `le'`, and `db` data blocks. -/
def clip (n : Nat) (st : ClipState) (fe le' : Option Nat) (ec db : Nat) (ph : Phase) : Clip :=
  { number := n, state := st, locked := false, flags := ClipFlags.empty, start := 5, openTime := some 0,
    firstPts := some 40, duration := 6, firstExtent := fe, lastExtent := le', extentCount := ec, dataBlocks := db,
    markers := [], reason := none, phase := ph, finalBegun := false }

/-- Blocks of clip `n` in the Segment Buffer. -/
def blocks (n k : Nat) : List Block := List.replicate k ⟨n, []⟩

/-- An OWNED extent. -/
def owned (n q : Nat) (next : Option Nat) (data : Nat) : Extent := .owned ⟨false, n, q, next, data⟩

/-! ### Well-formedness: an ill-formed command for each check -/

theorem test_elapsed_past_64_bits : (Instr.sideSlot 18446744073709551616).wellFormed = false := by decide +kernel

theorem test_parameters_past_a_packet (p : Bytes) (h : p.length = 65534) : (Instr.readStatus 0 1#8 p).wellFormed = false := by
  simp [Instr.wellFormed, Instr.params, paramsFit, h, Config.directiveHeaderBytes, Config.bodyLimit]

theorem test_payload_past_a_packet (p : Bytes) (h : p.length = 65526) :
    (Instr.clipPacket 0 .video 1#8 0#64 p).wellFormed = false := by
  simp [Instr.wellFormed, Instr.operandsFit, h, Config.clipHeaderBytes, Config.bodyLimit]

theorem test_malformed_packet_that_is_not :
    (Instr.malformedPacket 0 [2#8, 2#8, 0#8, 9#8, 3#8]).wellFormed = false := by decide +kernel

theorem test_unknown_directive_that_is_known : (Instr.unknownDirective 0 9#8 84#8 []).wellFormed = false := by decide +kernel

theorem test_read_data_that_is_no_block : (Instr.cardOpCompletion 0 true [1#8]).wellFormed = false := by decide +kernel

theorem test_vin_out_of_range :
    (Instr.powerUpdate 0 ⟨16001, 0, 0, 0, 0, 0⟩ true false).wellFormed = false := by decide +kernel

theorem test_iin_out_of_range : (Instr.powerUpdate 0 ⟨0, 6001, 0, 0, 0, 0⟩ true false).wellFormed = false := by decide +kernel

theorem test_vbat_out_of_range : (Instr.powerUpdate 0 ⟨0, 0, 5001, 0, 0, 0⟩ true false).wellFormed = false := by decide +kernel

theorem test_ibat_out_of_range :
    (Instr.powerUpdate 0 ⟨0, 0, 0, -6001, 0, 0⟩ true false).wellFormed = false ∧
      (Instr.powerUpdate 0 ⟨0, 0, 0, 6001, 0, 0⟩ true false).wellFormed = false := by decide +kernel

theorem test_temperatures_out_of_range :
    (Instr.powerUpdate 0 ⟨0, 0, 0, 0, 32768, 0⟩ true false).wellFormed = false ∧
      (Instr.powerUpdate 0 ⟨0, 0, 0, 0, 0, -32769⟩ true false).wellFormed = false := by decide +kernel

theorem test_no_row_has_bits : decodeTableWord 8 1 = none := rfl

/-! ### The manual's worked examples -/

/-- RUNNING with sample 250 expected, as Table 1-5 begins, at part time `n`. -/
def tracking (n e : Nat) : State :=
  { running.mapMotion fun m => { m with expected := some e, lastStamp := some 1009375, reading := some n } with partTime := n }

/-- Table 1-5, row 2: two fills and the sample enter the history, all of one stamp. -/
theorem test_sample_fills_a_gap :
    let t := after (.sampleTaken 0 (sample 253 0)) (tracking 1001875 251)
    t.filter.history.map HistoryEntry.time = [1001875, 1001875, 1001875] ∧ t.motion.expected = some 254 ∧
      t.counters.samplesLost = 2 ∧ t.motion.status = .running := by decide +kernel

/-- Table 1-5, row 4: a gap of ten is reported, and the new sample stands alone in the history. -/
theorem test_sample_past_a_wide_gap :
    let t := after (.sampleTaken 0 (sample 9 0)) (inFrame (tracking 1009375 255))
    t.filter.history.map HistoryEntry.time = [1009375] ∧ t.motion.expected = some 10 ∧ t.counters.samplesLost = 10 ∧
      payloads t = [.sampleGap 255 9 10] := by decide +kernel

/-- Table 1-5, row 5. -/
theorem test_silence_of_20_ms :
    let t := after (.motionLost 20000) (inFrame { (tracking 1009375 10) with partTime := 1009375 })
    t.motion.status = .lost ∧ payloads t = [.motionLost 1009375] := by decide +kernel

/-- A filter in STEADY with the margin angle of 192 pixels at 6827 (Table 2-6). -/
def steady (acc smooth : Nat) : Filter :=
  { coldFilter with accYaw := acc, smoothYaw := smooth, effMode := .steady, marginX := marginAngle 192 6827 }

/-- Table 2-6. -/
theorem test_yaw_computation :
    let f := (steady 1600000000 990000).step 4000 ⟨820 - 4, 0, 0⟩ 5
    f.accYaw = 1603264000 ∧ f.yaw = 1002040 ∧ f.smoothYaw = 990023 ∧ f.history.map HistoryEntry.cYaw = [12017] ∧
      f.marginX = 471836 := by decide +kernel

/-- Table 2-8. -/
theorem test_yaw_through_zero :
    let f := (steady 37748730000 23590000).step 4000 ⟨100 - 4, 0, 0⟩ 5
    f.accYaw = 378000 ∧ f.yaw = 236 ∧ f.smoothYaw = 23590006 ∧ f.history.map HistoryEntry.cYaw = [3190] ∧
      toPixels 3190 6827 = 1 := by decide +kernel

/-- The geometry of the worked cases of chapters 2 and 3. -/
def geometry : Geometry := ⟨3456, 2376, 3072, 2160, 8, 8⟩

/-- Table 2-7, and bands 4 and 5 of section 2.9. -/
theorem test_pitch_bands :
    toPixels (-600000) 6827 = -244 ∧
      clampBand geometry 8 0 (-244) (some (-90)) = ⟨true, 0, -98, false, true, true, false⟩ ∧
      clampBand geometry 8 0 (-244) (some (-98)) = ⟨true, 0, -106, false, true, true, false⟩ ∧
      clampBand geometry 8 0 (-244) (some (-106)) = ⟨true, 0, -108, false, true, false, false⟩ := by decide +kernel

/-- The history of Table 2-9. -/
def history : List HistoryEntry :=
  [⟨4995625, 11900, -3050⟩, ⟨4996875, 11900, -3030⟩, ⟨4996875, 12060, -2960⟩, ⟨4997500, 12017, -2940⟩,
   ⟨4998125, 11980, -2905⟩]

/-- Section 2.11, exposure 4000: the entry at 4,997,500 gives dx = 5 and dy = −1. -/
theorem test_band_lookup :
    (lookupEntry history (exposureCentre 5000000 120 4000)).1 = some ⟨4997500, 12017, -2940⟩ ∧
      toPixels 12017 6827 = 5 ∧ toPixels (-2940) 6827 = -1 := by decide +kernel

/-- A frame record of the worked case of section 3.5, bands 0 to 2 decided at −90 and band 3 at `d3`. -/
def frameRecord (d3 d4 : Int) : FrameRec :=
  let b (d : Int) : BandRec := ⟨true, 0, d, false, false, false, false⟩
  { number := 0, sensorCount := 0#16, start := 0, mode := .steady, lens := 0, exposure := 4000, nb := 8, lb := 270,
    slewEff := 8, yaw := 0, pitch := 0, roll := 0, bands := [b (-90), b (-90), b (-90), b d3, b d4], lines := 0, rows := 0,
    lastRow := none, long := false }

/-- Section 3.5: the decision lines of bands 3, 4 and 5. -/
theorem test_decision_lines :
    decisionLine geometry (frameRecord (-98) (-106)) 3 = 820 ∧ decisionLine geometry (frameRecord (-98) (-106)) 4 = 1082 ∧
      decisionLine geometry (frameRecord (-98) (-106)) 5 = 1344 := by decide +kernel

/-- Table 4-6, row 2: T = 829, one block fills and 317 bytes stay. -/
theorem test_packing_of_500_bytes :
    let i : Intake := { coldIntake with packing := List.replicate 317 0#8 }
    let j := i.pack 12 (storedHeader .video 1#8 500 339950000 ++ List.replicate 500 7#8)
    j.buffer.length = 1 ∧ j.packing.length = 317 ∧ j.occupancy = 2 := by decide +kernel

/-- An up part with a card present and a store of `n` extents mounted BLANK at block 1000. -/
def mounted (n : Nat) : State :=
  runs [.mount 0 1#8 (le 4 1000 ++ le 2 n ++ le 4 41 ++ le 1 0)] (up.mapCard fun c => { c with state := .idle })

/-- Table 5-8, row 1 (with the fixed page's reserve): the Free List, the index and the next clip after MOUNT BLANK. -/
theorem test_mount_blank :
    (mounted 8).store.free = [0, 1, 2, 3, 4, 5, 6, 7] ∧ (mounted 8).store.index = [] ∧ (mounted 8).store.nextClip = 1 ∧
      (mounted 8).store.quotaEff = 2 := by decide +kernel

/-- Clip 8 CLOSING behind 120 blocks and clip 9 OPEN behind 251, the flush limit at E (section 5.8). -/
def beforeFlush (e : Nat) : State :=
  let s := (mounted 8).mapStore fun st =>
    { st with
      tab := { st.tab with flushLimit := e }, writer := .recording, nextClip := 10,
      extents := st.extents.set 0 (owned 8 0 none 1000), free := [1, 2, 3, 4, 5, 6, 7],
      index := [{ clip 8 .closing (some 0) (some 0) 1 999 .writing with reason := some .split },
                clip 9 .opened none none 0 0 .none] }
  s.mapIntake fun i =>
    { i with buffer := blocks 8 120 ++ blocks 9 250, packing := List.replicate 300 1#8,
             record := some ⟨9, true, some 5, false, false⟩, stallEnd := some 1000000 }

/-- Table 5-6, E = 100: HOLD is asserted and a burst of 100 starts; at its end 271 blocks are discarded, clip 8 is cut and
clip 9 removed. -/
theorem test_emergency_flush_limit :
    let t := after (.powerUpdate 10 ⟨0, 0, 3200, 0, 50, 50⟩ false false) (beforeFlush 100)
    let u := after (.cardOpCompletion 5 true []) t
    t.intake.buffer.length = 371 ∧ t.card.op.map CardOp.count = some 100 ∧ t.store.writer = .emergency ∧
      t.intake.hold = true ∧ u.intake.buffer = [] ∧
      (u.store.flush.map fun f => (f.written, f.discarded, f.truncated, f.removed)) = some (100, 271, 1, 1) ∧
      u.store.index.map Clip.number = [8] := by decide +kernel

/-- R192: the check value of the CRC-32 over the characters "123456789". -/
theorem test_crc_check_value :
    crc32 [49#8, 50#8, 51#8, 52#8, 53#8, 54#8, 55#8, 56#8, 57#8] = 3421780262#32 := by decide +kernel

/-- Table 6-4: the burst of clip 5 to extent 12 in flight, 600 blocks buffered. -/
def inBurst : State :=
  let s := (mounted 40).mapStore fun st =>
    { st with
      writer := .recording, nextClip := 6, free := [30, 31, 32, 33, 34, 35],
      extents := ((st.extents.set 10 (owned 5 0 (some 11) 16383)).set 11 (owned 5 1 (some 12) 16383)).set 12
        (owned 5 2 none 9000),
      index := [clip 5 .opened (some 10) (some 12) 3 41764 .writing] }
  runs [.sideSlot 0] (s.mapIntake fun i =>
    { i with buffer := blocks 5 600, record := some ⟨5, true, some 5, false, false⟩, stallEnd := some 100000000 })

/-- Table 6-4, rows 1 and 2: the timeout is counted and reported, and the retry of the same 256 blocks starts. -/
theorem test_card_timeout_retries :
    (inBurst.card.op.map fun o => (o.addr, o.count)) = some (1000 + 12 * 16384 + 9000, 256) ∧
      let t := after (.cardTimeout 750000) inBurst
      t.card.fails = 1 ∧ t.counters.cardErrors = 1 ∧ t.counters.cardRetries = 1 ∧ t.intake.buffer.length = 600 ∧
        (t.card.op.map fun o => (o.addr, o.count)) = some (1000 + 12 * 16384 + 9000, 256) := by decide +kernel

/-- Table 7-4, row 1: FREEFALL rises, entry 2 fires, and clip 14 gets a marker of kind 3. -/
theorem test_trigger_mark :
    let e : TrigEntry := ⟨true, condFreefall, .rise, .mark⟩
    let none' : TrigEntry := ⟨false, 0#16, .rise, .mark⟩
    let s := ((mounted 8).mapStore fun st =>
        { st with writer := .recording, nextClip := 15, index := [clip 14 .opened none none 3 0 .none] }).mapTrig fun t =>
      { t with entries := [none', none', e, none', none', none', none', none'] }
    let t := takeChange (setCond condFreefall true) (inFrame s)
    payloads t = [.trigger 2 .mark .done .ok 14 .noEffect .ok 0] ∧
      (t.store.index.map fun c => c.markers.map Marker.kind) = [[3]] := by decide +kernel

/-- Table 8-2. -/
theorem test_band_judgement :
    fixedCharge.nextBand (some .standard) 89 = .standard ∧ fixedCharge.nextBand (some .standard) 90 = .warm ∧
      fixedCharge.nextBand (some .warm) 86 = .warm ∧ fixedCharge.nextBand (some .warm) 85 = .standard ∧
      fixedCharge.nextBand (some .standard) 121 = .hot ∧ fixedCharge.nextBand (some .hot) 115 = .warm := by decide +kernel

/-- FAST in STANDARD with ILIM_host 2000, ILIM_eff and setpoint as given (section 8.6). -/
def fast (ilim setpoint : Nat) (m : Measurements) : Charge :=
  { coldCharge with vin := true, ilimHost := 2000, ilimEff := some ilim, request := 3000, band := some .standard,
                    state := .fast, setpoint := setpoint, meas := m }

/-- Table 8-4, evaluations 2 and 5. -/
theorem test_input_limit_follows_vin :
    (let c := ((fast 2000 1275 ⟨4370, 1880, 3900, 1275, 60, 60⟩).evaluated .clear).1
     c.ilimEff = some 1900 ∧ c.setpoint = 1175) ∧
    (let c := ((fast 1800 1075 ⟨4610, 1385, 3900, 1075, 60, 60⟩).evaluated .clear).1
     c.ilimEff = some 1900 ∧ c.setpoint = 1175) := by decide +kernel

/-- Table 8-6, the row where the tier is DERATE again: the phase current is halved and the setpoint rises by one step. -/
theorem test_charge_resumes_at_half_current :
    let c := (({ fast 3000 0 ⟨5000, 500, 3980, 0, 115, 185⟩ with
      state := .suspended, reason := .dieLimit, band := some .warm, ilimHost := 3000, chargeTimer := 24601 }).evaluated .derate).1
    c.state = .fast ∧ c.reason = .none ∧ c.setpoint = 100 ∧ c.chargeTimer = 24602 := by decide +kernel

/-- Table 9-3. -/
theorem test_tier_judgement :
    fixedThermal.nextTier .clear 168 = .clear ∧ fixedThermal.nextTier .clear 170 = .derate ∧
      fixedThermal.nextTier .derate 201 = .limit ∧ fixedThermal.nextTier .limit 196 = .limit ∧
      fixedThermal.nextTier .limit 232 = .cutoff ∧ fixedThermal.nextTier .cutoff 215 = .cutoff ∧
      fixedThermal.nextTier .cutoff 188 = .derate := by decide +kernel

/-- Table 9-6. -/
theorem test_supply_judgement :
    fixedThermal.nextSupply .normal 3520 = .normal ∧ fixedThermal.nextSupply .normal 3440 = .warn ∧
      fixedThermal.nextSupply .warn 3470 = .warn ∧ fixedThermal.nextSupply .warn 3290 = .emergency ∧
      fixedThermal.nextSupply .emergency 3440 = .emergency := by decide +kernel

/-- A Report Queue of `n` reports with `k` lost. -/
def queued (n k : Nat) : State := up.mapLink fun l => { l with reports := List.replicate n ⟨0, .freefall⟩, lost := k }

/-- Table 10-4: a report against a full queue is lost; the head report leaves at 32; at the removal that leaves 16,
REPORTS_LOST takes the count. In the room no report waits, and none is lost (R60). -/
theorem test_reports_lost :
    (report .freefall (inFrame (queued 32 3))).link.lost = 4 ∧
      (let t := fillSlot (queued 32 3)
       t.link.reports.length = 31 ∧ t.link.lost = 3) ∧
      (let t := fillSlot (queued 17 4)
       t.link.reports.length = 17 ∧ t.link.lost = 0 ∧ (payloads t).getLast? = some (.reportsLost 4)) ∧
      (let t := (List.replicate 40 ()).foldl (fun s _ => report .freefall s) up
       t.captureOut.length = 40 ∧ t.link.lost = 0) := by decide +kernel

/-- Table 10-4: the TRIGGER of a FRAME_CLAMPED firing is lost to a full queue; the trailer and the reports leave after it, and
REPORTS_LOST (4) behind them (R56, R60). -/
theorem test_frame_clamped_against_a_full_queue :
    let s := ((inFrame (queued 32 3)).mapFrame fun f =>
        { f with record := some { oneRow with bands := [⟨true, 0, 90, false, true, false, false⟩] } }).mapTrig fun t =>
      { t with entries := ⟨true, condFrameClamped, .rise, .mark⟩ :: fixedTriggers.drop 1 }
    let t := buildTrailer s
    t.captureOut.length = 34 ∧ t.captureOut.getLast? = some (.packet (Report.encode ⟨t.partTime, .reportsLost 4⟩)) ∧
      t.link.lost = 0 ∧ t.trig.last.head? = some false := by decide +kernel

/-! ### Witnesses: the hypotheses of the obligations, met -/

/-- `up` within a frame, with `n` answers waiting, HOLD as R74 gives it. -/
def answersWait (n : Nat) : State :=
  runs (List.replicate n (.readStatus 0 7#8 [])) (inFrame up)

/-- A mounted store with reserve 2, 6 of 8 extents FREE, the records `cs` and the quota `q`, on an IDLE card. -/
def shelf (cs : List Clip) (q : Nat) : State :=
  (mounted 8).mapStore fun st =>
    { st with tab := { st.tab with reserve := 2 }, index := cs, free := [2, 3, 4, 5, 6, 7], nextClip := 10, quota := q,
              quotaEff := q, storeLow := false, lockNear := false,
              extents := (st.extents.set 0 (owned 1 0 (some 1) 16383)).set 1 (owned 1 1 none 9) }

/-- The same with a passthrough READ in flight, so that the card is BUSY. -/
def busyShelf (cs : List Clip) (q : Nat) : State := after (.cardRead 0 3#8 (le 4 5 ++ [1#8])) (shelf cs q)

/-- A CLOSED record of number 1 on extents 0 and 1. -/
def closed1 : Clip := clip 1 .closed (some 0) (some 1) 2 16391 .full

theorem witness_StepRunsFrontCommand : up.pending = [] := by decide +kernel

theorem witness_SupplyLossStopsThePart :
    (after (.brownOut 5) up).powered = false ∧ (∀ p, Instr.sideSlot 0 ≠ .coldStart p) ∧
      ∀ dt, Instr.sideSlot 0 ≠ .brownOut dt := by
  refine ⟨by decide +kernel, ?_, ?_⟩ <;> intro _ h <;> cases h

theorem witness_LinkResetResetsTheLink :
    up.powered = true ∧ up.link.awake = true ∧ State.reset.powered = true ∧ State.reset.link.awake = false := by
  decide +kernel

theorem witness_SleepPutsTheLinkAsleep :
    (Ready up ∧ (0#8).toNat ≤ 1 ∧ up.store.writer = .idle ∧ up.frame.state ≠ .opened ∧ up.motion.cal = none ∧
      up.motion.freefall = false ∧ up.motion.still = false ∧ up.trig.conds &&& condMotionLost = 0#16 ∧
      up.motion.status = .absent) ∧
    Ready running ∧ (1#8).toNat ≤ 1 ∧ running.store.writer = .idle ∧ running.frame.state ≠ .opened ∧
      running.motion.cal = none ∧ running.motion.freefall = false ∧ running.motion.still = false ∧
      running.trig.conds &&& condMotionLost = 0#16 ∧ running.motion.status ≠ .absent := by
  unfold Ready LinkReady AtRest; decide +kernel

theorem witness_ReadsAnswerWhatThePartHolds_status :
    let s := (shelf [closed1] 8).mapStore fun st => { st with nextClip := 4294967296 }
    Ready s ∧ statusData (s.tick 0) ≠ [] ∧ le 4 s.store.nextClip = [0#8, 0#8, 0#8, 0#8] ∧ pendingClasses s = [] := by
  unfold Ready LinkReady AtRest; decide +kernel

theorem witness_FullQueueDiscardsDirective :
    (Instr.sleep 4 9#8 [1#8]).directive = some ⟨2, some 1, 9#8, [1#8]⟩ ∧ (Instr.sleep 4 9#8 [1#8]).wellFormed = true ∧
      (2 : Nat) ≠ 1 ∧ (answersWait 16).powered = true ∧ (answersWait 16).link.awake = true ∧
      (answersWait 16).intake.receive = [] ∧ AtRest (answersWait 16) ∧ 16 ≤ (answersWait 16).link.answers.length := by
  unfold AtRest; decide +kernel

theorem witness_AsleepLinkReceivesNothing :
    (Instr.frameEndMarker 3).onLink = true ∧ (Instr.malformedPacket 3 []).onLink = true ∧
      (Instr.setGauge 3 1#8 [7#8]).onLink = true ∧ State.reset.powered = true ∧ State.reset.link.awake = false ∧
      AtRest State.reset := by
  unfold AtRest; decide +kernel

theorem witness_WrongDirectivesAreAnswered :
    (Instr.setLens 3 1#8 []).directive = some ⟨51, some 1, 1#8, []⟩ ∧
      (Instr.setLens 3 1#8 [1#8, 1#8]).directive = some ⟨51, some 1, 1#8, [1#8, 1#8]⟩ ∧ ([] : Bytes).length ≠ 1 ∧
      ([1#8, 1#8] : Bytes).length ≠ 1 ∧ ([1#8, 1#8] : Bytes).length ≤ 65533 ∧ Ready up ∧
    codeKnown (0#8).toNat = false ∧ codeKnown (85#8).toNat = false := by
  unfold Ready LinkReady AtRest; decide +kernel

theorem witness_OutOfRangeAnsweredRange :
    Ready up ∧ 1 < (2#8).toNat ∧ 3 < (4#8).toNat ∧ 100 < (101#8).toNat ∧
      uintAt (le 4 1 ++ [0#8]) 4 1 = 0 ∧ 16 < uintAt (le 4 1 ++ [17#8]) 4 1 ∧ (le 4 1 ++ [17#8]).length = 5 ∧
      (let p (start n flag : Nat) := le 4 start ++ le 2 n ++ le 4 1 ++ le 1 flag
       (p 0 7 0).length = 11 ∧ uintAt (p 0 7 0) 4 2 < 8 ∧ 16384 < uintAt (p 0 16385 0) 4 2 ∧
        4294967296 < uintAt (p 4294967295 8 0) 0 4 + uintAt (p 4294967295 8 0) 4 2 * 16384 ∧
        1 < uintAt (p 0 8 2) 10 1) := by
  unfold Ready LinkReady AtRest; decide +kernel

theorem witness_ReadsAnswerWhatThePartHolds :
    let s := shelf [closed1] 8
    let f := after (.cardRemoval 0) s
    Ready s ∧ (le 4 1 ++ [1#8]).length = 5 ∧ 1 ≤ uintAt (le 4 1 ++ [1#8]) 4 1 ∧ uintAt (le 4 1 ++ [16#8]) 4 1 ≤ 16 ∧
      s.store.state = .ready ∧ s.store.named (uintAt (le 4 1) 0 4) = some closed1 ∧ (le 4 1).length = 4 ∧
      Ready f ∧ f.store.state = .fault ∧ f.store.named (uintAt (le 4 1) 0 4) = some closed1 := by
  unfold Ready LinkReady AtRest; decide +kernel

theorem witness_ReadEntryReturnsThePage :
    Ready up ∧ 7 < (8#8).toNat ∧ 1 < (2#8).toNat ∧ entryCount 1 ≤ (4#8).toNat ∧ (7#8).toNat ≤ 7 ∧
      (0#8).toNat < entryCount (7#8).toNat ∧ (3#8).toNat < entryCount (1#8).toNat := by
  unfold Ready LinkReady AtRest; decide +kernel

/-- A write of the last LENS entry and of the THERMAL entry to the loaded page, for ReadEntryReturnsThePage. -/
theorem witness_ReadEntryReturnsThePage_written :
    (1 ≤ 7 ∧ 3 < entryCount 1 ∧ (fixedPages.readEntry 1 0).length = entryLength 1 ∧ fixedPages.lens.length = 4 ∧
      fixedPages.smoothing.length = 4 ∧ fixedPages.triggers.length = 8 ∧
      (fixedPages.writeEntry 1 3 (fixedPages.readEntry 1 0)).isSome = true) ∧
    (0 < entryCount 7 ∧ (fixedPages.readEntry 7 0).length = entryLength 7 ∧
      (fixedPages.writeEntry 7 0 (fixedPages.readEntry 7 0)).isSome = true) ∧
    ((1, 0) : Nat × Nat) ≠ (1, 3) ∧ 0 < entryCount 1 ∧ ((7, 0) : Nat × Nat) ≠ (1, 3) := by decide +kernel

/-- A command that carries no WRITE ENTRY, for ReadEntryReturnsThePage. -/
theorem witness_ReadEntryReturnsThePage_kept :
    (∀ dt tag p, Instr.sideSlot 0 ≠ .writeEntry dt tag p) ∧ (∀ dt bytes, Instr.sideSlot 0 ≠ .malformedPacket dt bytes) ∧
      (∀ dt tag code p, Instr.sideSlot 0 ≠ .unknownDirective dt tag code p) ∧
      (∀ present, Instr.sideSlot 0 ≠ .coldStart present) ∧ (∀ dt, Instr.sideSlot 0 ≠ .brownOut dt) ∧
      exec (.sideSlot 0) up = .next (after (.sideSlot 0) up) := by
  refine ⟨?_, ?_, ?_, ?_, ?_, rfl⟩ <;> intros <;> intro h <;> cases h

theorem witness_WriteEntryWritesTheLoadedPage :
    let lens := fixedPages.readEntry 1 0
    let inUse := after (.selectPage 0 1#8 [1#8, 1#8]) up
    Ready up ∧ Ready inUse ∧ lens.length ≤ 65531 ∧ 7 < (8#8).toNat ∧ entryCount (1#8).toNat ≤ (4#8).toNat ∧
      (1#8).toNat ≤ 7 ∧ (3#8).toNat < entryCount (1#8).toNat ∧ (0#8 :: lens).length ≠ entryLength (1#8).toNat ∧
      lens.length = entryLength (1#8).toNat ∧ inUse.link.loadedActive (1#8).toNat = true ∧
      up.link.loadedActive (1#8).toNat = false ∧ TablesSized up ∧ ∀ t ≤ 7, up.link.loadedActive t = false := by
  unfold Ready LinkReady AtRest TablesSized; decide +kernel

/-- Entries at the ends of their ranges: SMOOTHING at 14 and 2, TRIGGERS at the last action, a CHARGE boundary at −80, a die
threshold at 300, the highest ODR, any density, a wake count of 255, a reserve of 1, for WriteEntryWritesTheLoadedPage. -/
theorem witness_WriteEntryWritesTheLoadedPage_in_range :
    ∀ e ∈ [(2, [14#8, 14#8, 2#8, 2#8]), (5, [1#8, 0#8, 0#8, 1#8, 4#8]), (6, { fixedCharge with coldCool := -80 }.encode),
        (7, { fixedThermal with fallCutoff := 300 }.encode), (0, { fixedImu with odr := 3200 }.encode),
        (1, LensEntry.encode ⟨0, 65535, 0⟩), (3, { fixedLimits with wakeCount := 255 }.encode),
        (4, { fixedStore with reserve := 1 }.encode)],
      EntryInRange e.1 e.2 := by
  unfold EntryInRange; decide +kernel

/-- The same one past each end, an ODR that the table does not have, and a still time of 0. -/
theorem witness_WriteEntryWritesTheLoadedPage_out_of_range :
    ∀ e ∈ [(2, [15#8, 14#8, 2#8, 2#8]), (2, [14#8, 14#8, 2#8, 1#8]), (5, [1#8, 0#8, 0#8, 1#8, 5#8]),
        (6, { fixedCharge with coldCool := -81 }.encode), (7, { fixedThermal with fallCutoff := 301 }.encode),
        (0, { fixedImu with odr := 100 }.encode), (3, { fixedLimits with stillTime := 0 }.encode),
        (4, { fixedStore with reserve := 0 }.encode)],
      ¬EntryInRange e.1 e.2 := by
  unfold EntryInRange; decide +kernel

theorem witness_SelectPageCapturesThePage :
    let odd := up.mapLink fun l => { l with loaded := { l.loaded with store := { l.loaded.store with releaseMark := 16 } } }
    let all := up.mapLink fun l => { l with active := List.replicate 8 true }
    (Ready up ∧ (1#8).toNat ≤ 1 ∧
      ∀ t ≤ 7, up.link.loadedActive t ≠ decide ((1#8 : Byte) = 1#8)) ∧
    (Ready all ∧ (0#8).toNat ≤ 1 ∧ ∀ t ≤ 7, all.link.loadedActive t ≠ decide ((0#8 : Byte) = 1#8)) ∧
    (Ready odd ∧ (4#8).toNat ≤ 7 ∧ odd.link.loadedActive (4#8).toNat = false ∧
      ¬odd.link.loaded.store.holdMark < odd.link.loaded.store.releaseMark) ∧
    (up.link.loadedActive (7#8).toNat = decide ((0#8 : Byte) = 1#8) ∧ 7 < (8#8).toNat ∧ 1 < (2#8).toNat) := by
  unfold Ready LinkReady AtRest; decide +kernel

/-- The loaded page of every table as reset leaves it passes, and so does a density of 256 (R35). -/
theorem witness_SelectPageCapturesThePage_consistent :
    ∀ p ∈ (1, { fixedPages with lens := fixedPages.lens.set 3 ⟨256, 256, 0⟩ }) ::
        (List.range 8).map (fun t => (t, up.link.loaded)),
      PageConsistent p.2 p.1 := by
  unfold PageConsistent ThresholdsOrdered Ascending; decide +kernel

/-- A density of 255 (R35), a k below the next (R40), the hold mark at the release mark (R79), CHARGE boundaries that are equal
(R160), and a falling threshold at its rising one (R170). -/
theorem witness_SelectPageCapturesThePage_inconsistent :
    let g := fixedPages
    ∀ p ∈ [(1, { g with lens := g.lens.set 3 ⟨256, 255, 0⟩ }), (2, { g with smoothing := g.smoothing.set 2 ⟨5, 5, 4, 5⟩ }),
        (4, { g with store := { g.store with holdMark := g.store.releaseMark } }),
        (6, { g with charge := { g.charge with coolStandard := g.charge.standardWarm } }),
        (7, { g with thermal := { g.thermal with fallLimit := g.thermal.riseLimit } })],
      ¬PageConsistent p.2 p.1 := by
  unfold PageConsistent ThresholdsOrdered Ascending; decide +kernel

theorem witness_SelectImuAndStoreApplyAtOnce :
    let lost := after (.motionLost 20000) (running.mapMotion fun m => { m with lastStamp := some 0 })
    (Ready running ∧ (1#8).toNat ≤ 1 ∧ running.link.loadedActive 0 = false ∧ running.motion.cal = none ∧
      running.motion.status = .running) ∧
    (Ready lost ∧ lost.link.loadedActive 0 = false ∧ lost.motion.cal = none ∧ lost.motion.status = .lost) ∧
    (Ready up ∧ up.link.loadedActive 0 = false ∧ up.motion.status = .absent) ∧
    (Ready (shelf [closed1] 8) ∧ (shelf [closed1] 8).link.loadedActive 4 = false ∧
      (shelf [closed1] 8).link.loaded.store.holdMark < (shelf [closed1] 8).link.loaded.store.releaseMark) := by
  unfold Ready LinkReady AtRest; decide +kernel

/-- A calibration run, a sensor WATCHING, and the fixed page selected while the loaded one is active, for
SelectImuAndStoreApplyAtOnce. -/
theorem witness_SelectImuAndStoreApplyAtOnce_moved_held_fixed :
    let cal := after (.calibrate 0 1#8 []) running
    let held := running.mapMotion fun m => { m with status := .watching }
    let all (s : State) := s.mapLink fun l => { l with active := List.replicate 8 true }
    (Ready cal ∧ cal.link.loadedActive 0 = false ∧ cal.motion.cal.isSome = true ∧ cal.motion.status = .calibrating ∧
      cal.link.reports.length < 32) ∧
    (Ready held ∧ held.link.loadedActive 0 = false ∧ held.motion.status = .watching) ∧
    (Ready (all running) ∧ (0#8).toNat ≤ 1 ∧ (all running).link.loadedActive 0 ≠ decide ((0#8 : Byte) = 1#8) ∧
      (all running).motion.cal = none ∧ (all running).motion.status = .running) ∧
    Ready (all (shelf [closed1] 8)) ∧ (all (shelf [closed1] 8)).link.loadedActive 4 ≠ decide ((0#8 : Byte) = 1#8) := by
  unfold Ready LinkReady AtRest; decide +kernel

theorem witness_RecenterIsForced : Ready running ∧ running.motion.status = .running ∧ Ready up ∧ up.motion.status = .absent := by
  unfold Ready LinkReady AtRest; decide +kernel

theorem witness_CalibrateModeAndFrameSettings :
    let cal := after (.calibrate 0 1#8 []) running
    let lost := after (.motionLost 20000) (running.mapMotion fun m => { m with lastStamp := some 0 })
    let p (a b c d e f : Nat) := le 2 a ++ le 2 b ++ le 2 c ++ le 2 d ++ le 1 e ++ le 1 f
    (Ready running ∧ running.motion.status = .running) ∧ (Ready cal ∧ cal.motion.status = .calibrating) ∧
      (Ready lost ∧ lost.motion.status = .lost) ∧ Ready up ∧ up.motion.status = .absent ∧
      Mode.off.code = (0#8).toNat ∧ Mode.steadyWhileRecording.code = (3#8).toNat ∧ (3#8).toNat ≤ 3 ∧
      (le 4 1000001).length = 4 ∧ (p 4096 3072 4096 3072 16 0).length = 10 ∧
      uintAt (p 4096 3072 4096 3072 16 0) 0 2 = 4096 ∧ uintAt (p 4096 3072 4096 3072 16 0) 6 2 % 16 = 0 ∧
      uintAt (p 640 360 320 180 1 0) 0 2 = 640 ∧ uintAt (p 640 360 320 180 1 0) 6 2 = 180 ∧
      uintAt (p 640 360 642 180 1 0) 4 2 = 642 := by
  unfold Ready LinkReady AtRest; decide +kernel

/-- WATCHING: asleep with the sensor watched. -/
def watching : State := after (.sleep 0 1#8 [1#8]) running

theorem witness_DataReadyEdgeBeginsARead :
    let read := after (.imuDrdyEdge 5) running
    let checking := after (.rstinAssertion 0) running
    let quiet := after (.sleep 0 1#8 [0#8]) running
    (running.powered = true ∧ AtRest running ∧ running.motion.status ≠ .absent ∧ running.motion.checking = false ∧
      running.motion.reading = none ∧ running.link.awake = true) ∧
    (watching.powered = true ∧ AtRest watching ∧ watching.motion.checking = false ∧ watching.motion.reading = none ∧
      watching.link.awake = false ∧ watching.motion.status = .watching) ∧
    (AtRest up ∧ up.motion.status = .absent) ∧ (AtRest checking ∧ checking.motion.checking = true) ∧
    (AtRest read ∧ read.motion.reading ≠ none) ∧
    (AtRest quiet ∧ quiet.link.awake = false ∧ quiet.motion.status ≠ .watching) := by
  unfold AtRest; decide +kernel

theorem witness_SampleTakenIsIntegrated :
    let fresh := after (.imuDrdyEdge 5) running
    (fresh.powered = true ∧ fresh.motion.status = .running ∧ fresh.motion.reading = some 5 ∧ fresh.motion.expected = none ∧
      fresh.filter.effMode = .off ∧ 0 < fresh.filter.rate) ∧
    (let s := tracking 1009375 251
     s.powered = true ∧ 0 < s.filter.rate ∧ s.motion.status = .running ∧ s.motion.reading = some 1009375 ∧
      s.motion.expected = some (sample 251 0).seq.toNat ∧ 1 ≤ ((sample 252 0).seq.toNat + 256 - 251) % 256 ∧
      8 < ((sample 4 0).seq.toNat + 256 - 251) % 256) := by decide +kernel

/-- LOST and CALIBRATING, for SampleTakenIsIntegrated: at the first sample of a run, at its last within the range, and at its
last outside it. -/
theorem witness_SampleTakenIsIntegrated_lost_calibrating :
    let lost := (after (.motionLost 20000) (running.mapMotion fun m => { m with lastStamp := some 0 })).mapMotion fun m =>
      { m with reading := some 20000 }
    let cal := after (.imuDrdyEdge 5) (after (.calibrate 0 1#8 []) running)
    let last (v : Int) := cal.mapMotion fun m => { m with cal := some ⟨1023, ⟨v, 0, 0⟩, some ⟨0, 0, 0⟩⟩ }
    let r := cal.motion.setup.rates (sample 9 0)
    let means (v : Int) := [roundDiv (v + r.yaw) 1024, roundDiv r.pitch 1024, roundDiv r.roll 1024]
    (lost.powered = true ∧ lost.motion.reading = some 20000 ∧ lost.motion.status = .lost ∧ 0 < lost.filter.rate) ∧
    (cal.powered = true ∧ 0 < cal.filter.rate ∧ cal.motion.reading = some 5 ∧ cal.motion.status = .calibrating ∧
      (cal.motion.cal.map CalRun.count) = some 0 ∧ (cal.motion.cal.map CalRun.first) = some none ∧
      cal.motion.expected = none) ∧
    (last 0).powered = true ∧ 0 < (last 0).filter.rate ∧ (last 0).motion.status = .calibrating ∧
      (last 0).motion.expected = none ∧
      r.yaw.natAbs ≤ cal.motion.limits.stillThreshold ∧ r.pitch.natAbs ≤ cal.motion.limits.stillThreshold ∧
      r.roll.natAbs ≤ cal.motion.limits.stillThreshold ∧
      (∀ m ∈ means 0, -2048 ≤ m ∧ m ≤ 2047) ∧ ¬∀ m ∈ means 4000000, -2048 ≤ m ∧ m ≤ 2047 := by decide +kernel

/-- STEADY with no gap, and the ends of a run by a sample far from its first and by a gap, for SampleTakenIsIntegrated. -/
theorem witness_SampleTakenIsIntegrated_steady_moved :
    let s := (tracking 1009375 251).mapFilter fun f => { f with effMode := .steady }
    let cal := ((after (.imuDrdyEdge 5) (after (.calibrate 0 1#8 []) running)).mapMotion fun m =>
      { m with expected := some 9, cal := some ⟨3, ⟨0, 0, 0⟩, some ⟨0, 0, 0⟩⟩ }).mapTrig fun t =>
      { t with entries := t.entries.map fun e => { e with mask := condVinPresent } }
    (s.powered = true ∧ s.motion.status = .running ∧ s.motion.reading = some 1009375 ∧ s.filter.effMode = .steady ∧
      0 < s.filter.rate ∧ (s.link.waitSmoothing.getD s.filter.smoothing)[s.filter.profile]?.isSome = true ∧
      (after (.sampleTaken 0 (sample 251 0)) s).filter.history.getLast?.isSome = true ∧
      (sample 251 0).seq.toNat = 251) ∧
    (cal.powered = true ∧ 0 < cal.filter.rate ∧ cal.motion.status = .calibrating ∧ cal.motion.reading = some 5 ∧
      ¬((cal.motion.setup.rates ⟨9#8, 32000#16, 32000#16, 32000#16, 0#16, 0#16, 0#16⟩).yaw - 0).natAbs ≤
        cal.motion.limits.stillThreshold ∧
      (sample 10 0).seq.toNat ≠ 9 ∧ AtRest cal ∧
      Quiet (condShock ||| condFreefall ||| condStill ||| condMotionLost) cal ∧ cal.link.reports.length < 28) := by
  unfold AtRest Quiet; decide +kernel

/-- A peak on axis 1, with a smaller magnitude before it and an equal one behind, for ShockIsDetectedAndCounted. -/
theorem witness_ShockIsDetectedAndCounted_peak :
    let acc : List Int := [5, -20000, 20000]
    acc[1]? = some (-20000) ∧ (∀ w ∈ acc, w.natAbs ≤ (-20000 : Int).natAbs) ∧
      ∀ j < 1, ∀ w ∈ acc[j]?, w.natAbs < (-20000 : Int).natAbs := by decide +kernel

theorem witness_ShockIsDetectedAndCounted :
    let s := tracking 1009375 251
    let w := { watching.mapMotion fun m => { m with reading := some 7, holdoffEnd := some 7 } with partTime := 7 }
    let t := s.motion.limits.shockThreshold
    s.powered = true ∧ s.motion.reading = some 1009375 ∧ s.motion.holdoffEnd = none ∧ s.motion.status = .running ∧
      t ≤ (BitVec.ofNat 16 t).toInt.natAbs ∧ t ≤ (BitVec.ofInt 16 (-(t : Int))).toInt.natAbs ∧ s.link.reports.length < 30 ∧
      w.link.reports.length < 32 ∧
      w.powered = true ∧ w.motion.reading = some 7 ∧ (∀ e ∈ w.motion.holdoffEnd, e ≤ 7) ∧ w.motion.status = .watching ∧
      w.motion.limits.wakeCount ≠ 0 := by decide +kernel

/-- A sample in free fall and one at rest, for the detectors of ShockIsDetectedAndCounted: runs that open, that last, and
that close. -/
theorem witness_ShockIsDetectedAndCounted_detectors :
    let s := tracking 39009375 251
    let x : SampleRecord := ⟨251#8, 0#16, 0#16, 0#16, 0#16, 0#16, 0#16⟩
    let m := s.motion.limits
    let falling := s.mapMotion fun m => { m with freefallRun := some 0, stillRun := some 0, freefall := false, still := false }
    (s.powered = true ∧ s.motion.reading = some 39009375 ∧ s.motion.status = .running ∧ s.motion.freefallRun = none ∧
      x.ax.toInt.natAbs < m.freefallThreshold ∧ x.ay.toInt.natAbs < m.freefallThreshold ∧
      x.az.toInt.natAbs < m.freefallThreshold ∧ (s.motion.setup.rates x).yaw.natAbs ≤ m.stillThreshold ∧
      s.motion.expected = some x.seq.toNat ∧ s.link.reports.length < 31 ∧ m.freefallThreshold ≤ m.shockThreshold) ∧
    ((after (.sampleTaken 0 x) falling).motion.freefall = true ∧ (after (.sampleTaken 0 x) falling).motion.still = true ∧
      (after (.sampleTaken 0 ⟨251#8, 20000#16, 20000#16, 20000#16, 0#16, 0#16, 2048#16⟩)
        (falling.mapMotion fun m => { m with still := true })).motion.still = false) := by decide +kernel

theorem witness_SilenceLosesMotion :
    let s := running.mapMotion fun m => { m with lastStamp := some 0 }
    let c := after (.calibrate 0 1#8 []) s
    (s.powered = true ∧ s.link.awake = true ∧ s.motion.checking = false ∧ s.motion.status = .running ∧
      s.motion.lastStamp = some 0 ∧ 0 + 20000 ≤ s.partTime + 20000 ∧ s.partTime + 19999 < 0 + 20000 ∧ AtRest s ∧
      s.link.reports.length < 30 ∧ s.trig.waiting = []) ∧
    c.motion.status = .calibrating ∧ c.motion.lastStamp = some 0 := by
  unfold AtRest; decide +kernel

theorem witness_IdentityCheckEndsTheReset :
    let s := after (.rstinAssertion 0) up
    s.powered = true ∧ s.motion.checking = true ∧ AtRest s ∧ s.trig.waiting = [] ∧
      (some 180#8 : Option (BitVec 8)).map BitVec.toNat = some (s.link.waitImu.getD s.motion.setup).identity ∧
      (some 181#8 : Option (BitVec 8)).map BitVec.toNat ≠ some (s.link.waitImu.getD s.motion.setup).identity ∧
      (none : Option (BitVec 8)).map BitVec.toNat ≠ some (s.link.waitImu.getD s.motion.setup).identity := by
  unfold AtRest; decide +kernel

/-- A small geometry of 640 × 360 to 320 × 180 in two bands, waiting for a frame start. -/
def shaped : State :=
  after (.setGeometry 0 1#8 (le 2 640 ++ le 2 360 ++ le 2 320 ++ le 2 180 ++ [2#8, 8#8])) running

/-- The frame that the next marker begins under it. -/
def opened : State := after (.frameStartMarker 0 9#16) shaped

theorem witness_FrameStartBeginsAFrame :
    (up.powered = true ∧ up.link.awake = true ∧ up.frame.state ≠ .opened ∧
      up.frame.pendGeometry.or up.frame.geometry = none) ∧
    shaped.powered = true ∧ shaped.link.awake = true ∧ shaped.frame.state ≠ .opened ∧
      shaped.frame.pendGeometry.or shaped.frame.geometry = some ⟨640, 360, 320, 180, 2, 8⟩ := by decide +kernel

/-- A frame in progress, for FrameStartBeginsAFrame. -/
theorem witness_FrameStartBeginsAFrame_opened :
    opened.powered = true ∧ opened.link.awake = true ∧ opened.frame.state = .opened ∧
      opened.frame.geometry = some ⟨640, 360, 320, 180, 2, 8⟩ ∧ opened.frame.record.isSome = true := by decide +kernel

/-- A LENS page that waits, outside a frame and within one, for FrameStartBeginsAFrame. -/
theorem witness_FrameStartBeginsAFrame_waiting_page :
    let s := after (.selectPage 0 1#8 [1#8, 1#8]) shaped
    let o := after (.selectPage 0 1#8 [1#8, 1#8]) opened
    (s.powered = true ∧ s.link.awake = true ∧ s.frame.state ≠ .opened ∧ s.link.waitLens.isSome = true ∧
      (let t := after (.frameStartMarker 0 9#16) s
       t.frame.geometry.isSome = true ∧ t.frame.lensPage[t.frame.lens]?.isSome = true)) ∧
    o.frame.state = .opened ∧ o.link.waitLens.isSome = true ∧ o.frame.record.isSome = true := by decide +kernel

/-- The same frame, for SLEEP. -/
theorem witness_SleepPutsTheLinkAsleep_in_a_frame :
    AtRest opened ∧ opened.link.answers.length < 16 ∧ (0#8).toNat ≤ 1 ∧ opened.store.writer = .idle := by
  unfold AtRest; decide +kernel

theorem witness_LineIsBroughtToWidth :
    opened.powered = true ∧ opened.link.awake = true ∧ opened.frame.state = .opened ∧
      opened.frame.geometry = some ⟨640, 360, 320, 180, 2, 8⟩ ∧
      (opened.frame.record.map fun r => decide (r.lines < 360)) = some true ∧
      (let c := opened.mapFrame fun f => { f with state := .complete, record := f.record.map fun r => { r with lines := 359 } }
       c.powered = true ∧ c.link.awake = true ∧ c.frame.state = .complete ∧
        (c.frame.record.map fun r => decide (r.lines < 360)) = some true) := by decide +kernel

/-- The first line of a frame, on which band 0 is decided, and its last line with the last row to send. -/
theorem witness_LineReleasesRows :
    let last := opened.mapFrame fun f => { f with record := f.record.map fun r => { r with lines := 359, rows := 179 } }
    ∀ s ∈ [opened, last], s.powered = true ∧ s.link.awake = true ∧ s.frame.state = .opened ∧
      s.frame.geometry = some ⟨640, 360, 320, 180, 2, 8⟩ ∧
      ∃ r ∈ s.frame.record, s.frame.lensPage[r.lens]?.isSome = true ∧ r.lines < 360 ∧ r.rows < 180 := by decide +kernel

/-- Lines out of place, for LineIsBroughtToWidth: in IDLE, in DISCARD, and beyond H_in, the first and a later one. -/
theorem witness_LineIsBroughtToWidth_out_of_place :
    let discard := after (.frameStartMarker 0 1#16) up
    let full (long : Bool) := opened.mapFrame fun f =>
      { f with state := .complete, record := f.record.map fun r => { r with lines := 360, long := long } }
    (up.powered = true ∧ AtRest up ∧ up.frame.state = .idle) ∧ (AtRest discard ∧ discard.frame.state = .discard) ∧
    (AtRest (full false) ∧ ((full false).frame.record.map fun r => (r.lines, r.long)) = some (360, false)) ∧
    AtRest (full true) ∧ (full true).powered = true ∧ (full true).link.awake = true ∧ (full true).frame.state = .complete ∧
      (full true).frame.geometry = some ⟨640, 360, 320, 180, 2, 8⟩ ∧
      ((full true).frame.record.map fun r => (r.lines, r.long)) = some (360, true) := by
  unfold AtRest; decide +kernel

/-- In `s`, a frame of 6 lines of 4 pixels cut to 4 rows in two bands of 2, with `bands`, one line taken and `rows` rows sent. -/
def cutShort (bands : List BandRec) (rows : Nat) (last : Option (List Nat)) (s : State) : State :=
  s.mapFrame fun f =>
    { f with state := .opened, geometry := some ⟨4, 6, 4, 4, 2, 1⟩, ring := [⟨0, 0, [5, 6, 7, 8]⟩],
             record := some ⟨7, 9#16, 3, .steady, 0, 10000, 2, 2, 1, 1, 2, 3, bands, 1, rows, last, false⟩ }

/-- Two bands of which the first is decided and clamped. -/
def halfDecided : List BandRec := [⟨true, 0, -1, false, true, false, false⟩, ⟨false, 0, 0, false, false, false, false⟩]

theorem witness_FrameEndFinishesTheFrame :
    (opened.powered = true ∧ opened.link.awake = true ∧ opened.frame.state = .opened ∧ opened.frame.geometry.isSome = true ∧
      opened.frame.record.isSome = true ∧ AtRest opened ∧ Quiet (condFrameClamped ||| condHoldActive) opened ∧
      opened.store.openClip = none) ∧
    up.powered = true ∧ up.link.awake = true ∧ up.frame.state ≠ .opened ∧ AtRest up := by
  unfold AtRest Quiet; decide +kernel

/-- A filling of bands: the second takes the offsets of the first. -/
theorem witness_FrameEndFinishesTheFrame_bands :
    FilledBands halfDecided [⟨true, 0, -1, false, true, false, false⟩, ⟨false, 0, -1, false, false, false, true⟩] := by
  refine ⟨rfl, fun i b h => ?_⟩
  match i with
  | 0 => cases h; rfl
  | 1 => cases h; rfl
  | n + 2 => cases h

theorem witness_SideSlotCarriesTheFirstWaiting :
    let trailing := opened.mapFrame fun f => { f with trailer := some ⟨7, 9#16, 3, .off, 0, [], 0, 0, 0⟩ }
    let held := (answersWait 2).mapLink fun l => { l with held := some ⟨1#8, 74#8, .ok, []⟩ }
    let waiting := { answersWait 15 with frame := up.frame }
    let slot (s : State) : Prop := s.link.awake = true ∧ judgeHold s = s
    (slot trailing ∧ trailing.frame.trailer.isSome = true) ∧
    (slot (answersWait 15) ∧ (answersWait 15).link.answers.length = 15 ∧ (answersWait 15).link.held = none ∧
      (answersWait 15).frame.trailer = none) ∧
    (slot held ∧ held.link.answers.length = 2 ∧ held.link.held = some ⟨1#8, 74#8, .ok, []⟩) ∧
    (slot (queued 18 4) ∧ (queued 18 4).link.answers = [] ∧ (queued 18 4).link.reports.length = 17 + 1) ∧
    (slot (queued 17 4) ∧ (queued 17 4).link.lost = 4 ∧ (queued 17 4).link.reports.length = 16 + 1) ∧
    (slot (queued 0 0) ∧ (queued 0 0).link.answers = [] ∧ (queued 0 0).link.reports = []) ∧
    (waiting.powered = true ∧ waiting.link.awake = true ∧ waiting.frame.state ≠ .opened ∧ settleStep waiting = none ∧
      judgeHold waiting = waiting ∧ waiting.link.held = none ∧ waiting.link.lost = 0 ∧ waiting.link.answers.length < 16 ∧
      waiting.link.drain = false ∧ waiting.link.answers ≠ []) ∧
    ((answersWait 2).powered = true ∧ AtRest (answersWait 2) ∧ (answersWait 2).frame.state = .opened ∧
      (answersWait 2).frame.record = some oneRow ∧ oneRow.rows ≠ 0) := by
  unfold AtRest; decide +kernel

/-- Clip 9 OPEN on extent 1 and recording, `synced` or not, with a burst of it in flight. -/
def recording (synced : Bool) (markers : Nat) : State :=
  let c := { clip 9 .opened (some 1) (some 1) 1 4 .writing with markers := List.replicate markers ⟨0, 0, 16⟩ }
  let s := (shelf [closed1, c] 8).mapStore fun st => { st with writer := .recording }
  (s.mapIntake fun i =>
    { i with record := some ⟨9, synced, none, false, false⟩, stallEnd := some 5000000, buffer := blocks 9 2,
             packing := [1#8] }).mapCard fun k =>
    { k with state := .busy, op := some ⟨.writer (.burst 9 1 4 1 false false []), 1, .write, 17388, 1, 0, 250000, []⟩ }

theorem witness_AcceptedPacketIsPacked :
    (let s := recording false 0
     s.powered = true ∧ s.link.awake = true ∧ s.intake.receive = [] ∧ AtRest s ∧ s.store.openClip.map Clip.number = some 9 ∧
      s.store.writer = .recording ∧ s.intake.record = some ⟨9, false, none, false, false⟩ ∧ (1#8 : Byte).getLsbD 0 = true ∧
      s.intake.fits 100 = true ∧ s.card.state ≠ .idle ∧ s.card.writing = true ∧ s.intake.bufCause = false ∧
      s.store.tab.holdMark ≤ (s.intake.lay 9 (List.replicate (zeroFill s.intake.packing.length) 0#8 ++
        (storedHeader .video 1#8 100 7 ++ List.replicate 100 3#8))).freeBlocks) ∧
    (let s := recording true 0
     AtRest s ∧ s.intake.record = some ⟨9, true, none, false, false⟩ ∧ (0#8 : Byte).getLsbD 0 = false ∧
      s.intake.fits 0 = true ∧ s.intake.bufCause = false ∧
      s.store.tab.holdMark ≤ (s.intake.lay 9 (List.replicate (zeroFill s.intake.packing.length) 0#8 ++
        (storedHeader .audio 0#8 0 7 ++ []))).freeBlocks) := by
  unfold AtRest; decide +kernel

/-- What the splits of AcceptedPacketIsPacked and UnacceptedPacketIsDiscarded ask alike. -/
def SplitAsked (r : IntakeRec) (s : State) : Prop :=
  s.powered = true ∧ s.link.awake = true ∧ s.intake.receive = [] ∧ AtRest s ∧
    RecordingInto [{ closed1 with locked := true }] (clip 9 .opened (some 1) (some 1) 1 4 .writing) s ∧
    s.card.writing = true ∧ s.intake.record = some r ∧ r.clip = 9 ∧ r.syncMet = true

/-- Clip 9 recording behind a locked clip, its split marked or not, with the Free List `free`. -/
def splitting (marked : Bool) (free : List Nat) : State :=
  let s := (recording true 0).mapIntake fun i => { i with record := some ⟨9, true, none, false, marked⟩ }
  s.mapStore fun st =>
    { st with index := st.index.map fun c => if c.number = 1 then { c with locked := true } else c, free := free,
              storeLow := decide (free.length < 2), quotaEff := 8, tab := { st.tab with maxDuration := 60 } }

/-- A split by the mark, and one at the duration limit of 60 s from the first video PTS 40. -/
theorem witness_AcceptedPacketIsPacked_split :
    (let s := splitting true [2, 3]
     let i := { s.intake with buffer := s.intake.buffer ++ [Block.mk 9 (s.intake.packing ++ padding 1)], packing := [] }
     SplitAsked ⟨9, true, none, false, true⟩ s ∧ s.store.nextClip = 10 ∧ (∀ d ∈ s.store.index, d.number < 10) ∧
      s.store.free ≠ [] ∧ s.intake.bufCause = false ∧ s.link.reports.length < 32 ∧ i.fits 100 = true ∧
      s.store.tab.holdMark ≤ (i.lay 10 (storedHeader .video 1#8 100 7 ++ List.replicate 100 3#8)).freeBlocks) ∧
    SplitAsked ⟨9, true, none, false, false⟩ (splitting false [2, 3]) ∧ (1#8 : Byte).getLsbD 0 = true ∧
      1000000 * (splitting false [2, 3]).store.tab.maxDuration ≤ (60000040#64).toNat - (some 40).getD 7 := by
  unfold SplitAsked AtRest RecordingInto StoreJudged; decide +kernel

/-- A split with no extent left, for UnacceptedPacketIsDiscarded. -/
theorem witness_UnacceptedPacketIsDiscarded_split :
    SplitAsked ⟨9, true, none, false, true⟩ (splitting true []) ∧ (splitting true []).store.free = [] := by
  unfold SplitAsked AtRest RecordingInto StoreJudged; decide +kernel

theorem witness_PackingLaysBytesInOrder :
    let i (n : Nat) : Intake := { coldIntake with packing := List.replicate n 7#8 }
    (i 511).packing.length < 512 ∧ 12 ≤ (storedHeader .audio 0#8 0 7).length ∧ (i 0).packing.length = 0 ∧
      (i 500).packing.length ≤ 500 ∧ ¬(i 501).packing.length ≤ 500 := by decide +kernel

theorem witness_UnacceptedPacketIsDiscarded :
    (up.powered = true ∧ up.link.awake = true ∧ up.intake.receive = [] ∧ AtRest up ∧ ([] : Bytes).length ≤ 65525 ∧
      up.store.writer ≠ .recording) ∧
    (let s := recording false 0
     AtRest s ∧ s.store.writer = .recording ∧ s.intake.record = some ⟨9, false, none, false, false⟩ ∧
      (0#8 : Byte).getLsbD 0 = false) := by
  unfold AtRest; decide +kernel

/-- Recording with HOLD in force for want of buffer room: `rest` behind a first block of the clip, and a first drop reported
or not. -/
def crowded (rest : List Block) (dropReported : Bool) : State :=
  ((recording true 0).mapIntake fun i =>
    { i with buffer := ⟨9, []⟩ :: rest, record := some ⟨9, true, none, dropReported, false⟩, bufCause := true,
             hold := true }).mapTrig fun t => { t with conds := t.conds ||| condHoldActive }

theorem crowded_occupancy (rest : List Block) (d : Bool) : (crowded rest d).intake.occupancy = rest.length + 1 + 1 := rfl

theorem crowded_judgeHold (rest : List Block) (d : Bool) (h : rest.length = 8191) :
    judgeHold (crowded rest d) = crowded rest d := by
  have hf : (crowded rest d).intake.freeBlocks = 0 := by
    simp [Intake.freeBlocks, crowded_occupancy, h, Config.bufferBlocks]
  have hm : 0 < (recording true 0).store.tab.holdMark := by decide +kernel
  have hb : bufCauseNow (crowded rest d) = true := by
    unfold bufCauseNow
    rw [hf]
    split
    · rfl
    · exact if_pos hm
  have ha : ansCauseNow (crowded rest d) = false := by
    have : ansCauseNow (recording true 0) = false := by decide +kernel
    exact this
  have hr : (recording true 0).intake.ansCause = false := by decide +kernel
  unfold judgeHold
  simp only [hb, ha]
  rw [if_pos (by rfl)]
  unfold crowded State.mapTrig State.mapIntake
  simp [hr]

theorem crowded_settled (rest : List Block) (d : Bool) : settleStep (crowded rest d) = none := by
  cases d <;> rfl

theorem crowded_drops (rest : List Block) (d : Bool) (h : rest.length = 8191) :
    let s := crowded rest d
    s.powered = true ∧ s.link.awake = true ∧ s.intake.receive = [] ∧ AtRest s ∧
      s.store.openClip.map Clip.number = some 9 ∧ s.store.writer = .recording ∧
      s.intake.record = some ⟨9, true, none, d, false⟩ ∧ s.intake.fits 500 = false ∧ s.card.state ≠ .idle ∧
      s.link.reports.length < 32 := by
  have hp : (crowded rest d).intake.packing = [1#8] := rfl
  have hb : (crowded rest d).intake.buffer = ⟨9, []⟩ :: rest := rfl
  have hr : (recording true 0).link.reports.length < 32 := by decide +kernel
  have hd : departed (crowded rest d) = true := by cases d <;> rfl
  have ha : AtRest (crowded rest d) := ⟨crowded_settled rest d, crowded_judgeHold rest d h, hd⟩
  have hc : (recording true 0).card.state ≠ .idle := by decide +kernel
  refine ⟨by cases d <;> rfl, by cases d <;> rfl, by cases d <;> rfl, ha, by cases d <;> rfl, by cases d <;> rfl, rfl, ?_, hc, hr⟩
  simp [Intake.fits, Intake.occupancyAfter, hp, hb, h, Config.bufferBlocks, Config.blockBytes, Config.headerBytes, zeroFill]

/-- A full buffer with a first drop still to report and with one reported, for the dropped packet of
UnacceptedPacketIsDiscarded. -/
theorem witness_UnacceptedPacketIsDiscarded_dropped :
    ∀ d : Bool, let s := crowded (blocks 9 8191) d
      s.powered = true ∧ s.link.awake = true ∧ s.intake.receive = [] ∧ AtRest s ∧
        s.store.openClip.map Clip.number = some 9 ∧ s.store.writer = .recording ∧
        s.intake.record = some ⟨9, true, none, d, false⟩ ∧ s.intake.fits 500 = false ∧ s.card.state ≠ .idle ∧
        s.link.reports.length < 32 :=
  fun d => crowded_drops (blocks 9 8191) d List.length_replicate

/-- A frame in progress with a row to send while clip 9 records, its first sync met or not, for the MOTION packet of
FrameEndFinishesTheFrame and, as the line is the one its last row waits for, of LineReleasesRows. -/
theorem witness_FrameEndFinishesTheFrame_handed :
    ∀ synced : Bool,
      let bands := List.replicate 2 ⟨true, 0, -3, false, false, false, false⟩
      let s := cutShort bands 3 none (recording synced 0)
      s.powered = true ∧ s.link.awake = true ∧ AtRest s ∧ Quiet (condFrameClamped ||| condHoldActive) s ∧
        s.frame.state = .opened ∧ s.frame.geometry = some ⟨4, 6, 4, 4, 2, 1⟩ ∧
        (∃ r ∈ s.frame.record, s.frame.lensPage[r.lens]?.isSome = true ∧ r.bands = bands ∧ r.lines < 6 ∧ r.rows < 4) ∧
        s.store.openClip.map Clip.number = some 9 ∧ s.intake.record = some ⟨9, synced, none, false, false⟩ ∧
        s.intake.fits 39 = true ∧ s.card.state ≠ .idle ∧ s.card.writing = true ∧
        (after (.sensorLine 0 [1, 2, 3, 4]) s).frame.state = .complete := by
  unfold AtRest Quiet; decide +kernel

theorem cutShort_judgeHold (s : State) (h : judgeHold s = s) :
    judgeHold (cutShort halfDecided 1 none s) = cutShort halfDecided 1 none s := by
  have : judgeHold (cutShort halfDecided 1 none s) = cutShort halfDecided 1 none (judgeHold s) := by
    unfold judgeHold; dsimp only; rw [apply_ite (cutShort halfDecided 1 none)]; rfl
  rw [this, h]

theorem crowded_in_a_frame (rest : List Block) (d : Bool) (h : rest.length = 8191) :
    let s := cutShort halfDecided 1 none (crowded rest d)
    s.powered = true ∧ s.link.awake = true ∧ AtRest s ∧ Quiet (condFrameClamped ||| condHoldActive) s ∧
      s.frame.state = .opened ∧ s.store.openClip.map Clip.number = some 9 ∧
      s.intake.record = some ⟨9, true, none, d, false⟩ ∧ s.intake.fits 39 = false ∧ s.link.reports.length < 32 := by
  have hq : Quiet (condFrameClamped ||| condHoldActive) (recording true 0) := by unfold Quiet; decide +kernel
  have hs : settleStep (cutShort halfDecided 1 none (crowded rest d)) = none := by cases d <;> rfl
  have hp : (crowded rest d).intake.packing = [1#8] := rfl
  have hb : (crowded rest d).intake.buffer = ⟨9, []⟩ :: rest := rfl
  have hf : (crowded rest d).intake.fits 39 = false := by
    simp [Intake.fits, Intake.occupancyAfter, hp, hb, h, Config.bufferBlocks, Config.blockBytes, Config.headerBytes, zeroFill]
  obtain ⟨h1, h2, -, -, h5, -, -, -, -, h10⟩ := crowded_drops rest d h
  exact ⟨h1, h2, ⟨hs, cutShort_judgeHold _ (crowded_judgeHold rest d h), by cases d <;> rfl⟩, hq, rfl, h5, rfl, hf, h10⟩

/-- A frame in progress beside a full buffer, for the MOTION packet that is dropped. -/
theorem witness_FrameEndFinishesTheFrame_dropped :
    ∀ d : Bool, let s := cutShort halfDecided 1 none (crowded (blocks 9 8191) d)
      s.powered = true ∧ s.link.awake = true ∧ AtRest s ∧ Quiet (condFrameClamped ||| condHoldActive) s ∧
        s.frame.state = .opened ∧ s.store.openClip.map Clip.number = some 9 ∧
        s.intake.record = some ⟨9, true, none, d, false⟩ ∧ s.intake.fits 39 = false ∧ s.link.reports.length < 32 :=
  fun d => crowded_in_a_frame (blocks 9 8191) d List.length_replicate

theorem witness_MalformedPacketIsCounted :
    Ready up ∧ ([] : Bytes).length < 3 ∧ ([1#8, 0#8] : Bytes).length < 3 ∧ ([3#8, 0#8, 0#8] : Bytes).head? ≠ some 1#8 ∧
      ([3#8, 0#8, 0#8] : Bytes).head? ≠ some 2#8 ∧
      (let body : Bytes := List.replicate 9 1#8
       body.length < 65536 ∧ body.length < 10) ∧
      (let body : Bytes := List.replicate 10 3#8
       ¬body.length < 10 ∧ body.head? ≠ some 1#8 ∧ body.head? ≠ some 2#8) ∧
      (1#8).toNat + 256 * (0#8).toNat ≠ ([] : Bytes).length + 2 ∧
      (3#8).toNat + 256 * (0#8).toNat ≠ ([] : Bytes).length + 2 ∧
      (1#8).toNat + 256 * (0#8).toNat ≠ ([] : Bytes).length := by
  unfold Ready LinkReady AtRest; decide +kernel

/-- An up part whose card is in state `st`, with nothing mounted and a reserve of 8. -/
def unmounted (st : CardState) : State :=
  (up.mapCard fun c => { c with state := st }).mapStore fun k => { k with tab := { k.tab with reserve := 8 } }

theorem witness_MountOpensTheStore :
    let p (n flag : Nat) := le 4 0 ++ le 2 n ++ le 4 1 ++ le 1 flag
    let s := unmounted .idle
    Ready s ∧ NoRecording s ∧ s.store.state = .unmounted ∧ s.store.scan = none ∧ s.store.storeLow = false ∧
      s.store.lockNear = false ∧ s.card.op = none ∧ s.card.updates = [] ∧ s.card.slot = none ∧ s.store.tab.reserve ≤ 8 ∧
      (p 8 0).length = 11 ∧ uintAt (p 8 0) 4 2 = 8 ∧ uintAt (p 16384 1) 4 2 = 16384 ∧ uintAt (p 8 0) 10 1 = 0 ∧
      uintAt (p 16384 1) 10 1 = 1 := by
  unfold Ready LinkReady AtRest NoRecording; decide +kernel

/-- A BUSY card, and one that is not there, for MountOpensTheStore. -/
theorem witness_MountOpensTheStore_other_cards :
    (let b := after (.cardRead 0 1#8 (le 4 5 ++ [1#8])) (unmounted .idle)
     Ready b ∧ NoRecording b ∧ b.card.state = .busy ∧ b.store.state = .unmounted) ∧
      (Ready (unmounted .absent) ∧ NoRecording (unmounted .absent) ∧ (unmounted .absent).card.state = .absent) ∧
      Ready (unmounted .failed) ∧ NoRecording (unmounted .failed) ∧ (unmounted .failed).card.state = .failed := by
  unfold Ready LinkReady AtRest NoRecording; decide +kernel

theorem witness_UnmountEmptiesTheStore :
    (Ready up ∧ up.store.state = .unmounted) ∧
    (Ready (recording true 0) ∧ (recording true 0).store.state = .ready ∧ (recording true 0).store.writer ≠ .idle) ∧
    (let s := shelf [closed1] 8
     Ready s ∧ s.store.state = .ready ∧ NoRecording s ∧ s.card.updates = [] ∧ s.store.storeLow = false ∧
      s.store.lockNear = false) := by
  unfold Ready LinkReady AtRest NoRecording; decide +kernel

theorem witness_StartRecordingOpensAClip :
    (let s := shelf [] 8
     Ready s ∧ (le 8 77).length = 8 ∧ s.store.state = .ready ∧ NoRecording s ∧ s.thermal.supply ≠ .emergency ∧
      s.thermal.tier ≠ .cutoff ∧ StoreJudged s ∧ s.store.index.length < 512 ∧ s.store.nextClip < 4294967296 ∧
      s.store.free ≠ [] ∧ s.link.reports.length < 32) ∧
    (let s := (shelf [closed1] 8).mapStore fun st => { st with free := [] }
     Ready s ∧ NoRecording s ∧ StoreJudged s ∧ s.store.free = [] ∧ ∃ c ∈ s.store.index, c.locked = false) := by
  unfold Ready LinkReady AtRest NoRecording StoreJudged; decide +kernel

theorem witness_StoreDirectivesRefused :
    let full := (shelf [{ closed1 with locked := true }] 8).mapStore fun st => { st with free := [], storeLow := true }
    let hot := (shelf [] 8).mapThermal fun t => { t with tier := .cutoff }
    (Ready up ∧ (le 8 7).length = 8 ∧ (le 4 1).length = 4 ∧ up.store.state = .unmounted ∧ up.store.writer ≠ .recording) ∧
    (Ready hot ∧ hot.store.state = .ready ∧ hot.thermal.tier = .cutoff) ∧
    (Ready (recording true 0) ∧ (recording true 0).store.state = .ready ∧ (recording true 0).store.writer = .recording ∧
      ¬((recording true 0).thermal.supply = .emergency ∨ (recording true 0).thermal.tier = .cutoff ∨
        (recording true 0).store.writer = .emergency)) ∧
    (Ready full ∧ full.store.state = .ready ∧ full.store.writer = .idle ∧ StoreJudged full ∧ full.store.free = [] ∧
      ∀ c ∈ full.store.index, c.state = .closed → c.locked = true) ∧
    (full.store.named (uintAt (le 4 2) 0 4) = none ∧
      full.store.named (uintAt (le 4 1) 0 4) = some { closed1 with locked := true } ∧
      ((recording true 0).store.named (uintAt (le 4 0) 0 4)).map Clip.state = some .opened) := by
  unfold Ready LinkReady AtRest StoreJudged; decide +kernel

/-- The clip numbers exhausted, and operands within their ranges, for StoreDirectivesRefused. -/
theorem witness_StoreDirectivesRefused_exhausted :
    let last := (shelf [] 8).mapStore fun st => { st with nextClip := 4294967296 }
    let p := le 4 0 ++ le 2 8 ++ le 4 1 ++ le 1 1
    Ready last ∧ last.store.writer = .idle ∧ StoreJudged last ∧ last.store.index.length < 512 ∧
      4294967296 ≤ last.store.nextClip ∧ last.store.state ≠ .unmounted ∧ p.length = 11 ∧ uintAt p 4 2 = 8 ∧
      uintAt p 0 4 + uintAt p 4 2 * 16384 ≤ 4294967296 ∧ uintAt p 10 1 = 1 ∧ (le 4 1 ++ [16#8]).length = 5 ∧
      uintAt (le 4 1 ++ [16#8]) 4 1 = 16 := by
  unfold Ready LinkReady AtRest StoreJudged; decide +kernel

theorem witness_SleepPutsTheLinkAsleep_recording :
    Ready (recording true 0) ∧ (1#8).toNat ≤ 1 ∧ (recording true 0).store.writer ≠ .idle := by
  unfold Ready LinkReady AtRest; decide +kernel

theorem witness_StopClosesTheOpenClip :
    let s := recording true 0
    RecordingInto [closed1] (clip 9 .opened (some 1) (some 1) 1 4 .writing) s ∧ Ready s ∧
      s.intake.stallEnd = some 5000000 ∧ 5000000 ≤ s.partTime + 5000000 ∧ s.partTime + 4999999 < 5000000 := by
  unfold RecordingInto StoreJudged Ready LinkReady AtRest; decide +kernel

theorem witness_MarkAddsAMarker :
    (Ready up ∧ up.store.openClip = none) ∧
    (Ready (recording true 15) ∧ (recording true 15).store.openClip.map (fun c => c.markers.length) = some 15) ∧
    Ready (recording true 16) ∧ (recording true 16).store.openClip.map (fun c => c.markers.length) = some 16 := by
  unfold Ready LinkReady AtRest; decide +kernel

/-- A CLOSED record of number 4, locked, on two extents. -/
def locked4 : Clip := { clip 4 .closed (some 2) (some 3) 2 9 .full with locked := true }

/-- What LockChangesAreQueued asks of every case, for the record `c` between `before` and `after'`. -/
def LockAsked (before after' : List Clip) (c : Clip) (s : State) : Prop :=
  Ready s ∧ (le 4 c.number).length = 4 ∧ uintAt (le 4 c.number) 0 4 = c.number ∧ c.number ≠ 0 ∧ s.store.state = .ready ∧
    NoRecording s ∧ s.card.state ≠ .idle ∧ s.store.index = before ++ c :: after' ∧
    (∀ d ∈ before ++ after', d.number ≠ c.number) ∧ s.store.tab.reserve ≤ s.store.free.length ∧ StoreJudged s

theorem witness_LockChangesAreQueued :
    let s := busyShelf [locked4, closed1] 8
    LockAsked [locked4] [] closed1 s ∧ closed1.locked = false ∧ (∀ u ∈ s.card.updates, u.clip ≠ closed1.number) ∧
      s.store.lockedExtents + closed1.extentCount ≤ s.store.quotaEff ∧
      10 * (s.store.lockedExtents + closed1.extentCount) < 9 * s.store.quotaEff ∧ s.card.updates.length < 16 := by
  unfold LockAsked Ready LinkReady AtRest NoRecording StoreJudged; decide +kernel

theorem witness_LockChangesAreQueued_unlock :
    let s := busyShelf [locked4, closed1] 8
    LockAsked [] [closed1] locked4 s ∧ locked4.locked = true ∧ (∀ u ∈ s.card.updates, u.clip ≠ locked4.number) ∧
      10 * s.store.lockedExtents < 9 * s.store.quotaEff ∧ s.card.updates.length < 16 := by
  unfold LockAsked Ready LinkReady AtRest NoRecording StoreJudged; decide +kernel

theorem witness_LockChangesAreQueued_past_the_quota :
    let s := busyShelf [locked4, closed1] 3
    LockAsked [locked4] [] closed1 s ∧ s.store.quotaEff < s.store.lockedExtents + closed1.extentCount ∧
      s.link.reports.length < 32 := by
  unfold LockAsked Ready LinkReady AtRest NoRecording StoreJudged; decide +kernel

theorem witness_LockChangesAreQueued_full_queue :
    let s := (busyShelf [locked4, closed1] 8).mapCard fun c => { c with updates := List.replicate 16 ⟨7, false, false⟩ }
    LockAsked [locked4] [] closed1 s ∧ LockAsked [] [closed1] locked4 s ∧ (∀ u ∈ s.card.updates, u.clip ≠ closed1.number) ∧
      (∀ u ∈ s.card.updates, u.clip ≠ locked4.number) ∧ 16 ≤ s.card.updates.length := by
  unfold LockAsked Ready LinkReady AtRest NoRecording StoreJudged; decide +kernel

theorem witness_DeleteReleasesTheClip :
    let s := busyShelf [locked4, closed1] 8
    Ready s ∧ (le 4 1).length = 4 ∧ uintAt (le 4 1) 0 4 = closed1.number ∧ closed1.number ≠ 0 ∧ s.store.state = .ready ∧
      NoRecording s ∧ s.card.state ≠ .idle ∧ s.store.index = [locked4] ++ closed1 :: [] ∧
      (∀ d ∈ [locked4] ++ [], d.number ≠ closed1.number) ∧ closed1.locked = false ∧
      s.store.tab.reserve ≤ s.store.free.length ∧ StoreJudged s ∧
      s.store.chain closed1.extentCount closed1.firstExtent = [0, 1] ∧ [0, 1].Nodup ∧
      ∀ e ∈ [0, 1], s.store.owned e ≠ none := by
  unfold Ready LinkReady AtRest NoRecording StoreJudged; decide +kernel

theorem witness_PassthroughStartsOrIsRefused :
    let p (addr n : Nat) := le 4 addr ++ le 1 n
    let s := shelf [{ closed1 with locked := true }] 8
    (Ready s ∧ (p 5 8).length = 5 ∧ uintAt (p 5 8) 4 1 = 8 ∧ s.card.state = .idle ∧ s.card.op = none ∧
      s.card.slot = none) ∧
    uintAt (p 5 9) 4 1 = 9 ∧ uintAt (p 5 0) 4 1 = 0 ∧ 4294967296 < uintAt (p 4294967295 2) 0 4 + uintAt (p 4294967295 2) 4 1 ∧
      uintAt (p 4294967295 1) 0 4 + uintAt (p 4294967295 1) 4 1 ≤ 4294967296 ∧
    (Ready (unmounted .absent) ∧ (unmounted .absent).card.state = .absent) ∧
    (Ready (busyShelf [] 8) ∧ (busyShelf [] 8).card.state = .busy ∧ (busyShelf [] 8).card.slot ≠ none) ∧
    ((le 4 5).length < 5 ∧ 5 ≤ (p 5 9).length ∧ (p 5 1 ++ [7#8]).length ≠ 5 + 512 * uintAt (p 5 1 ++ [7#8]) 4 1 ∧
      1 ≤ uintAt (p 5 1 ++ [7#8]) 4 1) ∧
    (p 999 1 ++ List.replicate 512 7#8).length = 5 + 512 * uintAt (p 999 1) 4 1 ∧
      Ready s ∧ s.store.state = .ready ∧ s.store.areaStart = 1000 ∧ s.store.count = 8 ∧
      s.store.extents[(1000 - 1000) / 16384]? = some (owned 1 0 (some 1) 16383) ∧
      s.store.index.find? (fun c => c.number = 1) = some { closed1 with locked := true } ∧
    (let b := (busyShelf [] 8).mapCard fun k => { k with slot := none, op := some ⟨.scan, 4, .read, 5, 1, 0, 250000, []⟩ }
     Ready b ∧ b.card.state = .busy ∧ b.card.slot = none) := by
  unfold Ready LinkReady AtRest; decide +kernel

/-- A passthrough READ of one block in flight on an unmounted store, after `n` failures in a row. -/
def passing (n : Nat) : State :=
  (after (.cardRead 0 3#8 (le 4 5 ++ [1#8])) (unmounted .idle)).mapCard fun c => { c with fails := n }

theorem witness_PassthroughEndIsAnswered :
    let o (s : State) := s.card.op.getD ⟨.scan, 0, .read, 0, 0, 0, 0, []⟩
    let p (s : State) := s.card.slot.getD ⟨0#8, .read, 0, 0, [], .pending⟩
    (let s := passing 1
     s.powered = true ∧ AtRest s ∧ PassInFlight (o s) (p s) s ∧ s.link.answers.length < 15 ∧ Unwatched condCardError s ∧
      s.link.reports.length < 31 ∧ s.card.fails + 1 < 3 ∧ (o s).start + (o s).limit ≤ s.partTime + 750000 ∧
      s.partTime + 749999 < (o s).start + (o s).limit ∧ NotLate 0 s) ∧
    (let s := passing 2
     AtRest s ∧ PassInFlight (o s) (p s) s ∧ Unwatched condCardError s ∧ 3 ≤ s.card.fails + 1 ∧ NotLate 5 s ∧
      s.store.state = .unmounted ∧ (o s).start + (o s).limit ≤ s.partTime + 750000) := by
  unfold AtRest PassInFlight Unwatched NoRecording NotLate; decide +kernel

/-- A third failure while a clip records and while the store is scanned, for PassthroughEndIsAnswered. -/
theorem witness_PassthroughEndIsAnswered_third :
    let twice (s : State) := s.mapCard fun c => { c with fails := 2 }
    ∀ s ∈ [twice (recording true 0), twice (after (.mount 0 1#8 (le 4 0 ++ le 2 8 ++ le 4 1 ++ le 1 1)) (unmounted .idle))],
      s.powered = true ∧ AtRest s ∧ s.card.op.isSome = true ∧ 2 ≤ s.card.fails ∧
        (s.store.state = .ready ∨ s.store.state = .scanning) ∧ Quiet condCardError s ∧ NotLate 3 s ∧ StoreJudged s ∧
        s.link.reports.length + 2 + 1 < 32 ∧ (s.store.index.map Clip.number).Pairwise (· < ·) ∧ ∃ o ∈ s.card.op, o.start + o.limit ≤ s.partTime + 750000 := by
  unfold AtRest Quiet NotLate StoreJudged; decide +kernel

/-- Clip 9 CLOSING with its final trailer in flight. -/
def closing9 : Clip := { clip 9 .closing (some 1) (some 1) 1 4 .writing with reason := some .stop, finalBegun := true }

def finishing : State :=
  ((shelf [closed1, closing9] 8).mapStore fun st => { st with writer := .stopping }).mapCard fun k =>
    { k with state := .busy, op := some ⟨.writer (.finalTrailer 9 1), 2, .write, 33767, 1, 0, 250000, []⟩ }

theorem witness_FinalTrailerClosesTheClip :
    let s := finishing
    s.powered = true ∧ AtRest s ∧ NotLate 7 s ∧ s.card.state = .busy ∧
      s.card.op.map CardOp.source = some (.writer (.finalTrailer closing9.number 1)) ∧ s.card.updates = [] ∧
      s.card.slot = none ∧ s.store.state = .ready ∧ s.store.writer = .stopping ∧ s.store.index = [closed1] ++ [closing9] ∧
      (∀ d ∈ [closed1], d.state = .closed ∧ d.number ≠ closing9.number) ∧ closing9.state = .closing ∧
      closing9.reason = some .stop ∧ 0 < closing9.dataBlocks ∧ s.intake.buffer = [] ∧ s.store.retry = none ∧
      s.store.scan = none ∧ s.store.flush = none ∧ s.store.tab.reserve ≤ s.store.free.length ∧ StoreJudged s ∧
      s.link.reports.length < 32 := by
  unfold AtRest StoreJudged NotLate; decide +kernel

/-- The retry of a burst that has just timed out, whose late completion comes with the timeout, for
PassthroughEndIsAnswered. -/
theorem witness_PassthroughEndIsAnswered_late :
    let s := after (.cardTimeout 750000) inBurst
    s.powered = true ∧ AtRest s ∧ ¬NotLate 0 s ∧ NotLate 1 s ∧ s.card.state = .busy := by
  unfold AtRest NotLate; decide +kernel

/-- `recording` with a burst of its first block in flight into extent 1 of `data` blocks, tried once before or not. -/
def bursting (data : Nat) (again : Bool) : State :=
  (recording true 0).mapStore fun st =>
    { st with extents := st.extents.set 1 (owned 9 0 none data),
              retry := if again then some (.burst 9 1 data 1 false false []) else none }

/-- A burst in flight: one block of two, with and without confirmed blocks in its extent. -/
theorem witness_CardEndingsReachTheirSource :
    let c := clip 9 .opened (some 1) (some 1) 1 4 .writing
    (∀ again, let s := bursting 4 again
      AtRest s ∧ RecordingInto [closed1] c s ∧ s.intake.buffer = [⟨9, []⟩] ++ [⟨9, []⟩] ∧
      s.store.owned 1 = some ⟨false, 9, 0, none, 4⟩ ∧ 1 + 1 < s.store.tab.burstSize ∧ 1 + 1 < s.store.tab.urgentMark ∧
      (s.store.retry = none ↔ again = false)) ∧
    (let s := bursting 0 true
     AtRest s ∧ RecordingInto [closed1] c s ∧ s.store.owned 1 = some ⟨false, 9, 0, none, 0⟩ ∧ s.store.retry ≠ none ∧
      c.locked = false ∧ 1 ∉ s.store.free ∧ s.store.free ≠ [] ∧ Quiet (condStoreLow ||| condLockNear) s ∧
      s.store.chain c.extentCount c.firstExtent = [] ++ [1]) := by
  unfold AtRest RecordingInto StoreJudged Quiet; decide +kernel

/-- What every case of a burst asks of the rest of the part. -/
theorem witness_CardEndingsReachTheirSource_burst :
    ∀ again, let s := bursting 4 again
      s.powered = true ∧ s.card.state = .busy ∧
        s.card.op.map CardOp.source = some (.writer (.burst 9 1 4 1 false false [])) ∧ s.card.updates = [] ∧
        s.card.slot = none ∧ s.store.scan = none ∧ s.intake.bufCause = false ∧ Unwatched condCardError s ∧
        s.link.reports.length < 32 ∧ s.card.fails + 1 < 3 ∧ NotLate 4 s := by
  unfold Unwatched NotLate; decide +kernel

/-- A trailer update in flight, tried once before or not. -/
theorem witness_CardEndingsReachTheirSource_update :
    ∀ failed, let s := (shelf [closed1] 8).mapCard fun k =>
        { k with state := .busy, op := some ⟨.update 1, 3, .write, 33767, 1, 0, 250000, []⟩, updates := [⟨1, true, failed⟩] }
      s.powered = true ∧ AtRest s ∧ NoRecording s ∧ s.card.state = .busy ∧ s.card.slot = none ∧ s.store.scan = none ∧
        s.store.find 1 = some closed1 ∧ closed1.lastExtent = some 1 ∧ Unwatched condCardError s ∧
        s.link.reports.length < 32 ∧ s.card.fails + 1 < 3 ∧ NotLate 4 s := by
  unfold AtRest NoRecording Unwatched NotLate; decide +kernel

/-- A burst of one block that fills the extent of the clip it records, for AllocationExtendsTheChain. -/
theorem witness_AllocationExtendsTheChain_full :
    let s := bursting 16382 false
    s.powered = true ∧ AtRest s ∧ RecordingInto [closed1] (clip 9 .opened (some 1) (some 1) 1 4 .writing) s ∧
      s.intake.buffer = [⟨9, []⟩] ++ [⟨9, []⟩] ∧ s.card.state = .busy ∧
      s.card.op.map CardOp.source = some (.writer (.burst 9 1 4 1 false false [])) ∧
      s.store.owned 1 = some ⟨false, 9, 0, none, 16382⟩ ∧ s.store.chain 1 (some 1) = [] ++ [1] ∧ s.card.updates = [] ∧
      s.card.slot = none ∧ s.store.scan = none ∧ s.store.flush = none ∧ s.intake.bufCause = false ∧ NotLate 0 s ∧
      16382 + 1 + 0 = 16383 := by
  unfold AtRest RecordingInto StoreJudged NotLate; decide +kernel

/-- A CLOSED record of number 1 on extent 0. -/
def small1 : Clip := { closed1 with lastExtent := some 0, extentCount := 1 }

/-- The clip that records, on extent 1, which is full. -/
def full9 (locked : Bool) : Clip := { clip 9 .opened (some 1) (some 1) 1 16382 .fullDue with locked := locked }

/-- Clip 9 recording on extent 1 behind the records `old`, its full trailer in flight and two blocks waiting, with the Free
List `free` and the quota `q`. -/
def nearAllocation (locked : Bool) (q : Nat) (free : List Nat) (old : List Clip) : State :=
  let s := (shelf (old ++ [full9 locked]) q).mapStore fun st =>
    { st with
      writer := .recording, free := free, tab := { st.tab with burstSize := 1 },
      extents := (if old.isEmpty then .bad else owned 1 0 none 16383) :: owned 9 0 none 16383 ::
        (List.range 6).map fun i => if i + 2 ∈ free then .free else .bad }
  (s.mapIntake fun i =>
    { i with record := some ⟨9, true, some 7, false, false⟩, stallEnd := some 5000000, buffer := blocks 9 2 }).mapCard fun k =>
    { k with state := .busy, op := some ⟨.writer (.fullTrailer 9 1), 6, .write, 33767, 1, 0, 250000, []⟩ }

/-- The cases of AllocationExtendsTheChain: an allocation from the Free List, one that needs a reclaim, FULL, a locked clip
within the quota, one at it that can be continued, and one at it that cannot. -/
def allocationCases : List (List Clip × Bool × State) :=
  [([small1], false, nearAllocation false 8 [2, 3, 4, 5, 6, 7] [small1]), ([small1], false, nearAllocation false 8 [] [small1]),
   ([], false, nearAllocation false 8 [] []), ([small1], true, nearAllocation true 4 [2, 3, 4, 5, 6, 7] [small1]),
   ([small1], true, nearAllocation true 1 [2, 3, 4, 5, 6, 7] [small1]), ([], true, nearAllocation true 1 [] [])]

theorem witness_AllocationExtendsTheChain :
    ∀ x ∈ allocationCases, let s := x.2.2
      s.powered = true ∧ AtRest s ∧ s.store.writer = .recording ∧ s.store.index = x.1 ++ [full9 x.2.1] ∧
        (∀ d ∈ x.1, d.state = .closed) ∧ s.intake.buffer ≠ [] ∧ s.store.tab.burstSize ≤ s.intake.occupancy ∧
        s.intake.bufCause = false ∧ s.store.retry = none ∧ s.store.scan = none ∧ s.card.state = .busy ∧
        s.card.op.map CardOp.source = some (.writer (.fullTrailer 9 1)) ∧ s.card.updates = [] ∧ s.card.slot = none ∧
        Quiet (condStoreLow ||| condLockNear) s ∧ NotLate 0 s ∧ s.store.owned 1 = some ⟨false, 9, 0, none, 16383⟩ := by
  unfold AtRest Quiet NotLate; decide +kernel

theorem witness_AllocationExtendsTheChain_invariants :
    ∀ x ∈ allocationCases, StoreBounded x.2.2 ∧ ClipsOrdered x.2.2 ∧ CountersBounded x.2.2 := by
  unfold StoreBounded ClipsOrdered CountersBounded; decide +kernel

theorem witness_AllocationExtendsTheChain_placed : ∀ x ∈ allocationCases, ExtentsPlaced x.2.2 := by
  unfold ExtentsPlaced Placed; decide +kernel

/-- What tells the cases apart: the Free List, L and Q_eff, and the chain of the record that a reclaim releases. -/
theorem witness_AllocationExtendsTheChain_cases :
    (allocationCases.map fun x => (x.2.2.store.free.length, x.2.2.store.lockedExtents, x.2.2.store.quotaEff)) =
      [(6, 0, 8), (0, 0, 8), (0, 0, 8), (6, 1, 4), (6, 1, 1), (0, 1, 1)] ∧
    (nearAllocation false 8 [] [small1]).store.chain 1 (some 0) = [0] ∧ small1.locked = false ∧
    (full9 true).reason = none ∧ ∀ x ∈ allocationCases, x.2.2.store.nextClip < 4294967296 ∧ x.2.2.link.reports.length < 32 := by
  decide +kernel

/-- Such a state is sound: its blocks, its intake record and its write stand on the clip that records. -/
theorem nearAllocation_sound (locked : Bool) (q : Nat) (free : List Nat) (old : List Clip)
    (h : ∀ c ∈ old, c.state = .closed) : StoreSound (nearAllocation locked q free old) := by
  have hx : (nearAllocation locked q free old).store.index = old ++ [full9 locked] := rfl
  have hm : full9 locked ∈ (nearAllocation locked q free old).store.index := by simp [hx]
  refine ⟨?_, ?_, ?_, ?_, by intro k hk; cases hk⟩
  · intro b hb
    have : b = ⟨9, []⟩ := List.eq_of_mem_replicate hb
    exact ⟨_, hm, by rw [this]; rfl, by simp [full9, clip]⟩
  · intro r hr
    cases hr
    exact ⟨_, hm, rfl, rfl⟩
  · intro c hc hn _ hd
    rw [hx, List.mem_append, List.mem_singleton] at hc
    rcases hc with hc | rfl
    · exact absurd (h c hc) hn
    · simp [full9, clip] at hd
  · intro w hw
    rw [show (nearAllocation locked q free old).writes = [.fullTrailer 9 1] from rfl, List.mem_singleton] at hw
    subst hw
    exact ⟨rfl, _, hm, rfl, by simp [full9, clip], rfl⟩

/-- R94, R95, R100, R106 of the same states: the Free List's head is taken; a reclaim for it reports STORE_LOW with the list as that
reclaim leaves it; FULL and the continuation of a locked clip. -/
theorem test_allocations :
    let go (s : State) := after (.cardOpCompletion 0 true []) (inFrame s)
    (let t := go (nearAllocation false 8 [5, 3, 2] [small1])
     t.store.free = [3, 2] ∧ t.store.owned 1 = some ⟨false, 9, 0, some 5, 16383⟩ ∧ t.counters.reclaimedClips = 0 ∧
      t.card.op.map CardOp.source = some (.writer (.openTrailer 9 5))) ∧
    (let t := go (nearAllocation false 8 [] [small1])
     t.store.free = [] ∧ t.counters.reclaimedClips = 1 ∧ payloads t = [.storeLow 1 0] ∧
      t.card.op.map CardOp.source = some (.writer (.openTrailer 9 0))) ∧
    (go (nearAllocation true 1 [2, 3] [])).store.index.map (fun c => (c.number, c.state, c.reason)) =
      [(9, .closing, some .lockQuota), (10, .opened, none)] := by decide +kernel

/-- A scan of eight extents whose read of extent `e` is in flight, for the first or the second time. -/
def scanned (e : Nat) (again : Bool) : State :=
  (after (.mount 0 1#8 (le 4 0 ++ le 2 8 ++ le 4 1 ++ le 1 1)) (unmounted .idle)).mapStore fun st =>
    { st with scan := some ⟨e, again, List.replicate e .invalid, false⟩ }

/-- What UnmountEmptiesTheStore asks of a store that is emptied. -/
def UnmountAsked (s : State) : Prop := NoRecording s ∧ s.store.storeLow = false ∧ s.store.lockNear = false

/-- A store in FAULT, and one SCANNING whose read is in flight, for UnmountEmptiesTheStore. -/
theorem witness_UnmountEmptiesTheStore_fault_scanning :
    let f := after (.cardRemoval 0) (shelf [closed1] 8)
    let s := scanned 0 false
    (Ready f ∧ UnmountAsked f ∧ f.store.state = .fault) ∧
    Ready s ∧ UnmountAsked s ∧ s.store.state = .scanning ∧ s.card.op.map CardOp.source = some .scan ∧
      s.store.scan.isSome = true := by
  unfold Ready LinkReady AtRest UnmountAsked NoRecording; decide +kernel

/-- A scan that gives way to a passthrough operation, and one given up, for UnmountEmptiesTheStore. -/
theorem witness_UnmountEmptiesTheStore_no_read :
    let s := (scanned 0 false).mapCard fun c =>
      { c with op := some ⟨.pass, 5, .read, 5, 1, 0, 250000, []⟩, slot := some ⟨3#8, .read, 5, 1, [], .inFlight⟩ }
    let g := (scanned 0 false).mapStore fun st => { st with scan := some ⟨0, false, [], true⟩ }
    (Ready s ∧ UnmountAsked s ∧ s.store.state = .scanning ∧ s.card.op.map CardOp.source = some .pass) ∧
    g.powered = true ∧ AtRest g ∧ UnmountAsked g ∧ g.store.state = .scanning ∧ g.card.state = .busy ∧
      g.card.op.map CardOp.source = some .scan ∧ g.card.updates = [] ∧ g.card.slot = none ∧ NotLate 0 g := by
  unfold Ready LinkReady AtRest UnmountAsked NoRecording NotLate; decide +kernel

theorem witness_ScanRebuildsTheStore :
    (∀ again, let s := scanned 0 again
      NotLate 9 s ∧ s.powered = true ∧ AtRest s ∧ NoRecording s ∧ s.card.state = .busy ∧ s.card.op.map CardOp.source = some .scan ∧
        s.card.updates = [] ∧ s.card.slot = none ∧ s.store.state = .scanning ∧ 0 + 1 < s.store.count ∧
        Unwatched condCardError s ∧ s.link.reports.length < 32 ∧ s.card.fails + 1 < 3) ∧
    ∀ again, let s := scanned 7 again
      AtRest s ∧ NoRecording s ∧ s.store.state = .scanning ∧ s.store.count ≤ 7 + 1 ∧
        Quiet (condStoreLow ||| condLockNear) s ∧ Unwatched condCardError s ∧ NotLate 9 s := by
  unfold AtRest NoRecording Unwatched Quiet NotLate; decide +kernel

/-- R87 and R88 over the findings of eight extents: clip 5's chain 0, 2 is cut at the final trailer, its duplicate of sequence
2 freed; clip 6 has no sequence 0; a short extent before a further one is weak; extent 7 is BAD. -/
theorem test_rebuild :
    let v (n q : Nat) (p : Option Nat) (data : Nat) (final : Bool) : Finding :=
      .valid ⟨n, q, p, data, final, false, ClipFlags.empty, 1, 2⟩
    let t := rebuild [v 5 0 none 100 false, v 6 1 (some 0) 9 true, v 5 1 (some 0) 16383 true, v 5 2 (some 2) 7 false,
      v 5 2 (some 2) 8 false, v 9 0 none 0 false, .invalid, .bad] (mounted 8)
    t.store.free = [1, 3, 4, 5, 6] ∧ t.store.nextClip = 10 ∧
      (t.store.index.map fun c => (c.number, c.extentCount, c.dataBlocks, c.lastExtent)) = [(5, 2, 16482, some 2)] ∧
      t.store.owned 0 = some ⟨true, 5, 0, some 2, 100⟩ ∧ t.store.extents[7]? = some .bad := by decide +kernel

/-- Entries by the supply and by the die tier. -/
theorem witness_EmergencyClosesTheRecording :
    let s := recording true 0
    let b := s.thermal.tab
    (s.powered = true ∧ s.thermal.deferred = none ∧ s.link.waitThermal = none ∧
      RecordingInto [closed1] (clip 9 .opened (some 1) (some 1) 1 4 .writing) s ∧ s.card.writing = true ∧
      s.trig.waiting = [] ∧ Quiet (condTierDerate ||| condTierLimit ||| condSupplyWarn ||| condHoldActive) s ∧
      s.thermal.supply = .normal) ∧
    (3200 < b.emergencyEntry ∧ s.thermal.tier = .clear ∧ 50 < b.riseDerate ∧ 50 < b.riseLimit ∧ 50 < b.riseCutoff) ∧
      b.emergencyEntry ≤ 4000 ∧ b.warnEntry ≤ 4000 ∧ b.riseDerate ≤ 300 ∧ b.riseLimit ≤ 300 ∧ b.riseCutoff ≤ 300 := by
  unfold RecordingInto StoreJudged Quiet; decide +kernel

/-- Clip 9 CLOSING in EMERGENCY, with the write `w` of it in flight and the blocks `buf` buffered. -/
def flushing (w : WWrite) (buf : List Block) : State :=
  let c := { clip 9 .closing (some 1) (some 1) 1 4 .writing with reason := some .power }
  let s := (shelf [closed1, c] 8).mapStore fun st =>
    { st with writer := .emergency, flush := some ⟨5, .power, 4, 0, 1, 0, 0⟩, extents := st.extents.set 1 (owned 9 0 none 4) }
  ((s.mapIntake fun i => { i with buffer := buf, bufCause := true, hold := true }).mapTrig fun t =>
    { t with conds := t.conds ||| condHoldActive }).mapCard fun k =>
    { k with state := .busy, op := some ⟨.writer w, 1, .write, 17388, 1, 0, 250000, []⟩ }

/-- The cut at the limit, and the end. -/
theorem witness_EmergencyClosesTheRecording_end :
    let c := { clip 9 .closing (some 1) (some 1) 1 4 .writing with reason := some .power }
    let asked (s : State) : Prop := s.powered = true ∧ AtRest s ∧ s.card.state = .busy ∧ s.card.updates = [] ∧
      s.card.slot = none ∧ s.store.state = .ready ∧ s.store.writer = .emergency ∧ s.store.index = [closed1] ++ [c] ∧
      s.store.retry = none ∧ s.store.scan = none ∧ StoreJudged s ∧ s.intake.packing = [] ∧ NotLate 2 s
    (let s := flushing (.burst 9 1 4 1 false true []) (blocks 9 3)
     asked s ∧ s.intake.buffer = blocks 9 1 ++ blocks 9 2 ∧ (s.store.flush.map fun f => (f.written + 1, f.limit)) = some (5, 5) ∧
      s.store.owned 1 = some ⟨false, 9, 0, none, 4⟩ ∧ s.store.chain c.extentCount c.firstExtent = [] ++ [1] ∧
      c.phase = .writing) ∧
    (let s := flushing (.finalTrailer 9 1) []
     asked s ∧ s.intake.buffer = [] ∧ s.store.tab.reserve ≤ s.store.free.length ∧ s.link.reports.length < 31 ∧
      s.link.answers.length < 16 ∧ s.store.tab.holdMark ≤ 8192 ∧ s.store.tab.releaseMark ≤ 8192 ∧
      ∀ n ∈ s.trig.entries, n.mask &&& condHoldActive = 0#16) := by
  unfold AtRest StoreJudged NotLate; decide +kernel

theorem witness_CardDetectChanges :
    (up.powered = true ∧ AtRest up ∧ up.card.state = .absent ∧ claimClasses up = [] ∧ up.link.reports.length < 32) ∧
    (AtRest (shelf [] 8) ∧ (shelf [] 8).card.state ≠ .absent ∧ (shelf [] 8).store.state = .ready) ∧
    (let s := after (.mount 0 1#8 (le 4 0 ++ le 2 8 ++ le 4 1 ++ le 1 1)) (unmounted .idle)
     s.powered = true ∧ s.card.state ≠ .absent ∧ s.store.state = .scanning) ∧
    (let s := busyShelf [closed1] 8
     AtRest s ∧ (s.card.slot.map Pass.progress) = some .inFlight ∧ s.link.answers.length < 16 ∧ s.store.state = .ready) ∧
    (let s := recording true 0
     s.powered = true ∧ s.card.state ≠ .absent ∧ s.store.state = .ready ∧ StoreJudged s ∧ s.link.reports.length + 1 + 1 < 32 ∧
      (s.store.index.filter fun c => c.state ≠ .closed).length = 1 ∧ (s.store.index.map Clip.number).Pairwise (· < ·)) ∧
    AtRest (unmounted .idle) ∧ (unmounted .idle).card.state ≠ .absent ∧ (unmounted .idle).store.state = .unmounted ∧
      NoRecording (unmounted .idle) := by
  unfold AtRest StoreJudged NoRecording; decide +kernel

theorem witness_ChargeDirectives :
    let f := up.mapCharge fun c => { c with state := .fault, reason := .overvoltage }
    let g := up.mapCharge fun c => { c with state := .fault, reason := .chargeTimeout }
    (Ready up ∧ (le 2 3001).length = 2 ∧ (100#8).toNat ≤ 100 ∧ up.charge.state ≠ .fault) ∧
    (Ready f ∧ f.charge.state = .fault ∧ f.link.reports.length < 32) ∧
    Ready g ∧ g.charge.state = .fault ∧ g.link.reports.length < 32 := by
  unfold Ready LinkReady AtRest; decide +kernel

theorem witness_PowerUpdateJudgesTheSupply :
    let tenth := up.mapCharge fun c => { c with updates := 9 }
    let waiting := after (.selectPage 0 1#8 [7#8, 1#8]) up
    (up.powered = true ∧ up.thermal.deferred = none ∧ (up.charge.updates + 1) % 10 ≠ 0) ∧
    (waiting.powered = true ∧ waiting.thermal.deferred = none ∧ waiting.link.waitThermal.isSome = true) ∧
    (tenth.powered = true ∧ tenth.thermal.deferred = none ∧ (tenth.charge.updates + 1) % 10 = 0) ∧
    ∀ s ∈ [up, tenth, waiting], AtRest s ∧ Quiet (condVinPresent ||| condTierDerate ||| condTierLimit ||| condSupplyWarn) s ∧
      s.store.writer = .idle ∧ s.link.reports.length < 30 := by
  unfold AtRest Quiet; decide +kernel

/-- A part on VIN whose evaluation is due, at battery temperature `x` with the die tier `t`. -/
def due (x : Int) (t : Tier) : State :=
  (up.mapCharge fun c => { c with evalDue := true, vin := true, ilimEff := some 500, meas := ⟨5000, 100, 3900, 0, x, 100⟩ }).mapThermal
    fun k => { k with tier := t }

/-- Each reason: INVALID at both ends, COLD, HOT, and a LIMIT or CUTOFF die; after a band and before any. -/
theorem witness_EvaluationSuspendsTheCharge :
    (∀ b ∈ [none, some Band.invalid, some .warm], let s := (due (-81) .clear).mapCharge fun c => { c with band := b }
      s.powered = true ∧ s.charge.evalDue = true ∧ s.thermal.deferred = none ∧ s.charge.vin = true ∧
        s.charge.state ≠ .fault ∧ s.charge.request ≠ 0) ∧
    ([due (-81) .clear, due 251 .clear, due (-1) .clear, due 120 .clear, due 60 .limit, due 60 .cutoff].map fun s =>
      ((after (.chargeEvaluation 0) s).charge.band, (after (.chargeEvaluation 0) s).charge.reason)) =
      [(some .invalid, .thermistor), (some .invalid, .thermistor), (some .cold, .batteryCold), (some .hot, .batteryHot),
       (some .standard, .dieLimit), (some .standard, .dieLimit)] ∧
    up.powered = true ∧ AtRest up ∧ up.charge.evalDue = false := by
  unfold AtRest; decide +kernel

/-- Each case of the state: VIN absent, FAULT, no request, and the moves of a charge permitted. -/
theorem witness_SetpointStaysWithinItsLimits :
    let s := due 60 .clear
    let fault := s.mapCharge fun c => { c with state := .fault }
    let idle := s.mapCharge fun c => { c with request := 0 }
    let dark := s.mapCharge fun c => { c with vin := false }
    let taper := s.mapCharge fun c => { c with state := .taper, setpoint := 200, termCount := 2 }
    (s.powered = true ∧ s.charge.evalDue = true ∧ s.charge.vin = true ∧ s.charge.state ≠ .fault ∧ s.charge.request ≠ 0 ∧
      s.thermal.tier = .clear ∧ s.thermal.deferred = none) ∧
    ((after (.chargeEvaluation 0) s).charge.state = .fast ∧ fault.charge.state = .fault ∧ idle.charge.request = 0 ∧
      dark.charge.vin = false) ∧
    taper.charge.state = .taper ∧ (after (.chargeEvaluation 0) taper).charge.state = .done := by decide +kernel

/-- A due evaluation at 6 °C in the charge state `st`, at the battery voltage `v`, with both timers at `n`. -/
def timed (st : ChargeState) (v n : Nat) : State :=
  (due 60 .clear).mapCharge fun c =>
    { c with state := st, band := some .standard, preTimer := n, chargeTimer := n, meas := ⟨5000, 100, v, 0, 60, 100⟩ }

/-- What SafetyTimeoutFaultsTheCharge asks of every case. -/
def SafetyAsked (s : State) : Prop :=
  (s.powered = true ∧ s.charge.evalDue = true ∧ s.thermal.deferred = none ∧ s.thermal.tier = .clear ∧
    s.link.waitCharge = none ∧ s.charge.vin = true ∧ s.charge.ilimEff = some 500 ∧ AtRest s) ∧
  s.charge.band = some .standard ∧ 25 ≤ s.charge.request ∧ 0 < s.charge.tab.step ∧ 50 ≤ s.charge.tab.currentOf .standard ∧
    s.charge.meas.vbat ≤ s.charge.tab.voltageOf .standard + 100 ∧ s.charge.tab = fixedCharge ∧
    25 ≤ (s.charge.regulatedLimit s.charge.tab 500 : Int) - (100 - max 0 0) - s.charge.tab.headroom

/-- PRECHARGE, FAST and TAPER at the evaluation that reaches their limit, and at the one before it. -/
theorem witness_SafetyTimeoutFaultsTheCharge :
    (∀ s ∈ [timed .precharge 2900 17999, timed .precharge 2900 17998, timed .fast 3900 179999, timed .fast 3900 179998,
        timed .taper 3900 179999], SafetyAsked s) ∧
    fixedCharge.prechargeTimeout * 600 = 17999 + 1 ∧ 2900 < fixedCharge.prechargeThreshold + 100 ∧
      fixedCharge.chargeTimeout * 600 = 179999 + 1 ∧ (timed .taper 3900 179999).charge.termAfter fixedCharge ≠ 3 := by
  unfold SafetyAsked AtRest; decide +kernel

/-- The temperature of the witness above lies in STANDARD, which permits a charge. -/
theorem witness_SafetyTimeoutFaultsTheCharge_band :
    PlainBand fixedCharge 60 .standard ∧ Band.permits .standard := by
  unfold PlainBand Band.permits; decide +kernel

theorem witness_BandOffsetsAreClamped :
    let b (dx dy : Int) := clampBand geometry 8 dx dy none
    ((geometry.wIn - geometry.wOut) / 2 = 192 ∧ (geometry.hIn - geometry.hOut) / 2 = 108) ∧ (b 192 108).dx = 192 ∧
      (b 193 109).dx = 192 ∧ (b (-193) (-109)).dy = -108 ∧ ({ frameRecord 0 0 with mode := .off } : FrameRec).mode = .off := by
  decide +kernel

/-- STEADY and ECO frames, and a band before it from which the slew holds the offset back either way, or does not, for
BandOffsetsAreClamped. -/
theorem witness_BandOffsetsAreClamped_slew :
    let y := (clampBand geometry (frameRecord 0 0).slewEff 0 (-244) none).dy
    (frameRecord 0 0).mode = .steady ∧ ({ frameRecord 0 0 with mode := .eco } : FrameRec).mode = .eco ∧
      (frameRecord 0 0).slewEff = 8 ∧ y < -90 - 8 ∧ (-116 - 8 ≤ y ∧ y ≤ -116 + 8) ∧ -117 + 8 < y := by decide +kernel

theorem witness_TriggerEntriesFire :
    State.reset.link.awake = false ∧ (after (.rstinAssertion 0) up).motion.checking = true ∧
      (after (.rstinAssertion 0) up).link.awake = true ∧ up.link.awake = true ∧ up.motion.checking = false ∧
      (fixedTriggers[0]?.isSome = true ∧ ([false] : List Bool)[0]? = some false) := by decide +kernel

/-- Each action where it has no effect, is refused and acts, for TriggerActionsAct. -/
theorem witness_TriggerActionsAct :
    let s := recording true 0
    let full := (shelf [{ closed1 with locked := true }] 8).mapStore fun st => { st with free := [], storeLow := true }
    (up.intake.record = none ∧ up.store.writer ≠ .recording ∧ up.store.state ≠ .ready ∧ up.store.openClip = none) ∧
    (s.store.writer = .recording ∧ s.intake.record = some ⟨9, true, none, false, false⟩ ∧
      (splitting true []).store.writer = .recording ∧
      (splitting true []).intake.record = some ⟨9, true, none, false, true⟩) ∧
    (finishing.store.state = .ready ∧ finishing.thermal.supply ≠ .emergency ∧ finishing.thermal.tier ≠ .cutoff ∧
      finishing.store.writer = .stopping) ∧
    (full.store.state = .ready ∧ full.store.writer = .idle ∧ StoreJudged full ∧ full.store.free = [] ∧
      ∀ c ∈ full.store.index, c.state = .closed → c.locked = true) ∧
    (let e := shelf [] 8
     e.store.state = .ready ∧ e.thermal.supply ≠ .emergency ∧ e.thermal.tier ≠ .cutoff ∧ NoRecording e ∧ StoreJudged e ∧
      e.store.index.length < 512 ∧ e.store.nextClip < 4294967296 ∧ e.store.free ≠ []) ∧
    judgeHold s = s ∧ RecordingInto [closed1] (clip 9 .opened (some 1) (some 1) 1 4 .writing) s := by
  unfold StoreJudged NoRecording RecordingInto StoreJudged; decide +kernel

/-- STOP of a clip with nothing written, and LOCK of a clip younger than the pre-lock window, of an older one, and of the only
one, for TriggerActionsAct. -/
theorem witness_TriggerActionsAct_removed_locked :
    (let s := (shelf [closed1, clip 9 .opened none none 0 0 .none] 8).mapStore fun st => { st with writer := .recording }
     judgeHold s = s ∧ s.store.state = .ready ∧ s.store.writer = .recording ∧ s.store.flush = none ∧
      closed1.state = .closed ∧ closed1.number ≠ 9 ∧ s.intake.buffer = [] ∧ s.intake.packing = [] ∧
      s.card.updates = [] ∧ StoreJudged s) ∧
    ∀ s ∈ [recording true 0, { recording true 0 with partTime := 10000000 },
        (recording true 0).mapStore fun st => { st with index := st.index.drop 1 }],
      s.store.openClip = some (clip 9 .opened (some 1) (some 1) 1 4 .writing) ∧ StoreJudged s ∧
        s.store.tab.reserve ≤ s.store.free.length ∧ (s.store.index.map Clip.number).Pairwise (· < ·) ∧
        (s.store.index = [clip 9 .opened (some 1) (some 1) 1 4 .writing] ∨
          s.store.index = [closed1, clip 9 .opened (some 1) (some 1) 1 4 .writing]) ∧
        1000000 * s.store.tab.preLock = 10000000 := by
  unfold StoreJudged; decide +kernel

/-- Table 7-4, the order taken within one sample: SHOCK fires a LOCK that raises LOCK_NEAR, and FREEFALL falls in the same
sample. Entry 2, at the fall, marks before entry 1, at LOCK_NEAR. -/
theorem test_changes_of_one_sample :
    let s := { recording true 0 with
      motion := { (tracking 1009375 251).motion with freefall := true, freefallRun := some 0 }, partTime := 1009375 }
    let watched := (s.mapStore fun st => { st with quota := 1, quotaEff := 1 }).mapTrig fun t =>
      { t with conds := t.conds ||| condFreefall, last := [false, false, false],
               entries := [⟨true, condShock, .rise, .lock⟩, ⟨true, condLockNear, .rise, .mark⟩,
                           ⟨true, condFreefall, .fall, .mark⟩] }
    let t := after (.sampleTaken 0 ⟨251#8, 0#16, 0#16, 0#16, 32000#16, 32000#16, 32000#16⟩) watched
    (t.store.index.map fun c => (c.locked, c.markers.map Marker.kind)) = [(false, []), (true, [3, 2])] := by decide +kernel

theorem witness_TrailerReadsBackAsWritten :
    let t : TrailerInfo := ⟨4294967295, 0, none, 16383, true, true, ClipFlags.empty, 18446744073709551615, 18446744073709551615⟩
    (4294967295 < 4294967296 ∧ t.clip < 4294967296 ∧ t.seq < 16384 ∧ t.data ≤ 16383 ∧ t.start < 18446744073709551616 ∧
      t.duration < 18446744073709551616 ∧ t.prev = none) ∧
    (let u := { t with seq := 16383, prev := some 16383 }
     u.seq < 16384 ∧ u.seq ≠ 0 ∧ ∃ q ∈ u.prev, q < 16384) := by decide +kernel

/-- R63, R185: SLEEP in an OPEN frame whose room is open sends the answer, the frame's rows and its trailer, and the drain
ends. -/
theorem test_sleep_in_a_frame :
    let t := after (.sleep 0 7#8 [0#8]) opened
    (rowsOf t.captureOut).length = 180 ∧ t.captureOut.length = 182 ∧
      t.captureOut.head? = some (.packet (Answer.encode ⟨7#8, 2#8, .ok, []⟩)) ∧
      t.captureOut.getLast? ∉ (rowsOf t.captureOut).map some ∧ t.frame.trailer = none ∧
      t.link.awake = false ∧ t.link.drain = false := by decide +kernel

/-- R57: band 0 lies one line up, so row 0 was cut from line 0 and sent; row 1 wants line 1, which never came, so the three rows
left copy row 0, and band 1 takes the offsets of band 0 with its not-decided flag alone, though band 0 was clamped. -/
theorem test_short_frame_copies_its_last_row :
    let t := after (.frameEndMarker 0) (cutShort halfDecided 1 (some [5, 6, 7, 8]) up)
    t.captureOut = List.replicate 3 (.row [5, 6, 7, 8]) ++
      [.packet (Trailer.encode ⟨7, 9#16, 3, .steady, 0,
        [⟨true, 0, -1, false, true, false, false⟩, ⟨false, 0, -1, false, false, false, true⟩], 1, 2, 3⟩)] := by decide +kernel

/-- R57: with no band decided and no row sent, the rows are zeros and the bands 0. -/
theorem test_short_frame_of_no_row_is_zeros :
    let u : BandRec := ⟨false, 0, 0, false, false, false, true⟩
    let t := after (.frameEndMarker 0) (cutShort (List.replicate 2 ⟨false, 0, 0, false, false, false, false⟩) 0 none up)
    t.captureOut = List.replicate 4 (.row [0, 0, 0, 0]) ++
      [.packet (Trailer.encode ⟨7, 9#16, 3, .steady, 0, [u, u], 1, 2, 3⟩)] := by decide +kernel

/-- R59, R70, R190: the trailer of a two-band frame is a MOTION packet of 12 + 29 + 5 × 2 bytes behind the packing block's byte;
before the first sync, and with no clip OPEN, there is none. -/
theorem test_motion_packet_of_a_trailer :
    let ended (s : State) := (after (.frameEndMarker 0) (cutShort halfDecided 1 none s)).intake.packing
    ((ended (recording true 0)).take 5 = [1#8, 3#8, 0#8, 39#8, 0#8] ∧ (ended (recording true 0)).length = 52) ∧
      ended (recording false 0) = [1#8] ∧ ended up = [] := by decide +kernel

/-- Table 6-3, row 3: beside the writer's own burst in flight, with the occupancy at the urgent mark, a trailer update and
a passthrough directive waiting, the claims pending are 2, 3 and 5. -/
theorem test_claims_beside_a_write :
    let s := ((recording true 0).mapStore fun st => { st with tab := { st.tab with urgentMark := 3 } }).mapCard fun k =>
      { k with updates := [⟨1, false, false⟩], slot := some ⟨1#8, .read, 5, 1, [], .pending⟩ }
    pendingClasses s = [2, 3, 5] := by decide +kernel

/-- R121: the cut of a flush cancels the retry of a burst and leaves that of a trailer. -/
theorem test_cut_leaves_a_trailers_retry :
    let s (w : WWrite) := (flushing w (blocks 9 3)).mapStore fun st => { st with retry := some w }
    (cutFlush (s (.burst 9 1 4 1 false false []))).store.retry = none ∧
      (cutFlush (s (.fullTrailer 9 1))).store.retry = some (.fullTrailer 9 1) := by decide +kernel

/-- R116: the completion that comes together with the timeout, after it, is the late one of the operation that has ended: the
retry stays in flight, and the next completion is the retry's. -/
theorem test_late_completion_is_ignored :
    let t := after (.cardTimeout 750000) inBurst
    let u := after (.cardOpCompletion 0 true []) t
    u.card.op = t.card.op ∧ u.card.fails = 1 ∧ u.intake.buffer.length = 600 ∧
      (after (.cardOpCompletion 1 true []) u).intake.buffer.length = 600 - 256 := by decide +kernel

/-- R121, R122: at E = 0 a burst given up leaves its extent weak, and the weak trailer is written before the final trailer. R108,
R122: the blocks of a burst in flight at the entry, failed and tried once more, do not count against E. -/
theorem test_burst_in_flight_at_the_entry :
    let w : WWrite := .burst 9 1 4 1 false false []
    let source (s : State) := s.card.op.map CardOp.source
    (let s := (flushing w (blocks 9 3)).mapStore fun st =>
       { st with retry := some w, flush := some ⟨0, .power, 0, 0, 0, 0, 0⟩ }
     let t := after (.cardOpCompletion 0 false []) s
     source t = some (.writer (.weakTrailer 9 1)) ∧ t.intake.buffer = [] ∧
      source (after (.cardOpCompletion 0 true []) t) = some (.writer (.finalTrailer 9 1))) ∧
    (let t := runs [.cardOpCompletion 0 false [], .cardOpCompletion 0 true []] (flushing w (blocks 9 3))
     t.store.flush.map Flush.written = some 4 ∧ t.intake.buffer.length = 2) := by decide +kernel

/-- R168: at the change from NORMAL to EMERGENCY the writer has left RECORDING when a trigger START fires, which is REFUSED with
STATE (LOG 64). -/
theorem test_start_at_the_emergency_entry :
    let s := (inFrame (recording true 0)).mapTrig fun t =>
      { t with entries := ⟨true, condSupplyWarn, .rise, .start⟩ :: fixedTriggers.drop 1 }
    let t := after (.powerUpdate 0 ⟨4200, 0, 3200, 0, 50, 50⟩ true false) s
    t.store.writer = .emergency ∧ payloads t =
      [.supply .emergency .normal 3200, .trigger 0 .start .refused .state 0 .noEffect .ok 0] := by decide +kernel

/-- R157: a restart that cleared an OVERVOLTAGE enters the persisting overvoltage again (LOG 47). R147, case 5: one that
cleared a CHARGE_TIMEOUT gives DONE at the same voltage. R148: a charge timeout in TAPER leaves the termination count 0. -/
theorem test_restart_and_timeout :
    (let s (r : ChargeReason) := after (.chargeRestart 0 1#8 []) (up.mapCharge fun c =>
       { c with state := .fault, reason := r, vin := true, ilimEff := some 500, evalDue := true,
                meas := ⟨5000, 100, 4301, 0, 60, 100⟩ })
     let u (r : ChargeReason) := (after (.chargeEvaluation 0) (s r)).charge
     (u .overvoltage).state = .fault ∧ (u .overvoltage).reason = .overvoltage ∧ (u .chargeTimeout).state = .done) ∧
    (let c := (({ fast 2000 500 ⟨5000, 100, 4190, 50, 60, 100⟩ with
       state := .taper, termCount := 1, chargeTimer := 179999 }).evaluated .clear).1
     c.state = .fault ∧ c.reason = .chargeTimeout ∧ c.termCount = 0) := by decide +kernel

/-- A part that records, with STOP RECORDING waiting. -/
def busyPart : State := { recording true 3 with pending := [.stopRecording 1 9#8 []] }

/-- The step of `busyPart`, which answers next. -/
theorem test_step_of_busyPart :
    step busyPart = .next (after (.stopRecording 1 9#8 []) { busyPart with pending := [] }) ∧
      (after (.stopRecording 1 9#8 []) { busyPart with pending := [] }).store.writer = .stopping :=
  ⟨rfl, by decide +kernel⟩

theorem witness_StepKeepsQueuesAndHold :
    ReportsBounded busyPart ∧ AnswersBounded busyPart ∧ RingsBounded busyPart ∧ HoldFollows busyPart ∧
      BufferBounded busyPart := by
  unfold ReportsBounded AnswersBounded RingsBounded HoldFollows BufferBounded; decide +kernel

/-- An emergency close with a locked record beside the CLOSING one. -/
def emergencyPart : State :=
  ((flushing (.finalTrailer 9 1) []).mapStore fun st =>
    { st with index := st.index.map fun c => if c.number = 1 then { c with locked := true } else c }).mapThermal fun t =>
    { t with supply := .emergency }

theorem witness_StepKeepsStoreBounds :
    (∀ s ∈ [busyPart, emergencyPart], StoreBounded s ∧ ClipsOrdered s) ∧
    (∀ s ∈ [busyPart, emergencyPart], NoneOpenUnderEmergency s ∧ LocksWithinQuota s) ∧
      emergencyPart.thermal.supply = .emergency ∧ 0 < emergencyPart.store.lockedExtents := by
  unfold StoreBounded ClipsOrdered NoneOpenUnderEmergency LocksWithinQuota; decide +kernel

/-- A recording whose extents and blocks are all in their places, with STOP RECORDING waiting. -/
def soundPart : State :=
  { (bursting 4 false).mapStore fun st =>
      { st with index := [{ closed1 with lastExtent := some 0, extentCount := 1 }, clip 9 .opened (some 1) (some 1) 1 4 .writing],
                extents := st.extents.set 0 (owned 1 0 none 16383) } with pending := [.stopRecording 1 9#8 []] }

theorem witness_StepKeepsExtentsPlaced :
    StoreBounded soundPart ∧ ClipsOrdered soundPart ∧ StoreSound soundPart ∧ ExtentsPlaced soundPart ∧
      step soundPart = .next (after (.stopRecording 1 9#8 []) { soundPart with pending := [] }) := by
  refine ⟨?_, ?_, ?_, ?_, rfl⟩
  · unfold StoreBounded; decide +kernel
  · unfold ClipsOrdered; decide +kernel
  · refine ⟨by decide +kernel, by decide +kernel, by decide +kernel, fun w h => ?_, by decide +kernel⟩
    rw [show soundPart.writes = [.burst 9 1 4 1 false false []] from rfl, List.mem_singleton] at h
    subst h
    unfold WriteStands; decide +kernel
  · unfold ExtentsPlaced Placed; decide +kernel

theorem witness_StepKeepsRanges :
    BiasInRange busyPart ∧ EffectiveMode busyPart ∧ InputLimitBounded busyPart ∧ GaugeBounded busyPart ∧
      SetpointAllowed busyPart ∧ CountersBounded busyPart ∧ TablesSized busyPart := by
  refine ⟨?_, ?_, ⟨by decide +kernel, by decide +kernel, trivial⟩, ?_, ?_, ?_, ?_⟩
  · unfold BiasInRange inBiasRange; decide +kernel
  · unfold EffectiveMode; decide +kernel
  · unfold GaugeBounded; decide +kernel
  · unfold SetpointAllowed; decide +kernel
  · unfold CountersBounded; decide +kernel
  · unfold TablesSized; decide +kernel

end Sys2Proof.Tests
end

/-! PROOF. What the work of the store, the card and the Trigger Unit's actions is made of: one relation, closed under the
primitive moves that every such operation makes, and one lemma for each operation. An invariant of that work is then an
induction over the primitive moves. -/

namespace Sys2Proof.Machine

/-- `t` follows from `a` by primitive moves of the store, the card and the Trigger Unit's actions, and by moves `R` besides. -/
inductive Worked (R : State → State → Prop) (a : State) : State → Prop
  | start : Worked R a a
  | extra {s t : State} : R s t → Worked R a s → Worked R a t
  | mapStore {s : State} (f : Store → Store) : (∀ st, (f st).quotaEff = st.quotaEff) → Worked R a s → Worked R a (s.mapStore f)
  | mapCard {s : State} (f : Card → Card) : Worked R a s → Worked R a (s.mapCard f)
  | mapIntake {s : State} (f : Intake → Intake) : Worked R a s → Worked R a (s.mapIntake f)
  | notify {s : State} (c : Change) : c.mask &&& ~~~(condStoreLow ||| condLockNear ||| condHoldActive) = 0#16 →
      Worked R a s → Worked R a (notify c s)
  | hold {s : State} (x : Option Answer) : Worked R a s → Worked R a (s.mapLink fun l => { l with held := x })
  | report {s : State} (p : Payload) : Worked R a s → Worked R a (report p s)
  | answer {s : State} (x : Answer) : Worked R a s → Worked R a (enqueueAnswer x s)
  | retried {s : State} : Worked R a s →
      Worked R a (s.mapCounters fun c => { c with cardRetries := satAdd c.cardRetries 1 })
  | reclaimed {s : State} : Worked R a s →
      Worked R a (s.mapCounters fun c => { c with reclaimedClips := satAdd c.reclaimedClips 1 })
  | emergency {s : State} : Worked R a s →
      Worked R a (s.mapCounters fun c => { c with emergencyCloses := satAdd c.emergencyCloses 1 })

section
variable {R : State → State → Prop} {a s : State} (h : Worked R a s)
include h

theorem worked_foldl {α : Type} {f : State → α → State} (hf : ∀ s x, Worked R a s → Worked R a (f s x)) (l : List α) :
    Worked R a (l.foldl f s) := by
  induction l generalizing s with
  | nil => exact h
  | cons x l ih => exact ih (hf s x h)

theorem worked_ite {c : Prop} [Decidable c] {t : State} (ht : Worked R a t) : Worked R a (if c then s else t) := by
  split
  · exact h
  · exact ht

/-! ### Store, card and intake -/

@[simp] theorem worked_mapStore {f : Store → Store} (hf : ∀ st, (f st).quotaEff = st.quotaEff) :
    Worked R a (s.mapStore f) := .mapStore f hf h
@[simp] theorem worked_mapCard (f : Card → Card) : Worked R a (s.mapCard f) := .mapCard f h
@[simp] theorem worked_mapIntake (f : Intake → Intake) : Worked R a (s.mapIntake f) := .mapIntake f h
@[simp] theorem worked_report (p : Payload) : Worked R a (report p s) := .report p h
@[simp] theorem worked_enqueueAnswer (x : Answer) : Worked R a (enqueueAnswer x s) := .answer x h
@[simp] theorem worked_answer (d : Nat) (t : Byte) (c : AnswerCode) (b : Bytes) : Worked R a (answer d t c b s) := .answer _ h
@[simp] theorem worked_judgeHold : Worked R a (judgeHold s) := by
  have hi := worked_mapIntake h fun i =>
    { i with bufCause := bufCauseNow s, ansCause := ansCauseNow s, hold := bufCauseNow s || ansCauseNow s }
  unfold judgeHold; dsimp only; split
  · exact hi
  · exact .notify _ (show condHoldActive &&& _ = 0#16 by decide) hi
@[simp] theorem worked_updateClip (n : Nat) (f : Clip → Clip) : Worked R a (updateClip n f s) :=
  worked_mapStore h fun _ => rfl
@[simp] theorem worked_updateOwned (i : Nat) (f : Owned → Owned) : Worked R a (updateOwned i f s) :=
  worked_mapStore h fun _ => rfl
@[simp] theorem worked_judgeStore : Worked R a (judgeStore s) := by
  have hn : ∀ x y : Bool, (condIf condStoreLow x ||| condIf condLockNear y) &&&
      ~~~(condStoreLow ||| condLockNear ||| condHoldActive) = 0#16 := by decide
  have ht : Worked R a (if storeLowNow s && storeLowNow s != s.store.storeLow then
      report (.storeLow s.store.free.length s.store.lockedExtents)
        (s.mapStore fun st => { st with storeLow := storeLowNow s, lockNear := lockNearNow s })
      else s.mapStore fun st => { st with storeLow := storeLowNow s, lockNear := lockNearNow s }) := by
    split <;> simp [h]
  unfold judgeStore; dsimp only
  by_cases hc : ((storeLowNow s != s.store.storeLow) || (lockNearNow s != s.store.lockNear)) = true
  · rw [if_pos hc]; exact .notify _ (hn _ _) ht
  · rw [if_neg hc]; exact ht
@[simp] theorem worked_releaseExtent (i : Nat) : Worked R a (releaseExtent s i) := by
  unfold releaseExtent; split
  · split <;> simp [h]
  · exact h
@[simp] theorem worked_withdrawUpdates (n : Nat) : Worked R a (withdrawUpdates n s) := by
  simp [withdrawUpdates, h]
@[simp] theorem worked_dropClip (c : Clip) : Worked R a (dropClip c s) := by
  have hr := worked_foldl h (f := releaseExtent) (fun _ i h => worked_releaseExtent h i) (s.store.chain c.extentCount c.firstExtent)
  exact worked_judgeStore (worked_withdrawUpdates (worked_mapStore hr fun _ => by rfl) _)
@[simp] theorem worked_reclaim (c : Clip) : Worked R a (reclaim c s) := .reclaimed (worked_dropClip h c)
@[simp] theorem worked_reclaimUntil (w n : Nat) : Worked R a (reclaimUntil w n s) := by
  induction n generalizing s with
  | zero => exact h
  | succ n ih =>
    unfold reclaimUntil; split
    · split
      · exact ih (worked_reclaim h _)
      · exact h
    · exact h
@[simp] theorem worked_discardBlocks (n : Nat) : Worked R a (discardBlocks n s) := worked_mapIntake h _
@[simp] theorem worked_discardPacking : Worked R a (discardPacking s) := worked_mapIntake h _
@[simp] theorem worked_reportClosed (c : Clip) (b : Bool) : Worked R a (reportClosed c b s) := worked_report h _
@[simp] theorem worked_countFlush (f : Flush → Flush) : Worked R a (countFlush f s) := worked_mapStore h fun _ => rfl
@[simp] theorem worked_removeClip (n : Nat) : Worked R a (removeClip n s) := by
  unfold removeClip; split
  · exact worked_countFlush (worked_dropClip (worked_reportClosed h _ _) _) _
  · exact h
@[simp] theorem worked_closeClip (n : Nat) : Worked R a (closeClip n s) := by
  unfold closeClip; dsimp only; split
  · exact worked_countFlush (worked_reportClosed (worked_updateClip h _ _) _ _) _
  · exact worked_updateClip h _ _
@[simp] theorem worked_reapEmpty : Worked R a (reapEmpty s) := worked_foldl h (fun _ n h => worked_removeClip h n) _
@[simp] theorem worked_restWriter : Worked R a (restWriter s) := by
  unfold restWriter; split
  · exact h
  · split
    · simp [h]
    · have hw := worked_mapStore h (f := fun st => { st with writer := .idle, flush := none }) fun _ => rfl
      dsimp only; split
      · exact worked_judgeHold (worked_report hw _)
      · exact worked_judgeHold hw
    · exact h
@[simp] theorem worked_completePacking (c : Nat) : Worked R a (completePacking c s) := by
  unfold completePacking; split <;> simp [h]
@[simp] theorem worked_updateIntake (f : IntakeRec → IntakeRec) : Worked R a (updateIntake f s) := worked_mapIntake h _

/-! ### Opening and closing clips -/

@[simp] theorem worked_endIntake : Worked R a (endIntake s) := worked_mapIntake h _
@[simp] theorem worked_closeOpen (r : CloseReason) : Worked R a (closeOpen r s) := by
  unfold closeOpen; split
  · exact worked_endIntake (worked_completePacking (worked_updateClip h _ _) _)
  · exact worked_endIntake h
@[simp] theorem worked_setWriter (w : WriterState) : Worked R a (setWriter w s) := worked_mapStore h fun _ => rfl
@[simp] theorem worked_afterClose : Worked R a (afterClose s) :=
  worked_judgeStore (worked_judgeHold (worked_restWriter (worked_reapEmpty h)))
@[simp] theorem worked_stopRecording (r : CloseReason) : Worked R a (stopRecording r s) := by
  unfold stopRecording; split
  · exact worked_afterClose (worked_setWriter (worked_closeOpen h r) _)
  · exact h
@[simp] theorem worked_enterEmergency (r : CloseReason) : Worked R a (enterEmergency r s) := by
  unfold enterEmergency; split
  · exact worked_afterClose (worked_judgeHold (worked_mapStore (worked_setWriter (worked_closeOpen (.emergency h) r) _)
      fun _ => by rfl))
  · exact h
@[simp] theorem worked_openingTest : Worked R a (openingTest s).2 := by
  unfold openingTest; dsimp only; split
  · split <;> simp [h]
  · exact h
@[simp] theorem worked_openRecord (t : Nat) (st : ClipState) (k : Bool) (r : Option CloseReason) :
    Worked R a (openRecord t st k r s) := by simp [openRecord, h]
@[simp] theorem worked_freshIntake (n : Nat) : Worked R a (freshIntake n s) := worked_mapIntake h _
@[simp] theorem worked_startStall : Worked R a (startStall s) := worked_mapIntake h _
@[simp] theorem worked_startRecording (t : Nat) : Worked R a (startRecording t s).2 := by
  unfold startRecording; split
  · exact h
  · split
    · exact h
    · split
      · exact h
      · have ho := worked_openingTest h
        dsimp only; split
        · exact worked_judgeStore (worked_startStall (worked_freshIntake (worked_setWriter
            (worked_openRecord ho _ _ _ _) _) _))
        · exact worked_judgeStore ho
@[simp] theorem worked_addMarker (k : Nat) : Worked R a (addMarker k s).2.2 := by
  unfold addMarker; split
  · exact h
  · split <;> simp [h]
@[simp] theorem worked_enqueueUpdate (n : Nat) : Worked R a (enqueueUpdate n s) := by
  unfold enqueueUpdate; split <;> simp [h]
@[simp] theorem worked_setLock (c : Clip) (v : Bool) : Worked R a (setLock c v s) := by
  have hc := worked_updateClip h c.number fun c => { c with locked := v }
  unfold setLock; dsimp only; split
  · exact worked_judgeStore (worked_enqueueUpdate hc _)
  · exact worked_judgeStore hc
@[simp] theorem worked_lockRecord (c : Clip) : Worked R a (lockRecord c s).2 := by
  unfold lockRecord; split
  · exact h
  · split
    · simp [h]
    · split <;> simp [h]

/-! ### The writer -/

@[simp] theorem worked_closeBehind : Worked R a (closeBehind s) := by
  unfold closeBehind; split
  · exact worked_endIntake (worked_discardPacking (worked_discardBlocks (worked_updateClip h _ _) _))
  · exact h
@[simp] theorem worked_stopWriter : Worked R a (stopWriter s) := by
  unfold stopWriter; split <;> simp [h]
/-- The intake of a clip that closes for want of room ends, or a clip OPEN behind it closes, and the writer stops. -/
theorem worked_closeFor (c : Clip) : Worked R a
    (afterClose (stopWriter (if c.state = .opened then endIntake (discardPacking s) else closeBehind s))) := by
  split
  · exact worked_afterClose (worked_stopWriter (worked_endIntake (worked_discardPacking h)))
  · exact worked_afterClose (worked_stopWriter (worked_closeBehind h))
@[simp] theorem worked_fullClose (c : Clip) : Worked R a (fullClose c s) :=
  worked_closeFor (worked_updateClip (worked_discardBlocks h _) _ _) c
@[simp] theorem worked_retag (m n : Nat) : Worked R a (retag m n s) := worked_mapIntake h _
@[simp] theorem worked_continueIntake (n : Nat) : Worked R a (continueIntake n s) := by simp [continueIntake, h]
@[simp] theorem worked_quotaClose (c : Clip) : Worked R a (quotaClose c s) := by
  have hu := worked_updateClip h c.number (setClosing .lockQuota)
  have hc : Worked R a (if c.extentCount = 0 then removeClip c.number (updateClip c.number (setClosing .lockQuota) s)
      else updateClip c.number (setClosing .lockQuota) s) := by
    split
    · exact worked_removeClip hu _
    · exact hu
  have ho := worked_openingTest hc
  unfold quotaClose; dsimp only
  by_cases ht : (openingTest (if c.extentCount = 0 then removeClip c.number (updateClip c.number (setClosing .lockQuota) s)
      else updateClip c.number (setClosing .lockQuota) s)).1 = true
  · rw [if_pos ht]
    have hr := worked_retag (worked_openRecord ho c.start c.state true c.reason) c.number
    split
    · exact worked_afterClose (worked_continueIntake (hr _) _)
    · exact worked_afterClose (hr _)
  · rw [if_neg ht]
    exact worked_closeFor (worked_updateClip (worked_discardBlocks ho _) _ _) c
@[simp] theorem worked_cancelBurst (n : Nat) : Worked R a (cancelBurst n s) := worked_mapStore h fun _ => rfl
@[simp] theorem worked_dropOrphan : Worked R a (dropOrphan s) := worked_mapStore h fun _ => rfl
@[simp] theorem worked_cutFlush : Worked R a (cutFlush s) := by
  unfold cutFlush; dsimp only; split
  · exact h
  · exact worked_dropOrphan (worked_afterClose (worked_mapIntake (worked_cancelBurst (worked_countFlush
      (worked_updateClip h _ _) _) _) _))
@[simp] theorem worked_chainExtent (c : Clip) (e : Nat) : Worked R a (chainExtent c e s) := by
  unfold chainExtent; dsimp only; split
  · exact worked_updateClip (worked_mapStore (worked_updateOwned h _ _) fun _ => by rfl) _ _
  · exact worked_updateClip (worked_mapStore h fun _ => by rfl) _ _
@[simp] theorem worked_allocate (c : Clip) : Worked R a (allocate c s) := by
  have hr := worked_reclaimUntil h 1 s.store.index.length
  unfold allocate; split
  · split <;> simp [h]
  · dsimp only; split
    · split
      · exact worked_cutFlush hr
      · exact worked_fullClose hr c
    · exact worked_reclaimUntil (worked_judgeStore (worked_chainExtent hr c _)) _ _

/-! ### The card's claims -/

@[simp] theorem worked_clearRetry : Worked R a (clearRetry s) := worked_mapStore h fun _ => rfl
@[simp] theorem worked_startOp (o : OpSource) (c : Nat) (k : OpKind) (x n : Nat) (d : Bytes) :
    Worked R a (startOp o c k x n d s) := worked_mapCard h _
@[simp] theorem worked_countRetry (b : Bool) : Worked R a (countRetry b s) := by
  unfold countRetry; split
  · exact .retried h
  · exact h
@[simp] theorem worked_startTrailer (w : WWrite) (c n e d : Nat) (f : Bool) : Worked R a (startTrailer w c n e d f s) := by
  unfold startTrailer; split <;> simp [h]
@[simp] theorem worked_startWriter (c : Nat) (w : WWrite) : Worked R a (startWriter c w s) := by
  have hc := worked_countRetry h s.store.retry.isSome
  unfold startWriter; dsimp only; split <;> simp [hc]
@[simp] theorem worked_popUpdate : Worked R a (popUpdate s) := worked_mapCard h _
@[simp] theorem worked_startUpdate : Worked R a (startUpdate s) := by
  unfold startUpdate; split
  · exact h
  · split
    · simp [h]
    · split
      · simp [h]
      · exact worked_startOp (worked_countRetry (worked_mapCard h _) _) _ _ _ _ _ _
@[simp] theorem worked_startScan : Worked R a (startScan s) := by
  unfold startScan; split <;> simp [h]
@[simp] theorem worked_passAnswer (c : AnswerCode) (d : Bytes) : Worked R a (passAnswer c d s) := by
  unfold passAnswer; split
  · exact h
  · dsimp only; split
    · exact worked_mapCard (.hold _ h) _
    · simp [h]
@[simp] theorem worked_startPass : Worked R a (startPass s) := by
  unfold startPass; split
  · exact h
  · split <;> simp [h]
@[simp] theorem worked_startClaim : Worked R a (startClaim s) := by
  unfold startClaim; split
  · exact h
  · simp [h]
  · simp [h]
  · simp [h]
  · split <;> simp [h]

/-- The store's and the card's due work is work. -/
theorem worked_pumpStep {t : State} (ht : pumpStep s = some t) : Worked R a t := by
  unfold pumpStep at ht
  split at ht
  · cases ht; simp [h]
  · split at ht
    · cases ht; simp [h]
    · split at ht
      · cases ht; simp [h]
      · split at ht
        · cases ht; simp [h]
        · cases ht

/-! ### The Trigger Unit's actions -/

@[simp] theorem worked_actMark (i : Nat) : Worked R a (actMark i s).2 := by
  unfold actMark; split <;> simp [h]
@[simp] theorem worked_actSplit : Worked R a (actSplit s).2 := by
  unfold actSplit; split
  · exact h
  · split
    · exact h
    · split <;> simp [h]
@[simp] theorem worked_lockPart (c : Clip) : Worked R a (lockPart c s).2 := by
  unfold lockPart; split <;> simp [h]
@[simp] theorem worked_actLock : Worked R a (actLock s).2.2 := by
  unfold actLock; dsimp only; split
  · exact h
  · split
    · split <;> simp [h]
    · simp [h]
@[simp] theorem worked_actStop : Worked R a (actStop s).2 := by
  unfold actStop; split <;> simp [h]
@[simp] theorem worked_actStart : Worked R a (actStart s).2 := by
  unfold actStart; split <;> simp [h]
@[simp] theorem worked_fire (i : Nat) (e : TrigEntry) : Worked R a (fire i e s) := by
  unfold fire reportFiring; split <;> simp [h]

end

end Sys2Proof.Machine

/-! PROOF. Side packets: what a slot, a report, an answer and a departure do to the capture link's record, the Report Queue and
the changes that wait at the Trigger Unit. -/

namespace Sys2Proof.Machine

/-- The conditions that the store, the card and HOLD change on their own. -/
def workConds : BitVec 16 := condStoreLow ||| condLockNear ||| condHoldActive

/-- Changes of `workConds` alone have joined those that wait, behind them. -/
def WaitsMore (s t : State) : Prop :=
  ∃ hs, t.trig.waiting = s.trig.waiting ++ hs ∧ ∀ c ∈ hs, c.mask &&& ~~~workConds = 0#16

theorem WaitsMore.of_eq {s t : State} (h : t.trig.waiting = s.trig.waiting) : WaitsMore s t := ⟨[], by simp [h], by simp⟩

theorem WaitsMore.trans {s t u : State} (h : WaitsMore s t) (k : WaitsMore t u) : WaitsMore s u := by
  obtain ⟨hs, he, hm⟩ := h
  obtain ⟨ks, ke, km⟩ := k
  refine ⟨hs ++ ks, by rw [ke, he, List.append_assoc], fun c hc => ?_⟩
  exact (List.mem_append.1 hc).elim (hm c) (km c)

theorem WaitsMore.notify {c : Change} (hc : c.mask &&& ~~~workConds = 0#16) (s : State) : WaitsMore s (notify c s) :=
  ⟨[c], rfl, by simpa using hc⟩

theorem judgeHold_captureOut (s : State) : (judgeHold s).captureOut = s.captureOut := by
  unfold judgeHold; dsimp only; split <;> rfl

theorem judgeHold_waitsMore (s : State) : WaitsMore s (judgeHold s) := by
  unfold judgeHold; dsimp only; split
  · exact .of_eq rfl
  · exact .notify (show condHoldActive &&& _ = 0#16 by decide) _

/-- The changes that wait, and those that judging HOLD may still add while the Answer Queue empties: one where HOLD is not as
its causes are judged, and one for the fall of the answer cause. -/
def holdDebt (s : State) : Nat :=
  s.trig.waiting.length + (if s.intake.hold = (bufCauseNow s || ansCauseNow s) then 0 else 1) +
    (if ansCauseNow s && !bufCauseNow s then 1 else 0)

theorem waiting_le_holdDebt (s : State) : s.trig.waiting.length ≤ holdDebt s := by unfold holdDebt; omega

theorem holdDebt_le_waiting (s : State) : holdDebt s ≤ s.trig.waiting.length + 2 := by
  unfold holdDebt; split <;> split <;> omega

theorem holdDebt_congr {s t : State} (hi : t.intake = s.intake) (hs : t.store = s.store) (ha : t.link.answers = s.link.answers)
    (hw : t.trig.waiting = s.trig.waiting) : holdDebt t = holdDebt s := by
  unfold holdDebt bufCauseNow ansCauseNow; rw [hi, hs, ha, hw]

/-- Judging the buffer cause of HOLD again gives the same value. -/
theorem bufCauseNow_judged (s : State) (b a h : Bool) (hb : b = bufCauseNow s) :
    bufCauseNow (s.mapIntake fun i => { i with bufCause := b, ansCause := a, hold := h }) = bufCauseNow s := by
  subst hb
  show (if s.store.writer = .emergency then true else if s.intake.freeBlocks < s.store.tab.holdMark then true
    else if s.store.tab.releaseMark ≤ s.intake.freeBlocks then false else bufCauseNow s) = bufCauseNow s
  unfold bufCauseNow; split_ifs <;> rfl

/-- A judgement of HOLD after the Answer Queue has lost an answer adds no more than was still to be added. -/
theorem holdDebt_judgeHold {s t : State} (hi : t.intake = s.intake) (hs : t.store = s.store)
    (ha : t.link.answers.length ≤ s.link.answers.length) (hw : t.trig.waiting = s.trig.waiting) :
    holdDebt (judgeHold t) ≤ holdDebt s := by
  have hb : bufCauseNow t = bufCauseNow s := by unfold bufCauseNow; rw [hi, hs]
  have hm : ansCauseNow t = true → ansCauseNow s = true := by simp only [ansCauseNow, decide_eq_true_eq]; omega
  have hj : bufCauseNow (judgeHold t) = bufCauseNow t := by
    unfold judgeHold; dsimp only; split <;> exact bufCauseNow_judged t _ _ _ rfl
  have hn : ansCauseNow (judgeHold t) = ansCauseNow t := by unfold ansCauseNow; rw [judgeHold_link]
  have hl : (judgeHold t).trig.waiting.length =
      t.trig.waiting.length + if (bufCauseNow t || ansCauseNow t) = t.intake.hold then 0 else 1 := by
    unfold judgeHold; dsimp only; split <;> simp [notify]
  unfold holdDebt
  rw [hj, hn, hl, judgeHold_intake, hb, hw, hi]
  revert hm
  cases bufCauseNow s <;> cases ansCauseNow t <;> cases ansCauseNow s <;> cases s.intake.hold <;> (simp; try omega)

/-- What slots do: packets leave behind those that have left, the Report Queue does not grow, and of changes only those of
HOLD join the waiting ones, no more than were still to be added. -/
structure Leaves (s t : State) : Prop where
  capture : s.captureOut <+: t.captureOut
  reports : t.link.reports.length ≤ s.link.reports.length
  waits : WaitsMore s t
  debt : holdDebt t ≤ holdDebt s

theorem Leaves.refl (s : State) : Leaves s s := ⟨List.prefix_refl _, le_rfl, .of_eq rfl, le_rfl⟩

theorem Leaves.trans {s t u : State} (h : Leaves s t) (k : Leaves t u) : Leaves s u :=
  ⟨h.capture.trans k.capture, k.reports.trans h.reports, h.waits.trans k.waits, k.debt.trans h.debt⟩

theorem Leaves.answerRemoved {x : Answer} {rest : List Answer} {s : State} (hs : s.link.answers = x :: rest) (i : CaptureItem) :
    Leaves s (answerRemoved rest (s.emit i)) := by
  unfold Machine.answerRemoved
  split
  · refine ⟨?_, by simp [State.emit], .trans (.of_eq rfl) (judgeHold_waitsMore _), ?_⟩
    · rw [judgeHold_captureOut]; exact List.prefix_append _ _
    · exact holdDebt_judgeHold rfl rfl (by simp [hs]) rfl
  · refine ⟨?_, by simp [State.emit], .trans (.of_eq rfl) (judgeHold_waitsMore _), ?_⟩
    · rw [judgeHold_captureOut]; exact List.prefix_append _ _
    · exact holdDebt_judgeHold rfl rfl (by simp [hs]) rfl

theorem Leaves.reportRemoved {r : Report} {rest : List Report} {s : State} (hs : s.link.reports = r :: rest) (i : CaptureItem) :
    Leaves s (reportRemoved rest (s.emit i)) := by
  unfold Machine.reportRemoved enqueueReport
  dsimp only
  split_ifs with h1 h2
  · exact ⟨List.prefix_append _ _, by simp [hs], .of_eq rfl, (holdDebt_congr rfl rfl rfl rfl).le⟩
  · exact ⟨List.prefix_append _ _, by simp [hs], .of_eq rfl, (holdDebt_congr rfl rfl rfl rfl).le⟩
  · exact ⟨List.prefix_append _ _, by simp [hs], .of_eq rfl, (holdDebt_congr rfl rfl rfl rfl).le⟩

theorem Leaves.fillSlot (s : State) : Leaves s (fillSlot s) := by
  unfold Machine.fillSlot
  split
  · exact .refl s
  · split
    · exact ⟨List.prefix_append _ _, le_rfl, .of_eq rfl, (holdDebt_congr rfl rfl rfl rfl).le⟩
    · split
      · next hs => exact .answerRemoved hs _
      · split
        · next hs => exact .reportRemoved hs _
        · exact .refl s

theorem Leaves.fillSlots (n : Nat) (s : State) : Leaves s (fillSlots n s) := by
  induction n generalizing s with
  | zero => exact .refl s
  | succ n ih => exact (Leaves.fillSlot s).trans (ih _)

theorem Leaves.drainRoom (s : State) : Leaves s (drainRoom s) := .fillSlots _ s

theorem Leaves.depart (s : State) : Leaves s (depart s) := by
  unfold Machine.depart endDrain
  split
  · split
    · exact (Leaves.drainRoom s).trans ⟨List.prefix_refl _, le_rfl, .of_eq rfl, (holdDebt_congr rfl rfl rfl rfl).le⟩
    · exact .drainRoom s
  · exact .refl s

/-! ### A report -/

theorem report_captureOut_prefix (p : Payload) (s : State) : s.captureOut <+: (report p s).captureOut := by
  unfold report; split
  · exact (Leaves.drainRoom s).capture.trans (List.prefix_append _ _)
  · unfold enqueueReport; split <;> exact List.prefix_refl _

/-- A report makes the Report Queue longer by one at most. -/
theorem report_reports_length (p : Payload) (s : State) :
    (report p s).link.reports.length ≤ s.link.reports.length + 1 := by
  unfold report; split
  · exact (Leaves.drainRoom s).reports.trans (Nat.le_succ _)
  · unfold enqueueReport; split <;> simp

theorem report_waitsMore (p : Payload) (s : State) : WaitsMore s (report p s) := by
  unfold report; split
  · exact (Leaves.drainRoom s).waits.trans (.of_eq rfl)
  · unfold enqueueReport; split <;> exact .of_eq rfl

theorem report_holdDebt (p : Payload) (s : State) : holdDebt (report p s) ≤ holdDebt s := by
  unfold report; split
  · exact (holdDebt_congr rfl rfl rfl rfl).le.trans (Leaves.drainRoom s).debt
  · unfold enqueueReport; split <;> exact (holdDebt_congr rfl rfl rfl rfl).le

theorem enqueueAnswer_captureOut_prefix (x : Answer) (s : State) : s.captureOut <+: (enqueueAnswer x s).captureOut := by
  unfold enqueueAnswer; split
  · exact (Leaves.drainRoom s).capture.trans (List.prefix_append _ _)
  · rw [judgeHold_captureOut]; exact List.prefix_refl _

theorem enqueueAnswer_waitsMore (x : Answer) (s : State) : WaitsMore s (enqueueAnswer x s) := by
  unfold enqueueAnswer; split
  · exact (Leaves.drainRoom s).waits.trans (.of_eq rfl)
  · exact .trans (.of_eq rfl) (judgeHold_waitsMore _)

/-! ### Reports carried -/

/-- The packet of a report. -/
def reportPacket (r : Report) : CaptureItem := .packet r.encode

/-- The reports `rs` are in the Report Queue of a part with no open room, or have left, in this order. -/
def Carried (rs : List Report) (s : State) : Prop :=
  (atOnce s = false ∧ rs.Sublist s.link.reports) ∨ (rs.map reportPacket).Sublist s.captureOut

/-- As `Carried`, by the room: left where it is open, in the queue where it is not. -/
def CarriedByRoom (rs : List Report) (s : State) : Prop :=
  if atOnce s then (rs.map reportPacket).Sublist s.captureOut else rs.Sublist s.link.reports

theorem CarriedByRoom.carried {rs : List Report} {s : State} (h : CarriedByRoom rs s) : Carried rs s := by
  unfold CarriedByRoom at h
  split at h
  · exact .inr h
  · next ho => exact .inl ⟨by simpa using ho, h⟩

theorem CarriedByRoom.nil (s : State) : CarriedByRoom [] s := by unfold CarriedByRoom; split <;> simp

/-- Whether the room is open depends on what `State.outside` keeps. -/
theorem atOnce_congr {s t : State} (h : t.outside = s.outside) : atOnce t = atOnce s :=
  show atOnce t.outside = atOnce s.outside by rw [h]

/-- A report with room in the queue is carried behind those carried before it. -/
theorem CarriedByRoom.report {rs : List Report} {s : State} (h : CarriedByRoom rs s) (p : Payload)
    (hr : s.link.reports.length < 32) : CarriedByRoom (rs ++ [⟨s.partTime, p⟩]) (report p s) := by
  unfold CarriedByRoom at h ⊢
  rw [atOnce_congr (outside_report p s)]
  split
  · next ho =>
    rw [if_pos ho] at h
    unfold Machine.report; rw [if_pos ho, List.map_append]
    exact (h.trans (Leaves.drainRoom s).capture.sublist).append (List.Sublist.refl _)
  · next ho =>
    rw [if_neg ho] at h
    rw [report_room (by simpa using ho) hr]
    exact h.append (List.Sublist.refl _)

/-- Reports carried by the room stay so where the room and the queue stand and packets leave behind the others. -/
theorem CarriedByRoom.congr {rs : List Report} {s t : State} (h : CarriedByRoom rs s) (ho : atOnce t = atOnce s)
    (hq : t.link.reports = s.link.reports) (hc : t.captureOut = s.captureOut) : CarriedByRoom rs t := by
  unfold CarriedByRoom at h ⊢; rw [ho, hq, hc]; exact h

/-- Reports carried stay so where the room and the queue stand and packets leave behind the others. -/
theorem Carried.congr {rs : List Report} {s t : State} (h : Carried rs s) (ho : atOnce t = atOnce s)
    (hq : t.link.reports = s.link.reports) (hc : t.captureOut = s.captureOut) : Carried rs t := by
  unfold Carried at h ⊢; rw [ho, hq, hc]; exact h

theorem Carried.report {rs : List Report} {s : State} (h : Carried rs s) (p : Payload) : Carried rs (report p s) := by
  obtain ⟨ho, hq⟩ | hc := h
  · refine .inl ⟨by rw [atOnce_congr (outside_report p s), ho], ?_⟩
    by_cases hr : s.link.reports.length < 32
    · rw [report_room ho hr]; exact hq.trans (List.sublist_append_left _ _)
    · rw [report_full ho (Nat.le_of_not_lt hr)]; exact hq
  · exact .inr (hc.trans (report_captureOut_prefix p s).sublist)

theorem Carried.enqueueAnswer {rs : List Report} {s : State} (h : Carried rs s) (x : Answer) :
    Carried rs (enqueueAnswer x s) := by
  obtain ⟨ho, hq⟩ | hc := h
  · refine .inl ⟨by rw [atOnce_congr (outside_enqueueAnswer x s), ho], ?_⟩
    unfold Machine.enqueueAnswer; rw [if_neg (by simp [ho]), judgeHold_link]; exact hq
  · exact .inr (hc.trans (enqueueAnswer_captureOut_prefix x s).sublist)

theorem Carried.depart {rs : List Report} {s : State} (h : Carried rs s) : Carried rs (depart s) := by
  obtain ⟨ho, hq⟩ | hc := h
  · unfold Machine.depart; rw [if_neg (by simp [ho])]; exact .inl ⟨ho, hq⟩
  · exact .inr (hc.trans (Leaves.depart s).capture.sublist)

/-- Reports of payloads `ps` that are carried, issued at the part time of the state. -/
theorem Carried.issuedInOrder {ps : List Payload} {t : State} (h : Carried (ps.map fun p => ⟨t.partTime, p⟩) t) :
    IssuedInOrder ps t := by
  obtain ⟨-, hq⟩ | hc := h
  · exact .inl hq
  · exact .inr (by simpa [reportPacket, Function.comp_def] using hc)

theorem Carried.issued {p : Payload} {t : State} (h : Carried [⟨t.partTime, p⟩] t) : Issued p t := by
  obtain ⟨-, hq⟩ | hc := h
  · exact .inl (List.singleton_sublist.1 hq)
  · exact .inr (List.singleton_sublist.1 hc)

end Sys2Proof.Machine

/-! PROOF. Taking changes, settling and finishing: what work alone leaves as it is, how the conditions and the last values move,
and what an invariant of settling needs. -/

namespace Sys2Proof.Machine

/-! ### Work alone -/

/-- Work of the store, the card and the Trigger Unit's actions, and nothing besides. -/
abbrev Work (s t : State) : Prop := Worked (fun _ _ => False) s t

/-- `s` with everything erased that work alone may change. -/
def State.apart (s : State) : State :=
  { s.unsent.outside with
    store := { coldStore with quotaEff := s.store.quotaEff }
    intake := coldIntake
    trig := { s.trig with waiting := [] } }

/-- What `State.unsent` keeps, an answer keeps. -/
theorem enqueueAnswer_keeps {α : Type} (f : State → α) (h : ∀ s : State, f s.unsent = f s) (x : Answer) (s : State) :
    f (enqueueAnswer x s) = f s := by rw [← h (enqueueAnswer x s), unsent_enqueueAnswer, h]

/-- What `State.unsent` keeps, a departure keeps. -/
theorem depart_keeps {α : Type} (f : State → α) (h : ∀ s : State, f s.unsent = f s) (s : State) :
    f (depart s) = f s := by rw [← h (depart s), unsent_depart, h]

theorem Work.apart {s t : State} (h : Work s t) : t.apart = s.apart := by
  induction h with
  | start => rfl
  | extra h => exact h.elim
  | mapStore f hf _ ih => rw [← ih]; unfold State.apart; rw [State.mapStore_store, hf]; rfl
  | report p _ ih => rw [← ih]; exact report_keeps State.apart (fun _ => rfl) p _
  | answer x _ ih => rw [← ih]; exact enqueueAnswer_keeps State.apart (fun _ => rfl) x _
  | _ => rename_i ih; exact ih

/-- What `State.apart` keeps, work keeps. -/
theorem Work.keeps {α : Type} (f : State → α) (hf : ∀ s : State, f s.apart = f s) {s t : State} (h : Work s t) : f t = f s := by
  rw [← hf t, h.apart, hf]

/-- The counters but for the three that work may raise. -/
def Counters.unworked (c : Counters) : Counters := { c with cardRetries := 0, reclaimedClips := 0, emergencyCloses := 0 }

theorem Work.counters {s t : State} (h : Work s t) : t.counters.unworked = s.counters.unworked := by
  induction h with
  | start => rfl
  | extra h => exact h.elim
  | report p _ ih => rw [report_counters, ih]
  | answer x _ ih =>
    rw [← ih]
    exact enqueueAnswer_keeps (fun u : State => u.counters.unworked) (fun _ => rfl) x _
  | _ => rename_i ih; exact ih

theorem Work.waits {s t : State} (h : Work s t) : WaitsMore s t := by
  induction h with
  | start => exact .of_eq rfl
  | extra h => exact h.elim
  | notify c hc _ ih => exact ih.trans (.notify hc _)
  | report p _ ih => exact ih.trans (report_waitsMore p _)
  | answer x _ ih => exact ih.trans (enqueueAnswer_waitsMore x _)
  | _ => rename_i ih; exact ih.trans (.of_eq rfl)

theorem Carried.work {rs : List Report} {s t : State} (h : Carried rs s) (hw : Work s t) : Carried rs t := by
  induction hw with
  | start => exact h
  | extra h => exact h.elim
  | report p _ ih => exact ih.report p
  | answer x _ ih => exact ih.enqueueAnswer x
  | _ => rename_i ih; exact ih.congr rfl rfl rfl

/-! ### A change -/

/-- The conditions and the last values after change `c`, before any entry fires. -/
def applied (c : Change) (s : State) : State :=
  s.mapTrig fun t => { t with
    conds := c.apply t.conds
    last := lastAfter (c.apply t.conds ^^^ t.conds) (c.apply t.conds) t.entries t.last }

/-- The entries that fire at change `c`. -/
def fired (c : Change) (s : State) : List (Nat × TrigEntry) :=
  if armed s then firing (c.apply s.trig.conds ^^^ s.trig.conds) (c.apply s.trig.conds) 0 s.trig.entries s.trig.last else []

theorem takeChange_eq (c : Change) (s : State) :
    takeChange c s = (fired c s).foldl (fun s f => fire f.1 f.2 s) (applied c s) := rfl

/-- A change is applied, and then the firings do their work. -/
theorem worked_takeChange {R : State → State → Prop} {a s : State} {c : Change} (h : Worked R a (applied c s)) :
    Worked R a (takeChange c s) := worked_foldl h (fun _ f h => worked_fire h f.1 f.2) _

theorem work_takeChange (c : Change) (s : State) : Work (applied c s) (takeChange c s) := worked_takeChange .start

/-- The head `c` of the waiting changes is taken from them and applied. -/
def taken (c : Change) (cs : List Change) (s : State) : State := applied c (s.mapTrig fun t => { t with waiting := cs })

/-! ### Invariants of settling -/

/-- `P` holds on through work and through the taking of a waiting change. -/
structure Settles (P : State → Prop) : Prop where
  work : ∀ {s t : State}, P s → Work s t → P t
  take : ∀ {s : State} {c : Change} {cs : List Change}, P s → s.trig.waiting = c :: cs → P (taken c cs s)

section
variable {P : State → Prop} (h : Settles P)
include h

theorem Settles.takeWaiting {s : State} (hs : P s) (n : Nat) : P (takeWaiting n s) := by
  induction n generalizing s with
  | zero => exact hs
  | succ n ih =>
    unfold Machine.takeWaiting; split
    · next hw => exact ih (h.work (h.take hs hw) (work_takeChange _ _))
    · exact hs

theorem Settles.quiesce {s : State} (hs : P s) (n : Nat) : P (quiesce n s) := by
  induction n generalizing s with
  | zero => exact hs
  | succ n ih =>
    unfold Machine.quiesce; split
    · next t ht =>
      refine ih ?_
      unfold settleStep at ht; split at ht
      · next hw => cases ht; exact h.work (h.take hs hw) (work_takeChange _ _)
      · exact h.work hs (worked_pumpStep .start ht)
    · exact hs

theorem Settles.settle {s : State} (hs : P s) : P (settle s) := h.quiesce hs _

theorem Settles.finish (hd : ∀ {s}, P s → P (depart s)) {s : State} (hs : P s) : P (finish s) :=
  hd (h.settle (hd (h.settle hs)))

end

/-- `P` holds on through work and does not depend on the Trigger Unit. -/
structure Lasts (P : State → Prop) : Prop where
  work : ∀ {s t : State}, P s → Work s t → P t
  trig : ∀ {s : State} (f : Trig → Trig), P s → P (s.mapTrig f)

section
variable {P : State → Prop} (h : Lasts P)
include h

theorem Lasts.settles : Settles P := ⟨h.work, fun hs _ => by unfold taken applied; exact h.trig _ (h.trig _ hs)⟩

theorem Lasts.takeChange {s : State} (hs : P s) (c : Change) : P (takeChange c s) :=
  h.work (h.trig _ hs) (work_takeChange c s)

theorem Lasts.takeEach {s : State} (hs : P s) (cs : List Change) : P (takeEach cs s) := by
  induction cs generalizing s with
  | nil => exact hs
  | cons c cs ih => exact ih (h.takeChange hs c)

theorem Lasts.hand {s : State} (hs : P s) (cs : List Change) : P (hand cs s) := h.settles.takeWaiting (h.trig _ hs) _

end

theorem lasts_carried (rs : List Report) : Lasts (Carried rs) :=
  ⟨Carried.work, fun _ h => h.congr rfl rfl rfl⟩

/-- The counters but for those of work stay as they are. -/
theorem lasts_counters (c : Counters) : Lasts (fun s => s.counters.unworked = c) :=
  ⟨fun h hw => hw.counters.trans h, fun _ h => h⟩

theorem lasts_quotaEff (q : Nat) : Lasts (fun s => s.store.quotaEff = q) :=
  ⟨fun h hw => (hw.keeps (fun u : State => u.store.quotaEff) fun _ => rfl).trans h, fun _ h => h⟩

theorem Carried.finish {rs : List Report} {s : State} (h : Carried rs s) : Carried rs (finish s) :=
  (lasts_carried rs).settles.finish Carried.depart h

@[simp] theorem finish_counters (s : State) : (finish s).counters.unworked = s.counters.unworked :=
  (lasts_counters _).settles.finish (fun {s} h =>
    (depart_keeps (fun u : State => u.counters.unworked) (fun _ => rfl) s).trans h) rfl

@[simp] theorem finish_quotaEff (s : State) : (finish s).store.quotaEff = s.store.quotaEff :=
  (lasts_quotaEff _).settles.finish (fun {s} h =>
    (depart_keeps (fun u : State => u.store.quotaEff) (fun _ => rfl) s).trans h) rfl

/-! ### What finishing keeps -/

/-- What both `State.outside` and `State.unsent` keep, finishing keeps. -/
theorem finish_keeps {α : Type} (f : State → α) (h : ∀ s : State, f s.unsent.outside = f s) (s : State) :
    f (finish s) = f s := by
  have hs : ∀ s, (settle s).unsent.outside = s.unsent.outside := fun s =>
    congrArg (fun u : State => { u with link := { u.link with drain := false } }) (outside_settle s)
  have hd : ∀ s, (depart s).unsent.outside = s.unsent.outside := fun s => congrArg State.outside (unsent_depart s)
  rw [← h (finish s), finish, hd, hs, hd, hs, h]

section
variable (s : State)
@[simp] theorem finish_partTime : (finish s).partTime = s.partTime := finish_keeps State.partTime (fun _ => rfl) s
@[simp] theorem finish_motion : (finish s).motion = s.motion := finish_keeps State.motion (fun _ => rfl) s
@[simp] theorem finish_filter : (finish s).filter = s.filter := finish_keeps State.filter (fun _ => rfl) s
@[simp] theorem finish_charge : (finish s).charge = s.charge := finish_keeps State.charge (fun _ => rfl) s
@[simp] theorem finish_thermal : (finish s).thermal = s.thermal := finish_keeps State.thermal (fun _ => rfl) s
theorem finish_frame : { (finish s).frame with trailer := none } = { s.frame with trailer := none } :=
  finish_keeps (fun t : State => { t.frame with trailer := none }) (fun _ => rfl) s
@[simp] theorem finish_entries : (finish s).trig.entries = s.trig.entries :=
  finish_keeps (fun t : State => t.trig.entries) (fun _ => rfl) s
@[simp] theorem finish_tab : (finish s).store.tab = s.store.tab := finish_keeps (fun t : State => t.store.tab) (fun _ => rfl) s
@[simp] theorem finish_quota : (finish s).store.quota = s.store.quota :=
  finish_keeps (fun t : State => t.store.quota) (fun _ => rfl) s
@[simp] theorem finish_loaded : (finish s).link.loaded = s.link.loaded :=
  finish_keeps (fun t : State => t.link.loaded) (fun _ => rfl) s
@[simp] theorem finish_active : (finish s).link.active = s.link.active :=
  finish_keeps (fun t : State => t.link.active) (fun _ => rfl) s
@[simp] theorem finish_waitImu : (finish s).link.waitImu = s.link.waitImu :=
  finish_keeps (fun t : State => t.link.waitImu) (fun _ => rfl) s
end

end Sys2Proof.Machine

/-! PROOF. The ranges of StepKeepsRanges through the operations that every command shares. -/

namespace Sys2Proof.Machine

/-! ### The relation -/

/-- What lies in its range in `s` lies in its range in `t`. -/
structure RangesKept (s t : State) : Prop where
  steady : BiasInRange s → EffectiveMode s → BiasInRange t ∧ EffectiveMode t
  gauged : InputLimitBounded s → GaugeBounded s → InputLimitBounded t ∧ GaugeBounded t
  setpoint : SetpointAllowed s → SetpointAllowed t
  counted : CountersBounded s → TablesSized s → CountersBounded t ∧ TablesSized t

theorem RangesKept.trans {s t u : State} (h : RangesKept s t) (k : RangesKept t u) : RangesKept s u where
  steady hb hm := k.steady (h.steady hb hm).1 (h.steady hb hm).2
  gauged hi hg := k.gauged (h.gauged hi hg).1 (h.gauged hi hg).2
  setpoint hs := k.setpoint (h.setpoint hs)
  counted hc ht := k.counted (h.counted hc ht).1 (h.counted hc ht).2

/-- The values whose ranges are kept, but for the counters. -/
def State.ranged (s : State) : Axes × Mode × Charge × Tier × Pages × List Bool :=
  (s.motion.bias, s.filter.effMode, s.charge, s.thermal.tier, s.link.loaded, s.link.active)

/-- Ranges are kept where the values stand and the counters stay bounded. -/
theorem RangesKept.of_ranged {s t : State} (h : t.ranged = s.ranged) (hc : CountersBounded s → CountersBounded t) :
    RangesKept s t := by
  simp only [State.ranged, Prod.mk.injEq] at h
  obtain ⟨hb, hm, hg, ht, hl, ha⟩ := h
  constructor
  · unfold BiasInRange EffectiveMode; rw [hb, hm]; exact fun h k => ⟨h, k⟩
  · unfold InputLimitBounded GaugeBounded; rw [hg]; exact fun h k => ⟨h, k⟩
  · unfold SetpointAllowed; rw [hg, ht]; exact id
  · unfold TablesSized; rw [hl, ha]; exact fun h k => ⟨hc h, k⟩

theorem RangesKept.of_eq {s t : State} (h : t.ranged = s.ranged) (hc : t.counters = s.counters) : RangesKept s t :=
  .of_ranged h fun hs => by unfold CountersBounded; rw [hc]; exact hs

/-- A change of the counters that keeps them bounded. -/
def Raises (f : Counters → Counters) : Prop :=
  ∀ c, (∀ n ∈ c.toList, n ≤ Config.counterMax) → ∀ n ∈ (f c).toList, n ≤ Config.counterMax

theorem satAdd_le (c n : Nat) : satAdd c n ≤ Config.counterMax := Nat.min_le_right _ _

theorem RangesKept.mapCounters {f : Counters → Counters} (hf : Raises f) (s : State) : RangesKept s (s.mapCounters f) :=
  .of_ranged rfl (hf s.counters)

/-! ### Every operation on the way keeps them -/

/-- `s` follows from `a` by work and by moves that keep the ranges. -/
abbrev Ranged (a s : State) : Prop := Worked RangesKept a s

theorem raises_cardRetries : Raises fun c => { c with cardRetries := satAdd c.cardRetries 1 } := by
  intro c; simp +contextual [Counters.toList, satAdd_le]

theorem raises_reclaimedClips : Raises fun c => { c with reclaimedClips := satAdd c.reclaimedClips 1 } := by
  intro c; simp +contextual [Counters.toList, satAdd_le]

theorem raises_emergencyCloses : Raises fun c => { c with emergencyCloses := satAdd c.emergencyCloses 1 } := by
  intro c; simp +contextual [Counters.toList, satAdd_le]

/-- What `State.unsent` keeps, and so every side packet, is more than what the ranges look at. -/
theorem RangesKept.of_unsent {s t : State} (h : t.unsent = s.unsent) : RangesKept s t :=
  .of_eq (show t.unsent.ranged = s.unsent.ranged by rw [h]) (show t.unsent.counters = s.unsent.counters by rw [h])

theorem Ranged.kept {a s : State} (h : Ranged a s) : RangesKept a s := by
  induction h with
  | start => exact .of_eq rfl rfl
  | extra hr _ ih => exact ih.trans hr
  | report p _ ih => exact ih.trans (.of_unsent (unsent_report p _))
  | answer x _ ih => exact ih.trans (.of_unsent (unsent_enqueueAnswer x _))
  | retried _ ih => exact ih.trans (.mapCounters raises_cardRetries _)
  | reclaimed _ ih => exact ih.trans (.mapCounters raises_reclaimedClips _)
  | emergency _ ih => exact ih.trans (.mapCounters raises_emergencyCloses _)
  | _ => rename_i ih; exact ih.trans (.of_eq rfl rfl)

section
variable {a s : State} (h : Ranged a s)
include h

theorem ranged_of_eq {t : State} (hr : t.ranged = s.ranged) (hc : t.counters = s.counters) : Ranged a t :=
  .extra (.of_eq hr hc) h
theorem ranged_of_unsent {t : State} (hu : t.unsent = s.unsent) : Ranged a t := .extra (.of_unsent hu) h

/-! ### Updates of a block -/

@[simp] theorem ranged_mapMotion {f : Motion → Motion} (hf : ∀ m, (f m).bias = m.bias) : Ranged a (s.mapMotion f) :=
  ranged_of_eq h (by simp [State.ranged, hf]) rfl
@[simp] theorem ranged_mapFilter {f : Filter → Filter} (hf : ∀ k, (f k).effMode = k.effMode) : Ranged a (s.mapFilter f) :=
  ranged_of_eq h (by simp [State.ranged, hf]) rfl
@[simp] theorem ranged_mapFrame (f : Frame → Frame) : Ranged a (s.mapFrame f) := ranged_of_eq h rfl rfl
@[simp] theorem ranged_mapStore (f : Store → Store) : Ranged a (s.mapStore f) := ranged_of_eq h rfl rfl
@[simp] theorem ranged_mapTrig (f : Trig → Trig) : Ranged a (s.mapTrig f) := ranged_of_eq h rfl rfl
@[simp] theorem ranged_mapThermal {f : Thermal → Thermal} (hf : ∀ k, (f k).tier = k.tier) : Ranged a (s.mapThermal f) :=
  ranged_of_eq h (by simp [State.ranged, hf]) rfl
@[simp] theorem ranged_mapLink {f : Link → Link} (hl : ∀ k, (f k).loaded = k.loaded) (ha : ∀ k, (f k).active = k.active) :
    Ranged a (s.mapLink f) := ranged_of_eq h (by simp [State.ranged, hl, ha]) rfl
theorem ranged_mapCounters {f : Counters → Counters} (hf : Raises f) : Ranged a (s.mapCounters f) :=
  .extra (.mapCounters hf s) h
@[simp] theorem ranged_emit (i : CaptureItem) : Ranged a (s.emit i) := ranged_of_eq h rfl rfl
@[simp] theorem ranged_tick (dt : Nat) : Ranged a (s.tick dt) := ranged_of_eq h rfl rfl
@[simp] theorem ranged_notify (c : Change) : Ranged a (notify c s) := ranged_of_eq h rfl rfl

/-! ### Side packets -/

@[simp] theorem ranged_fillSlot : Ranged a (fillSlot s) := ranged_of_unsent h (unsent_fillSlot s)
@[simp] theorem ranged_drainRoom : Ranged a (drainRoom s) := ranged_of_unsent h (unsent_drainRoom s)
@[simp] theorem ranged_leaveAll : Ranged a (leaveAll s) := ranged_of_unsent h (unsent_leaveAll s)
@[simp] theorem ranged_depart : Ranged a (depart s) := ranged_of_unsent h (unsent_depart s)

/-! ### The Trigger Unit -/

@[simp] theorem ranged_takeChange (c : Change) : Ranged a (takeChange c s) := worked_takeChange (ranged_mapTrig h _)
@[simp] theorem ranged_takeEach (cs : List Change) : Ranged a (takeEach cs s) :=
  worked_foldl h (fun _ c h => ranged_takeChange h c) cs
omit h in
theorem settles_ranged : Settles (Ranged a) where
  work h hw := by
    induction hw with
    | start => exact h
    | extra hf => exact hf.elim
    | mapStore f hf _ ih => exact .mapStore f hf ih
    | mapCard f _ ih => exact .mapCard f ih
    | mapIntake f _ ih => exact .mapIntake f ih
    | notify c hc _ ih => exact .notify c hc ih
    | hold x _ ih => exact .hold x ih
    | report p _ ih => exact .report p ih
    | answer x _ ih => exact .answer x ih
    | retried _ ih => exact .retried ih
    | reclaimed _ ih => exact .reclaimed ih
    | emergency _ ih => exact .emergency ih
  take h _ := by unfold taken applied; exact ranged_mapTrig (ranged_mapTrig h _) _
@[simp] theorem ranged_hand (cs : List Change) : Ranged a (hand cs s) := settles_ranged.takeWaiting (ranged_mapTrig h _) _
@[simp] theorem ranged_pulse (c : BitVec 16) : Ranged a (pulse c s) := ranged_hand h _
@[simp] theorem ranged_setLevel (c : BitVec 16) (b : Bool) : Ranged a (setLevel c b s) := ranged_hand h _
@[simp] theorem ranged_rePrime : Ranged a (rePrime s) := ranged_mapTrig h _
@[simp] theorem ranged_settle : Ranged a (settle s) := settles_ranged.settle h
@[simp] theorem ranged_finish : Ranged a (finish s) := settles_ranged.finish (fun h => ranged_depart h) h

/-! ### Directives -/

@[simp] theorem ranged_countMalformed : Ranged a (countMalformed s) :=
  ranged_mapCounters h fun c => by simp +contextual [Counters.toList, satAdd_le]
@[simp] theorem ranged_countDiscarded : Ranged a (countDiscarded s) :=
  ranged_mapCounters h fun c => by simp +contextual [Counters.toList, satAdd_le]
@[simp] theorem ranged_clearReceive : Ranged a (clearReceive s) := worked_mapIntake h _
@[simp] theorem ranged_answerMalformedPacket (t c : Byte) : Ranged a (answerMalformedPacket t c s) := by
  unfold answerMalformedPacket; split <;> simp [h]
theorem ranged_directive {f : State → State} (hf : ∀ s, Ranged a s → Ranged a (f s)) (code : Nat) (len : Option Nat)
    (tag : Byte) (p : Bytes) : Ranged a (directive code len tag p f s) := by
  have hc := ranged_clearReceive h
  unfold directive; dsimp only
  split_ifs
  · exact h
  · exact ranged_answerMalformedPacket (ranged_countMalformed hc) _ _
  · exact ranged_countDiscarded hc
  · exact worked_answer (ranged_countMalformed hc) _ _ _ _
  · exact hf _ hc
theorem ranged_answerThen {f : State → AnswerCode × State} (hf : ∀ s, Ranged a s → Ranged a (f s).2) (code : Nat)
    (tag : Byte) : Ranged a (answerThen code tag f s) := hf _ (worked_answer h _ _ _ _)

end

end Sys2Proof.Machine

/-! PROOF. What the motion sensor's operations do, said once for each: the detectors, the sequence check and the calibration
run by cases, and the samples that the Path Filter takes. -/

namespace Sys2Proof.Machine

/-! ### Reports in a row -/

/-- The reports of payloads `ps`, issued one after the other. -/
def reportAll (ps : List Payload) (s : State) : State := ps.foldl (fun s p => report p s) s

/-- What `State.unsent` keeps, reports in a row keep. -/
theorem unsent_reportAll (ps : List Payload) (s : State) : (reportAll ps s).unsent = s.unsent := by
  induction ps generalizing s with
  | nil => rfl
  | cons p ps ih => exact (ih _).trans (unsent_report p s)

theorem reportAll_keeps {α : Type} (f : State → α) (h : ∀ s : State, f s.unsent = f s) (ps : List Payload) (s : State) :
    f (reportAll ps s) = f s := by rw [← h (reportAll ps s), unsent_reportAll, h]

section
variable (ps : List Payload) (s : State)
@[simp] theorem reportAll_partTime : (reportAll ps s).partTime = s.partTime :=
  reportAll_keeps State.partTime (fun _ => rfl) ps s
@[simp] theorem reportAll_motion : (reportAll ps s).motion = s.motion := reportAll_keeps State.motion (fun _ => rfl) ps s
@[simp] theorem reportAll_filter : (reportAll ps s).filter = s.filter := reportAll_keeps State.filter (fun _ => rfl) ps s
@[simp] theorem reportAll_counters : (reportAll ps s).counters = s.counters :=
  reportAll_keeps State.counters (fun _ => rfl) ps s
@[simp] theorem reportAll_conds : (reportAll ps s).trig.conds = s.trig.conds :=
  reportAll_keeps (fun t : State => t.trig.conds) (fun _ => rfl) ps s
end

theorem reportAll_waitsMore (ps : List Payload) (s : State) : WaitsMore s (reportAll ps s) := by
  induction ps generalizing s with
  | nil => exact .of_eq rfl
  | cons p ps ih => exact (report_waitsMore p s).trans (ih _)

theorem reportAll_reports_length (ps : List Payload) (s : State) :
    (reportAll ps s).link.reports.length ≤ s.link.reports.length + ps.length := by
  induction ps generalizing s with
  | nil => exact le_rfl
  | cons p ps ih =>
    have h1 := ih (report p s)
    have h2 := report_reports_length p s
    simp only [reportAll, List.foldl_cons, List.length_cons] at h1 ⊢
    omega

/-- Reports in a row that find room are carried in their order. -/
theorem CarriedByRoom.reportAll {rs : List Report} {s : State} (h : CarriedByRoom rs s) (ps : List Payload)
    (hr : s.link.reports.length + ps.length ≤ 32) :
    CarriedByRoom (rs ++ ps.map fun p => ⟨s.partTime, p⟩) (reportAll ps s) := by
  induction ps generalizing s rs with
  | nil => simpa [Machine.reportAll] using h
  | cons p ps ih =>
    rw [List.length_cons] at hr
    have h1 := ih (h.report p (by omega)) (by have := report_reports_length p s; omega)
    rw [report_partTime, List.append_assoc] at h1
    exact h1

theorem Carried.reportAll {rs : List Report} {s : State} (h : Carried rs s) (ps : List Payload) :
    Carried rs (reportAll ps s) := by
  induction ps generalizing s with
  | nil => exact h
  | cons p ps ih => exact ih (h.report p)

theorem worked_reportAll {R : State → State → Prop} {a s : State} (h : Worked R a s) (ps : List Payload) :
    Worked R a (reportAll ps s) := worked_foldl h (fun _ p h => worked_report h p) ps

/-! ### What the Trigger Unit leaves of the rest -/

/-- What `State.outside` keeps, the taking of changes keeps. -/
theorem takeEach_keeps {α : Type} (f : State → α) (h : ∀ s : State, f s.outside = f s) (cs : List Change) (s : State) :
    f (takeEach cs s) = f s := by rw [← h (takeEach cs s), outside_takeEach, h]

theorem hand_keeps {α : Type} (f : State → α) (h : ∀ s : State, f s.outside = f s) (cs : List Change) (s : State) :
    f (hand cs s) = f s := by rw [← h (hand cs s), outside_hand, h]

section
variable (cs : List Change) (s : State)
@[simp] theorem takeEach_partTime : (takeEach cs s).partTime = s.partTime :=
  takeEach_keeps State.partTime (fun _ => rfl) cs s
@[simp] theorem takeEach_motion : (takeEach cs s).motion = s.motion := takeEach_keeps State.motion (fun _ => rfl) cs s
@[simp] theorem takeEach_filter : (takeEach cs s).filter = s.filter := takeEach_keeps State.filter (fun _ => rfl) cs s
@[simp] theorem takeEach_counters : (takeEach cs s).counters.unworked = s.counters.unworked :=
  (lasts_counters _).takeEach rfl cs
@[simp] theorem hand_partTime : (hand cs s).partTime = s.partTime := hand_keeps State.partTime (fun _ => rfl) cs s
@[simp] theorem hand_motion : (hand cs s).motion = s.motion := hand_keeps State.motion (fun _ => rfl) cs s
@[simp] theorem hand_filter : (hand cs s).filter = s.filter := hand_keeps State.filter (fun _ => rfl) cs s
@[simp] theorem hand_counters : (hand cs s).counters.unworked = s.counters.unworked := (lasts_counters _).hand rfl cs
end

/-! ### The end of a calibration run -/

theorem abortCal_none {r : CalReason} {n : MotionStatus} {s : State} (h : s.motion.cal = none) : abortCal r n s = s := by
  unfold abortCal; rw [h]

theorem abortCal_some {r : CalReason} {n : MotionStatus} {s : State} {c : CalRun} (h : s.motion.cal = some c) :
    abortCal r n s = report (.calAborted r c.count) (s.mapMotion fun m => { m with cal := none, status := n }) := by
  unfold abortCal; rw [h]

/-- What the end of a calibration run reports, if one is in progress. -/
def abortReports (r : CalReason) (m : Motion) : List Payload := (m.cal.map fun c => .calAborted r c.count).toList

/-- The Motion Front-End after the end of a calibration run, if one is in progress. -/
def Motion.aborted (n : MotionStatus) (m : Motion) : Motion :=
  { m with cal := none, status := if m.cal = none then m.status else n }

theorem abortCal_eq (r : CalReason) (n : MotionStatus) (s : State) :
    abortCal r n s = reportAll (abortReports r s.motion) (s.mapMotion (Motion.aborted n)) := by
  cases h : s.motion.cal with
  | none =>
    have hm : s.mapMotion (Motion.aborted n) = s := by
      cases s with | mk _ _ _ _ m => cases m; simp_all [State.mapMotion, Motion.aborted]
    rw [abortCal_none h, hm]; simp [abortReports, h, reportAll]
  | some c =>
    have hm : s.mapMotion (Motion.aborted n) = s.mapMotion fun m => { m with cal := none, status := n } := by
      cases s with | mk _ _ _ _ m => cases m; simp_all [State.mapMotion, Motion.aborted]
    rw [abortCal_some h, hm]; simp [abortReports, h, reportAll]

section
variable (r : CalReason) (n : MotionStatus) (s : State)
@[simp] theorem abortCal_motion : (abortCal r n s).motion = s.motion.aborted n := by rw [abortCal_eq]; simp
@[simp] theorem abortCal_filter : (abortCal r n s).filter = s.filter := by rw [abortCal_eq]; simp
@[simp] theorem abortCal_counters : (abortCal r n s).counters = s.counters := by rw [abortCal_eq]; simp
@[simp] theorem abortCal_partTime : (abortCal r n s).partTime = s.partTime := by rw [abortCal_eq]; simp
@[simp] theorem abortCal_waitSmoothing : (abortCal r n s).link.waitSmoothing = s.link.waitSmoothing := by
  rw [abortCal_eq]; exact reportAll_keeps (fun t : State => t.link.waitSmoothing) (fun _ => rfl) _ _
end

theorem abortReports_length (r : CalReason) (m : Motion) : (abortReports r m).length ≤ 1 := by
  unfold abortReports; cases m.cal <;> simp

/-! ### The shock detector -/

/-- The sample's record is outside any holdoff, and its largest acceleration reaches the threshold (R9). -/
def ShockFound (l : List Int) (time : Nat) (m : Motion) : Prop :=
  (∀ e, m.holdoffEnd = some e → e ≤ time) ∧ m.limits.shockThreshold ≤ (peakFrom 0 l).2.natAbs

theorem detectShock_found {l : List Int} {time : Nat} {s : State} (h : ShockFound l time s.motion) :
    detectShock l time s = takeEach (riseAndFall condShock) (report (.shock (peakFrom 0 l).1 (peakFrom 0 l).2)
      (countShock (s.mapMotion fun m => { m with holdoffEnd := some (time + ms m.limits.shockHoldoff) }))) := by
  unfold detectShock
  refine if_pos ?_
  obtain ⟨hf, ht⟩ := h
  cases he : s.motion.holdoffEnd with
  | none => simp [ht]
  | some e => simp [ht, hf e he]

theorem detectShock_none {l : List Int} {time : Nat} {s : State} (h : ¬ShockFound l time s.motion) :
    detectShock l time s = s := by
  unfold detectShock
  refine if_neg fun hc => h ?_
  rw [Bool.and_eq_true, decide_eq_true_eq] at hc
  refine ⟨fun e he => ?_, hc.2⟩
  rw [he] at hc
  exact of_decide_eq_true hc.1

/-! ### The freefall and stillness detectors -/

/-- The freefall run and condition after a sample (R10). -/
def fallAfter (l : List Int) (time : Nat) (m : Motion) : Option Nat × Bool :=
  runAfter (l.all fun x => decide (x.natAbs < m.limits.freefallThreshold)) m.freefallRun m.freefall time
    (ms m.limits.freefallTime)

/-- The stillness run and condition after a sample (R11). -/
def stillAfter (r : Axes) (time : Nat) (m : Motion) : Option Nat × Bool :=
  runAfter (!differMore r m.bias m.limits.stillThreshold) m.stillRun m.still time (sec m.limits.stillTime)

/-- The Motion Front-End after the freefall and stillness detectors. -/
def Motion.rested (r : Axes) (l : List Int) (time : Nat) (m : Motion) : Motion :=
  { m with freefallRun := (fallAfter l time m).1, freefall := (fallAfter l time m).2,
           stillRun := (stillAfter r time m).1, still := (stillAfter r time m).2 }

/-- What the freefall and stillness detectors report. -/
def restReports (r : Axes) (l : List Int) (time : Nat) (m : Motion) : List Payload :=
  (if (fallAfter l time m).2 && !m.freefall then [.freefall] else []) ++
    if (stillAfter r time m).2 && !m.still then [.stillBegin] else if m.still && !(stillAfter r time m).2 then [.stillEnd] else []

/-- The conditions that the freefall and stillness detectors change. -/
def restMask (r : Axes) (l : List Int) (time : Nat) (m : Motion) : BitVec 16 :=
  condIf condFreefall ((fallAfter l time m).2 != m.freefall) ||| condIf condStill ((stillAfter r time m).2 != m.still)

/-- The change that the freefall and stillness detectors make, if any. -/
def restChanges (r : Axes) (l : List Int) (time : Nat) (m : Motion) : List Change :=
  if restMask r l time m = 0#16 then []
  else [⟨restMask r l time m, condIf condFreefall (fallAfter l time m).2 ||| condIf condStill (stillAfter r time m).2⟩]

theorem restReports_length (r : Axes) (l : List Int) (time : Nat) (m : Motion) : (restReports r l time m).length ≤ 2 := by
  unfold restReports; split_ifs <;> simp

theorem detectRest_eq (r : Axes) (l : List Int) (time : Nat) (s : State) :
    detectRest r l time s = takeEach (restChanges r l time s.motion)
      (reportAll (restReports r l time s.motion) (s.mapMotion (Motion.rested r l time))) := by
  have hr : reportAll (restReports r l time s.motion) (s.mapMotion (Motion.rested r l time)) =
      (let u := if (fallAfter l time s.motion).2 && !s.motion.freefall then
          report .freefall (s.mapMotion (Motion.rested r l time)) else s.mapMotion (Motion.rested r l time)
       if (stillAfter r time s.motion).2 && !s.motion.still then report .stillBegin u
       else if s.motion.still && !(stillAfter r time s.motion).2 then report .stillEnd u else u) := by
    unfold restReports; dsimp only; split_ifs <;> rfl
  rw [hr]
  unfold restChanges
  by_cases h0 : restMask r l time s.motion = 0#16
  · rw [if_pos h0]; exact if_pos h0
  · rw [if_neg h0]; exact if_neg h0

/-- The detectors leave the rest of the Motion Front-End as it is. -/
theorem detectRest_motion (r : Axes) (l : List Int) (time : Nat) (s : State) :
    (detectRest r l time s).motion = s.motion.rested r l time := by rw [detectRest_eq]; simp

end Sys2Proof.Machine

/-! PROOF. The ranges of StepKeepsRanges through the motion sensor's and the picture stream's operations. -/

namespace Sys2Proof.Machine

section
variable {a s : State} (h : Ranged a s)
include h

/-! ### Motion (chapter 1) -/

@[simp] theorem ranged_abortCal (r : CalReason) (n : MotionStatus) : Ranged a (abortCal r n s) := by
  unfold abortCal; split <;> simp [h]
@[simp] theorem ranged_recenterNow : Ranged a (recenterNow s) := ranged_mapFilter h fun _ => rfl
@[simp] theorem ranged_configureSensor (t : ImuSetup) : Ranged a (configureSensor t s) :=
  ranged_mapFilter (ranged_mapMotion h fun _ => by rfl) fun k => by unfold Filter.reexpressed; split <;> rfl
omit h in
/-- A move of the Motion Front-End that leaves biases in range keeps the ranges. -/
theorem RangesKept.mapMotion {f : Motion → Motion} (hf : inBiasRange (f s.motion).bias.yaw ∧
    inBiasRange (f s.motion).bias.pitch ∧ inBiasRange (f s.motion).bias.roll) : RangesKept s (s.mapMotion f) :=
  ⟨fun _ hm => ⟨hf, hm⟩, fun hi hg => ⟨hi, hg⟩, id, fun hc ht => ⟨hc, ht⟩⟩
/-- A finished calibration run sets the bias only where the three means lie in range (R16). -/
@[simp] theorem ranged_finishCal (c : CalRun) : Ranged a (finishCal c s) := by
  unfold finishCal; dsimp only
  split
  · next hb =>
    simp only [withinInt, Bool.and_eq_true, decide_eq_true_eq] at hb
    refine worked_report (ranged_recenterNow (.extra (.mapMotion ?_) h)) _
    exact ⟨hb.1.1, hb.1.2, hb.2⟩
  · exact worked_report (ranged_mapMotion h fun _ => by rfl) _
@[simp] theorem ranged_calSample (r : Axes) : Ranged a (calSample r s) := by
  unfold calSample; split
  · exact h
  · dsimp only; split
    · simp [h]
    · split <;> simp [h]
@[simp] theorem ranged_countLost (g : Nat) : Ranged a (countLost g s) :=
  ranged_mapCounters h fun c => by simp +contextual [Counters.toList, satAdd_le]
@[simp] theorem ranged_applySmoothing : Ranged a (applySmoothing s) := by
  unfold applySmoothing; split <;> simp [h]
@[simp] theorem ranged_filterSample (r : Axes) (time : Nat) : Ranged a (filterSample r time s) := by
  unfold filterSample; exact ranged_mapFilter (ranged_applySmoothing h) fun _ => rfl
@[simp] theorem ranged_fillSamples (time n : Nat) : Ranged a (fillSamples time n s) := by
  induction n generalizing s with
  | zero => exact h
  | succ n ih => exact ih (ranged_filterSample h _ _)
@[simp] theorem ranged_handOver (r : Axes) (seq time : Nat) : Ranged a (handOver r seq time s) :=
  ranged_mapMotion (ranged_filterSample h _ _) fun _ => by rfl
@[simp] theorem ranged_takeRunning (r : Axes) (seq time : Nat) : Ranged a (takeRunning r seq time s) := by
  have hc := ranged_abortCal h .moved .running
  unfold takeRunning; dsimp only; split
  · simp [h]
  · split
    · exact ranged_handOver (ranged_countLost (ranged_fillSamples hc _ _) _) _ _ _
    · exact worked_report (ranged_countLost (ranged_handOver (ranged_recenterNow hc) _ _ _) _) _
@[simp] theorem ranged_takeResumed (r : Axes) (seq time : Nat) : Ranged a (takeResumed r seq time s) :=
  ranged_takeEach (worked_report (ranged_handOver (ranged_recenterNow (ranged_mapMotion h fun _ => by rfl)) _ _ _) _) _
@[simp] theorem ranged_countShock : Ranged a (countShock s) := by
  unfold countShock; split
  · exact ranged_mapCounters (ranged_mapMotion h fun _ => by rfl) fun c => by simp +contextual [Counters.toList, satAdd_le]
  · exact ranged_mapCounters h fun c => by simp +contextual [Counters.toList, satAdd_le]
@[simp] theorem ranged_detectShock (l : List Int) (time : Nat) : Ranged a (detectShock l time s) := by
  by_cases hs : ShockFound l time s.motion
  · rw [detectShock_found hs]
    exact ranged_takeEach (worked_report (ranged_countShock (ranged_mapMotion h fun _ => by rfl)) _) _
  · rw [detectShock_none hs]; exact h
@[simp] theorem ranged_detectRest (r : Axes) (l : List Int) (time : Nat) : Ranged a (detectRest r l time s) := by
  rw [detectRest_eq]
  exact ranged_takeEach (worked_reportAll (ranged_mapMotion h fun _ => by rfl) _) _
@[simp] theorem ranged_detect (r : Axes) (l : List Int) (time : Nat) : Ranged a (detect r l time s) :=
  ranged_hand (ranged_detectRest (ranged_detectShock h _ _) _ _ _) _
@[simp] theorem ranged_takeSample (x : SampleRecord) (time : Nat) : Ranged a (takeSample x time s) := by
  have hr := ranged_detect (ranged_takeRunning h (s.motion.setup.rates x) x.seq.toNat time) (s.motion.setup.rates x)
    (accelerations x) time
  unfold takeSample; dsimp only; split
  · exact hr
  · split
    · exact ranged_calSample hr _
    · exact hr
  · exact ranged_detect (ranged_takeResumed h _ _ _) _ _ _
  · exact ranged_detectShock h _ _
  · exact h
@[simp] theorem ranged_clearRuns : Ranged a (clearRuns s) := ranged_mapMotion h fun _ => rfl
@[simp] theorem ranged_loseMotion (stamp : Nat) : Ranged a (loseMotion stamp s) := by
  have hc := ranged_clearRuns (worked_report (ranged_abortCal (ranged_mapMotion h
    (f := fun m => { m with status := .lost }) fun _ => rfl) .moved .lost) (.motionLost stamp))
  unfold loseMotion; dsimp only; split <;> simp [hc]
@[simp] theorem ranged_motionReset : Ranged a (motionReset s) :=
  ranged_hand (ranged_mapMotion (ranged_clearRuns (ranged_abortCal h _ _)) fun _ => by rfl) _
@[simp] theorem ranged_motionSleep (watch : Bool) : Ranged a (motionSleep watch s) := by
  have hc := ranged_clearRuns (ranged_mapMotion (ranged_abortCal h .reset .running)
    (f := fun m => { m with reading := none, checking := false }) fun _ => rfl)
  have hr := worked_report hc .stillEnd
  unfold motionSleep; dsimp only; split <;> split <;> simp [hc, hr]
@[simp] theorem ranged_applyImu : Ranged a (applyImu s) := by
  unfold applyImu; split <;> simp [h]
@[simp] theorem ranged_selectImu (t : ImuSetup) : Ranged a (selectImu t s) := by
  have hm := ranged_mapLink (ranged_mapMotion h (f := fun m => { m with setup := t, expected := none }) fun _ => rfl)
    (f := fun l => { l with waitImu := none }) (fun _ => rfl) fun _ => rfl
  unfold selectImu; dsimp only; split_ifs
  · exact ranged_abortCal (ranged_recenterNow (ranged_configureSensor hm t)) _ _
  · simp [h]
  · simp [h]
@[simp] theorem ranged_endCheck (ident : Option Nat) : Ranged a (endCheck ident s) := by
  have hc := ranged_abortCal (ranged_applyImu h) .reset .running
  have hm : Ranged a (if ident = some (abortCal .reset .running (applyImu s)).motion.setup.identity then
      configureSensor (abortCal .reset .running (applyImu s)).motion.setup ((abortCal .reset .running (applyImu s)).mapMotion
        fun m => { m with status := .running, expected := none, lastStamp := none })
      else report (.imuAbsent ident (abortCal .reset .running (applyImu s)).motion.setup.identity)
        ((abortCal .reset .running (applyImu s)).mapMotion fun m => { m with status := .absent })) := by
    split <;> simp [hc]
  unfold endCheck
  exact ranged_mapMotion (ranged_rePrime (ranged_setLevel (ranged_recenterNow hm) _ _)) fun _ => rfl
@[simp] theorem ranged_onCalibrate (tag : Byte) (p : Bytes) : Ranged a (onCalibrate tag p s) :=
  ranged_directive h (fun s h => by split <;> simp [h]) _ _ _ _

/-! ### Frames (chapters 2 and 3) -/

@[simp] theorem ranged_updateFrame (f : FrameRec → FrameRec) : Ranged a (updateFrame f s) := ranged_mapFrame h _
@[simp] theorem ranged_longLine (r : FrameRec) : Ranged a (longLine r s) := by
  unfold longLine; split
  · exact h
  · exact ranged_mapCounters (ranged_updateFrame h _) fun c => by simp +contextual [Counters.toList, satAdd_le]
@[simp] theorem ranged_enterLine (g : Geometry) (r : FrameRec) (px : List Nat) : Ranged a (enterLine g r px s) := by
  have hc := ranged_mapCounters h (f := fun c => { c with paddedLines := satAdd c.paddedLines 1 })
    fun c => by simp +contextual [Counters.toList, satAdd_le]
  unfold enterLine; dsimp only; split <;> simp [h, hc]
@[simp] theorem ranged_countBand (b : BandRec) (k : Bool) : Ranged a (countBand b k s) :=
  ranged_mapCounters h fun c => by simp +contextual [Counters.toList, satAdd_le]
@[simp] theorem ranged_bandCorrection (g : Geometry) (r : FrameRec) (e : LensEntry) (t : Nat) (q : Option Int) :
    Ranged a (bandCorrection g r e t q s).2 := by
  unfold bandCorrection; split <;> simp [h]
@[simp] theorem ranged_decideBand (g : Geometry) (n : Nat) : Ranged a (decideBand g n s) := by
  unfold decideBand; split
  · exact h
  · dsimp only; split <;> simp [h]
@[simp] theorem ranged_cutNext (g : Geometry) (r : FrameRec) : Ranged a (cutNext g r s).2 := by
  unfold cutNext; dsimp only; split
  · exact ranged_mapCounters h fun c => by simp +contextual [Counters.toList, satAdd_le]
  · exact h
@[simp] theorem ranged_sendRow (r : FrameRec) (px : List Nat) : Ranged a (sendRow r px s) := by
  unfold sendRow; dsimp only; split
  · exact ranged_updateFrame (ranged_emit (ranged_drainRoom h) _) _
  · exact ranged_updateFrame (ranged_emit h _) _
@[simp] theorem ranged_slotAfter (g : Geometry) (r : FrameRec) : Ranged a (slotAfter g r s) := by
  unfold slotAfter; split <;> simp [h]
@[simp] theorem ranged_dropPacket (r : IntakeRec) (st : Stream) (pts : Nat) : Ranged a (dropPacket r st pts s) := by
  have hc := worked_updateClip (ranged_mapCounters h (f := fun c => { c with packetsDropped := satAdd c.packetsDropped 1 })
    fun c => by simp +contextual [Counters.toList, satAdd_le]) r.clip fun c => { c with flags := { c.flags with gap := true } }
  unfold dropPacket; dsimp only; split <;> simp [hc]
@[simp] theorem ranged_trackVideo (c pts : Nat) (sync : Bool) : Ranged a (trackVideo c pts sync s) :=
  worked_updateClip (worked_updateIntake h _) _ _
@[simp] theorem ranged_packOrDrop (r : IntakeRec) (st : Stream) (f : Byte) (pts : Nat) (p : Bytes) :
    Ranged a (packOrDrop r st f pts p s) := by
  unfold packOrDrop; dsimp only; split
  · split
    · exact worked_judgeHold (ranged_trackVideo (worked_mapIntake h _) _ _ _)
    · simp [h]
  · simp [h]
@[simp] theorem ranged_motionPacket (t : Trailer) : Ranged a (motionPacket t s) := by
  unfold motionPacket; split
  · split <;> simp [h]
  · exact h
@[simp] theorem ranged_buildTrailer : Ranged a (buildTrailer s) := by
  unfold buildTrailer; split
  · exact h
  · next r _ =>
    have hm := ranged_motionPacket (ranged_mapFrame h fun f => { f with trailer := some r.trailer }) r.trailer
    dsimp only; split
    · exact ranged_leaveAll (ranged_mapFrame (ranged_mapCounters (ranged_pulse hm _)
        fun c => by simp +contextual [Counters.toList, satAdd_le]) _)
    · exact ranged_leaveAll (ranged_mapFrame (ranged_mapCounters hm
        fun c => by simp +contextual [Counters.toList, satAdd_le]) _)
@[simp] theorem ranged_releaseRows (g : Geometry) (n : Nat) : Ranged a (releaseRows g n s) := by
  induction n generalizing s with
  | zero => exact h
  | succ n ih =>
    unfold releaseRows; split
    · exact h
    · next r _ =>
      have hr := ranged_sendRow (ranged_cutNext h g r) r (cutNext g r s).1
      dsimp only; split
      · split
        · exact ih (ranged_fillSlot hr)
        · exact ranged_buildTrailer hr
      · exact h
@[simp] theorem ranged_finishRows (g : Geometry) (n : Nat) : Ranged a (finishRows g n s) := by
  induction n generalizing s with
  | zero => exact h
  | succ n ih =>
    unfold finishRows; split
    · exact h
    · next r _ =>
      dsimp only; split
      · split
        · exact ih (ranged_slotAfter (ranged_sendRow (ranged_cutNext h g r) _ _) _ _)
        · exact ih (ranged_slotAfter (ranged_sendRow h _ _) _ _)
      · exact h
@[simp] theorem ranged_endShort : Ranged a (endShort s) := by
  unfold endShort; split
  · exact h
  · exact ranged_mapCounters (ranged_buildTrailer (ranged_finishRows (ranged_updateFrame h _) _ _))
      fun c => by simp +contextual [Counters.toList, satAdd_le]
@[simp] theorem ranged_applyPending : Ranged a (applyPending s) := by
  have hm : ∀ f : Frame → Frame, Ranged a ((s.mapFrame f).mapLink fun l => { l with waitLens := none }) :=
    fun f => ranged_mapLink (ranged_mapFrame h f) (fun _ => rfl) fun _ => rfl
  unfold applyPending; dsimp only; split
  · exact hm _
  · exact ranged_mapFilter (hm _) fun _ => rfl
omit h in
/-- The mode that Table 2-4 gives is OFF, STEADY or ECO (R36). -/
theorem resolvedMode_ne (s : State) : resolvedMode s ≠ .steadyWhileRecording := by
  unfold resolvedMode
  split
  · simp
  · split
    · split <;> simp
    · split
      · split <;> simp
      · next hm => exact fun hr => hm hr
@[simp] theorem ranged_resolveMode : Ranged a (resolveMode s) := by
  unfold resolveMode; dsimp only; split
  · exact h
  · exact ranged_setLevel (worked_report (.extra ⟨fun hb _ => ⟨hb, resolvedMode_ne s⟩, fun hi hg => ⟨hi, hg⟩, id,
      fun hc ht => ⟨hc, ht⟩⟩ h) _) _ _
@[simp] theorem ranged_beginFrame (n : BitVec 16) : Ranged a (beginFrame n s) := by
  unfold beginFrame; split
  · exact ranged_mapCounters (ranged_mapFrame h _) fun c => by simp +contextual [Counters.toList, satAdd_le]
  · simp [h]
@[simp] theorem ranged_frameReset : Ranged a (frameReset s) := ranged_mapFrame h _
@[simp] theorem ranged_frameSleep : Ranged a (frameSleep s) := by
  unfold frameSleep; dsimp only; split <;> simp [h]
@[simp] theorem ranged_takeLine (px : List Nat) : Ranged a (takeLine px s) := by
  unfold takeLine; split
  · split
    · simp [h]
    · dsimp only; split
      · exact ranged_releaseRows (ranged_decideBand (ranged_enterLine h _ _ _) _ _) _ _
      · simp [h]
  · exact h
@[simp] theorem ranged_onSetMode (tag : Byte) (p : Bytes) : Ranged a (onSetMode tag p s) :=
  ranged_directive h (fun s h => by split <;> (try split) <;> simp [h]) _ _ _ _
@[simp] theorem ranged_onRecenter (tag : Byte) (p : Bytes) : Ranged a (onRecenter tag p s) :=
  ranged_directive h (fun s h => by simp [h]) _ _ _ _
@[simp] theorem ranged_onSetGeometry (tag : Byte) (p : Bytes) : Ranged a (onSetGeometry tag p s) :=
  ranged_directive h (fun s h => by dsimp only; split <;> simp [h]) _ _ _ _
@[simp] theorem ranged_onSetLens (tag : Byte) (p : Bytes) : Ranged a (onSetLens tag p s) :=
  ranged_directive h (fun s h => by split <;> simp [h]) _ _ _ _
@[simp] theorem ranged_onSetExposure (tag : Byte) (p : Bytes) : Ranged a (onSetExposure tag p s) :=
  ranged_directive h (fun s h => by simp [h]) _ _ _ _

end

end Sys2Proof.Machine

/-! PROOF. The ranges of StepKeepsRanges through the operations of the clips, the store and the card. -/

namespace Sys2Proof.Machine

section
variable {a s : State} (h : Ranged a s)
include h

/-! ### Clips (chapter 4) -/

@[simp] theorem ranged_discardPacket : Ranged a (discardPacket s) :=
  ranged_mapCounters h fun c => by simp +contextual [Counters.toList, satAdd_le]
@[simp] theorem ranged_splitClip (c : Clip) : Ranged a (splitClip c s).2 := by
  have ho := worked_openingTest (worked_updateClip (worked_completePacking h c.number) c.number (setClosing .split))
  unfold splitClip; dsimp only; split
  · exact worked_judgeStore (worked_freshIntake (worked_openRecord ho _ _ _ _) _)
  · dsimp only
    exact worked_afterClose (worked_setWriter (worked_endIntake (worked_updateClip ho _ _)) _)
@[simp] theorem ranged_acceptPacket (c : Clip) (r : IntakeRec) (st : ClipStream) (f : Byte) (pts : Nat) (p : Bytes) :
    Ranged a (acceptPacket c r st f pts p s) := by
  have hs := ranged_splitClip (worked_startStall h) c
  unfold acceptPacket; dsimp only
  generalize splitClip c (startStall s) = t at hs
  split
  · split
    · split
      · exact ranged_packOrDrop hs _ _ _ _ _
      · exact hs
    · exact ranged_discardPacket hs
  · exact ranged_packOrDrop (worked_startStall h) _ _ _ _ _
@[simp] theorem ranged_takeClipPacket (st : ClipStream) (f : Byte) (pts : Nat) (p : Bytes) :
    Ranged a (takeClipPacket st f pts p s) := by
  unfold takeClipPacket; split
  · split <;> simp [h]
  · simp [h]

/-! ### The store (chapter 5) -/

@[simp] theorem ranged_toUnmounted : Ranged a (toUnmounted s) := worked_judgeStore (ranged_mapStore h _)
@[simp] theorem ranged_stopScan : Ranged a (stopScan s) := by
  unfold stopScan; split <;> simp [h]
@[simp] theorem ranged_onMount (tag : Byte) (p : Bytes) : Ranged a (onMount tag p s) :=
  ranged_directive h (fun s h => by
    have hm := fun f => worked_judgeStore (ranged_mapStore (worked_answer h 64 tag .ok []) f)
    dsimp only
    split_ifs
    · simp [h]
    · simp [h]
    · exact hm _
    · exact hm _) _ _ _ _
@[simp] theorem ranged_onUnmount (tag : Byte) (p : Bytes) : Ranged a (onUnmount tag p s) :=
  ranged_directive h (fun s h => by
    have hk := worked_answer h 65 tag .ok []
    split
    · simp [h]
    · simp [hk]
    · split
      · simp [h]
      · simp [hk]
    · simp [hk]) _ _ _ _
@[simp] theorem ranged_onStartRecording (tag : Byte) (p : Bytes) : Ranged a (onStartRecording tag p s) :=
  ranged_directive h (fun _ h => ranged_answerThen h (fun _ h => worked_startRecording h _) _ _) _ _ _ _
@[simp] theorem ranged_onStopRecording (tag : Byte) (p : Bytes) : Ranged a (onStopRecording tag p s) :=
  ranged_directive h (fun s h => by split <;> simp [h]) _ _ _ _
@[simp] theorem ranged_onMark (tag : Byte) (p : Bytes) : Ranged a (onMark tag p s) :=
  ranged_directive h (fun s h => by simp [h]) _ _ _ _
omit h in
/-- A directive that names a clip keeps the ranges where its effect on the clip does. -/
theorem ranged_onClip {f : Clip → State → AnswerCode × State} (hf : ∀ c s, Ranged a s → Ranged a (f c s).2) (n : Nat)
    (h : Ranged a s) : Ranged a (onClip n f s).2 := by
  unfold onClip; split
  · exact h
  · split
    · exact h
    · exact hf _ _ h
@[simp] theorem ranged_unlockRecord (c : Clip) : Ranged a (unlockRecord c s).2 := by
  unfold unlockRecord; split
  · exact h
  · split <;> simp [h]
@[simp] theorem ranged_deleteRecord (c : Clip) : Ranged a (deleteRecord c s).2 := by
  unfold deleteRecord; split
  · exact h
  · split <;> simp [h]
@[simp] theorem ranged_onLockClip (tag : Byte) (p : Bytes) : Ranged a (onLockClip tag p s) :=
  ranged_directive h (fun _ h => ranged_answerThen h (fun _ h => ranged_onClip (fun c _ h => worked_lockRecord h c) _ h) _ _)
    _ _ _ _
@[simp] theorem ranged_onUnlockClip (tag : Byte) (p : Bytes) : Ranged a (onUnlockClip tag p s) :=
  ranged_directive h (fun _ h => ranged_answerThen h (fun _ h => ranged_onClip (fun c _ h => ranged_unlockRecord h c) _ h) _ _)
    _ _ _ _
@[simp] theorem ranged_onDeleteClip (tag : Byte) (p : Bytes) : Ranged a (onDeleteClip tag p s) :=
  ranged_directive h (fun _ h => ranged_answerThen h (fun _ h => ranged_onClip (fun c _ h => ranged_deleteRecord h c) _ h) _ _)
    _ _ _ _
@[simp] theorem ranged_onReadIndex (tag : Byte) (p : Bytes) : Ranged a (onReadIndex tag p s) :=
  ranged_directive h (fun s h => by dsimp only; split_ifs <;> simp [h]) _ _ _ _
@[simp] theorem ranged_onReadClip (tag : Byte) (p : Bytes) : Ranged a (onReadClip tag p s) :=
  ranged_directive h (fun s h => by split <;> (try split) <;> simp [h]) _ _ _ _

/-! ### The ends of writes (R93 to R99, R121) -/

@[simp] theorem ranged_setPhase (n : Nat) (p : Phase) : Ranged a (setPhase n p s) := worked_updateClip h _ _
@[simp] theorem ranged_setCardFlag (n : Nat) : Ranged a (setCardFlag n s) := worked_updateClip h _ _
@[simp] theorem ranged_burstDone (n e k : Nat) (hd ct : Bool) : Ranged a (burstDone n e k hd ct s) := by
  have hu := worked_updateClip (worked_updateOwned (worked_mapIntake h fun i => { i with buffer := i.buffer.drop k }) e
    fun o => { o with data := o.data + k + (if hd then 1 else 0) }) n fun c => { c with dataBlocks := c.dataBlocks + k }
  have hp := fun (c : Prop) [Decidable c] => worked_ite (c := c) (ranged_setPhase hu n .fullDue) hu
  exact worked_judgeHold (worked_ite (worked_countFlush (hp _) _) (hp _))
@[simp] theorem ranged_writerOk (w : WWrite) : Ranged a (writerOk w s) := by
  have hc := worked_clearRetry h
  unfold writerOk; dsimp only; split <;> simp [hc]
@[simp] theorem ranged_leaveChain (n e : Nat) : Ranged a (leaveChain n e s) := by
  unfold leaveChain; split
  · exact h
  · next c _ =>
    dsimp only
    cases s.store.prevOf c e with
    | some p => exact worked_judgeStore (worked_updateClip (worked_updateOwned (ranged_mapStore h _) _ _) _ _)
    | none => exact worked_judgeStore (worked_updateClip (ranged_mapStore h _) _ _)
@[simp] theorem ranged_giveUp (w : WWrite) : Ranged a (giveUp w s) := by
  have hc := worked_clearRetry h
  unfold giveUp; dsimp only; split
  · simp [hc]
  · split <;> simp [hc]
  · simp [hc]
  · simp [hc]
  · exact worked_afterClose (worked_closeClip (ranged_setCardFlag hc _) _)
@[simp] theorem ranged_writerError (w : WWrite) : Ranged a (writerError w s) := by
  unfold writerError; split <;> simp [h]

/-! ### The scan (R86 to R88) -/

@[simp] theorem ranged_rebuild (found : List Finding) : Ranged a (rebuild found s) := by
  unfold rebuild; exact worked_judgeStore (worked_report (ranged_mapStore (ranged_mapStore h _) _) _)
@[simp] theorem ranged_scanFound (f : Finding) : Ranged a (scanFound f s) := by
  unfold scanFound; split
  · exact h
  · dsimp only; split <;> simp [h]
@[simp] theorem ranged_scanOk (d : Bytes) : Ranged a (scanOk d s) := by
  unfold scanOk; split
  · exact h
  · split <;> simp [h]
@[simp] theorem ranged_scanError : Ranged a (scanError s) := by
  unfold scanError; split
  · exact h
  · split_ifs <;> simp [h]

/-! ### FAULT (R90) -/

theorem ranged_faultRecord (n : Nat) : Ranged a (faultRecord s n) := by
  have hu := worked_updateClip h n faultClip
  unfold faultRecord; dsimp only; split
  · split <;> simp [hu]
  · exact hu
@[simp] theorem ranged_enterFault (c : FaultCause) : Ranged a (enterFault c s) := by
  unfold enterFault; split
  · have hf := worked_foldl (ranged_mapStore h fun st => { st with flush := none }) (fun _ n h => ranged_faultRecord h n)
      ((s.store.index.filter Clip.live).map Clip.number)
    exact worked_judgeStore (worked_judgeHold (worked_report (worked_mapCard (ranged_mapStore (worked_endIntake
      (worked_mapIntake hf _)) _) _) _))
  · exact h

/-! ### The card (chapter 6) -/

@[simp] theorem ranged_takePass (d : Nat) (tag : Byte) (k : OpKind) (x n : Nat) (b : Bytes) :
    Ranged a (takePass d tag k x n b s) := by
  unfold takePass; split_ifs <;> simp [h]
@[simp] theorem ranged_onCardRead (tag : Byte) (p : Bytes) : Ranged a (onCardRead tag p s) :=
  ranged_directive h (fun s h => by dsimp only; split <;> simp [h]) _ _ _ _
@[simp] theorem ranged_onCardWrite (tag : Byte) (p : Bytes) : Ranged a (onCardWrite tag p s) :=
  ranged_directive h (fun s h => by dsimp only; split_ifs <;> simp [h]) _ _ _ _
@[simp] theorem ranged_cardIdle : Ranged a (cardIdle s) := worked_mapCard h _
@[simp] theorem ranged_updateError : Ranged a (updateError s) := by
  unfold updateError; split
  · exact h
  · split_ifs <;> simp [h]
@[simp] theorem ranged_endPass (c : AnswerCode) (d : Bytes) : Ranged a (endPass c d s) := by
  unfold endPass; split <;> simp [h]
@[simp] theorem ranged_failPass : Ranged a (failPass s) := by
  unfold failPass; split <;> simp [h]
@[simp] theorem ranged_tellOk (o : CardOp) (d : Bytes) : Ranged a (tellOk o d s) := by
  unfold tellOk; split <;> simp [h]
@[simp] theorem ranged_tellError (o : CardOp) : Ranged a (tellError o s) := by
  unfold tellError; split <;> simp [h]
@[simp] theorem ranged_cardFail : Ranged a (cardFail s) :=
  ranged_failPass (worked_mapCard (ranged_enterFault (worked_report (worked_mapCard h _) _) _) _)
@[simp] theorem ranged_opError (o : CardOp) (k : Bool) : Ranged a (opError o k s) := by
  have hp := ranged_pulse (worked_report (worked_mapCard (ranged_mapCounters h
    (f := fun c => { c with cardErrors := satAdd c.cardErrors 1 }) fun c => by simp +contextual [Counters.toList, satAdd_le])
    fun c => { c with fails := s.card.fails + 1 })
    (.cardError o.cls o.kind o.addr o.count k (s.card.fails + 1))) condCardError
  unfold opError; dsimp only; split <;> simp [hp]
@[simp] theorem ranged_opOk (o : CardOp) (d : Bytes) : Ranged a (opOk o d s) :=
  ranged_tellOk (worked_mapCard (ranged_cardIdle h) _) _ _
@[simp] theorem ranged_takeCompletion (ok : Bool) (d : Bytes) : Ranged a (takeCompletion ok d s) := by
  unfold takeCompletion; split
  · simp [h]
  · split
    · split <;> simp [h]
    · exact h

end

end Sys2Proof.Machine

/-! PROOF. The ranges of StepKeepsRanges through the charge, power and link commands, and through every step. -/

namespace Sys2Proof.Machine

/-! ### The evaluation's stages (chapter 8) -/

theorem suspension_none {b : Band} {tier : Tier} (h : suspension b tier = none) : tier ≠ .limit ∧ tier ≠ .cutoff := by
  cases b <;> simp_all [suspension]

/-- Stage 3 gives a charging state in tiers below LIMIT alone (R147, R149). -/
theorem moved_charging {c : Charge} {b : Band} {tier : Tier} (h : (c.moved b tier).1.charging = true) :
    tier ≠ .limit ∧ tier ≠ .cutoff := by
  cases hs : suspension b tier with
  | none => exact suspension_none hs
  | some r =>
    simp only [Charge.moved, hs] at h
    split_ifs at h <;> simp [ChargeState.charging] at h

/-- What stage 5 may change erased. -/
def Charge.untimed (c : Charge) : Charge :=
  { c with preTimer := 0, chargeTimer := 0, state := .fault, reason := .none, setpoint := 0, termCount := 0 }

theorem stage5_untimed (c : Charge) : c.stage5.untimed = c.untimed := by
  unfold Charge.stage5; split
  · rfl
  · split
    · dsimp only; split <;> rfl
    · dsimp only; split <;> rfl
    · dsimp only; split <;> rfl
    · rfl

/-- What `Charge.untimed` keeps, stage 5 keeps. -/
theorem stage5_keeps {α : Type} (f : Charge → α) (h : ∀ c : Charge, f c.untimed = f c) (c : Charge) : f c.stage5 = f c := by
  rw [← h c.stage5, stage5_untimed, h]

/-- Stage 5 leaves the state with a setpoint above 0 as it is, or clears the setpoint and enters FAULT. -/
theorem stage5_setpoint (c : Charge) (hc : c.state ≠ .taper → c.termCount = 0) :
    (c.stage5.setpoint ≠ 0 → c.stage5.setpoint = c.setpoint ∧ c.stage5.state = c.state) ∧
      (c.stage5.state ≠ .taper → c.stage5.termCount = 0) := by
  unfold Charge.stage5; split
  · next h0 => exact ⟨fun h => absurd h0 h, hc⟩
  · split
    · next hs => dsimp only; split <;> simp [hc, hs]
    · next hs => dsimp only; split <;> simp [hc, hs]
    · next hs => dsimp only; split <;> simp [hs]
    · exact ⟨fun _ => ⟨rfl, rfl⟩, hc⟩

/-- A CHARGE page leaves the gauge within its capacity (R159). -/
theorem withTab_gauge {t : ChargeTab} {c : Charge} (h : c.cq ≤ c.tab.capacityUnits) :
    (c.withTab t).cq ≤ (c.withTab t).tab.capacityUnits := by
  unfold Charge.withTab ChargeTab.capacityUnits at *
  dsimp only
  split
  · next he => rw [he]; exact h
  · refine Nat.div_le_of_le_mul ?_
    calc c.cq * t.capacity ≤ c.tab.capacity * Config.countsPerMah * t.capacity := Nat.mul_le_mul_right _ h
      _ = c.tab.capacity * (t.capacity * Config.countsPerMah) := by ring

theorem stage6_gauge {c : Charge} (full : Bool) (h : c.cq ≤ c.tab.capacityUnits) :
    (c.stage6 full).cq ≤ (c.stage6 full).tab.capacityUnits := by
  unfold Charge.stage6
  split
  · exact le_rfl
  · split
    · dsimp only [clampInt]; split_ifs <;> omega
    · exact h

/-- Regulation keeps the input limit between 100 mA and ILIM_host (R154). -/
theorem regulated_bounds {c : Charge} {e : Nat} (h1 : 100 ≤ c.ilimHost) (h2 : 100 ≤ e) (h3 : e ≤ c.ilimHost) :
    100 ≤ c.regulated e ∧ c.regulated e ≤ c.ilimHost := by
  unfold Charge.regulated; split_ifs <;> omega

/-! ### Moves of the Charge Controller -/

theorem RangesKept.mapCharge {s : State} {f : Charge → Charge}
    (hg : InputLimitBounded s → GaugeBounded s → InputLimitBounded (s.mapCharge f) ∧ GaugeBounded (s.mapCharge f))
    (hs : SetpointAllowed s → SetpointAllowed (s.mapCharge f)) : RangesKept s (s.mapCharge f) :=
  ⟨fun hb hm => ⟨hb, hm⟩, hg, hs, fun hc ht => ⟨hc, ht⟩⟩

/-- What the ranges look at in the Charge Controller. -/
def Charge.core (c : Charge) : Nat × Bool × Option Nat × Nat × Nat × ChargeState × Nat × Nat :=
  (c.ilimHost, c.vin, c.ilimEff, c.cq, c.tab.capacityUnits, c.state, c.setpoint, c.termCount)

theorem RangesKept.mapCharge_core {s : State} {f : Charge → Charge} (h : (f s.charge).core = s.charge.core) :
    RangesKept s (s.mapCharge f) := by
  simp only [Charge.core, Prod.mk.injEq] at h
  obtain ⟨h1, h2, h3, h4, h5, h6, h7, h8⟩ := h
  refine .mapCharge ?_ ?_
  · unfold InputLimitBounded GaugeBounded
    rw [State.mapCharge_charge, h1, h2, h3, h4, h5]; exact fun h k => ⟨h, k⟩
  · unfold SetpointAllowed
    rw [State.mapCharge_charge, State.mapCharge_thermal, h6, h7, h8]; exact id

/-- Stages 1 to 5 leave the gauge alone, and of the input limit make the regulated one while VIN is present. -/
theorem evaluated_limits (tier : Tier) (c : Charge) :
    (c.evaluated tier).1.ilimHost = c.ilimHost ∧ (c.evaluated tier).1.vin = c.vin ∧
      (c.evaluated tier).1.ilimEff = (if c.vin then c.ilimEff.map c.regulated else c.ilimEff) ∧
      (c.evaluated tier).1.cq = c.cq ∧ (c.evaluated tier).1.tab = c.tab :=
  ⟨stage5_keeps Charge.ilimHost (fun _ => rfl) _, stage5_keeps Charge.vin (fun _ => rfl) _,
    stage5_keeps Charge.ilimEff (fun _ => rfl) _, stage5_keeps Charge.cq (fun _ => rfl) _,
    stage5_keeps Charge.tab (fun _ => rfl) _⟩

/-- After stages 1 to 5 the setpoint is above 0 in a charging state and in tiers below LIMIT alone, and the termination count
in TAPER alone. -/
theorem evaluated_setpoint (tier : Tier) (c : Charge) :
    ((c.evaluated tier).1.setpoint ≠ 0 → (c.evaluated tier).1.state.charging = true ∧ tier ≠ .limit ∧ tier ≠ .cutoff) ∧
      ((c.evaluated tier).1.state ≠ .taper → (c.evaluated tier).1.termCount = 0) := by
  unfold Charge.evaluated
  dsimp only
  generalize c.tab.nextBand c.band c.meas.batTemp = b
  generalize { c with band := some b, ilimEff := if c.vin then c.ilimEff.map c.regulated else c.ilimEff } = u
  have h5 := stage5_setpoint { u.stage3 b tier with
    setpoint := (u.stage3 b tier).nextSetpoint b tier, voltage := (u.stage3 b tier).tab.voltage b }
    fun ht => by simp only [Charge.stage3] at ht ⊢; simp [ht]
  refine ⟨fun hp => ?_, h5.2⟩
  obtain ⟨h1, h2⟩ := h5.1 hp
  have hc : (u.stage3 b tier).state.charging = true := by
    by_contra hn
    rw [h1] at hp
    exact hp (by simp [Charge.nextSetpoint, hn])
  rw [h2]
  exact ⟨hc, moved_charging hc⟩

/-- The Charge Controller after the evaluation (R146). -/
def evaluatedCharge (s : State) : Charge :=
  (((chargeReady s).evaluated s.thermal.tier).1.stage6 ((chargeReady s).evaluated s.thermal.tier).2).judged

/-- Stages 6 and 7 leave alone what the ranges look at but for the gauge. -/
theorem judged_core (c : Charge) (full : Bool) :
    (c.stage6 full).judged.core = { c with cq := (c.stage6 full).cq }.core := by
  unfold Charge.stage6; split_ifs <;> rfl

/-- A waiting CHARGE page leaves all that the ranges look at but the gauge and its capacity. -/
theorem chargeReady_cases (s : State) : chargeReady s = s.charge ∨ ∃ t, chargeReady s = s.charge.withTab t := by
  unfold chargeReady; split
  · exact .inr ⟨_, rfl⟩
  · exact .inl rfl

theorem evaluatedCharge_gauged {s : State} (hi : InputLimitBounded s) (hg : GaugeBounded s) :
    InputLimitBounded (s.mapCharge fun _ => evaluatedCharge s) ∧ GaugeBounded (s.mapCharge fun _ => evaluatedCharge s) := by
  obtain ⟨hlo, hhi, heff⟩ := hi
  have hr : (chargeReady s).ilimHost = s.charge.ilimHost ∧ (chargeReady s).vin = s.charge.vin ∧
      (chargeReady s).ilimEff = s.charge.ilimEff ∧ (chargeReady s).cq ≤ (chargeReady s).tab.capacityUnits := by
    obtain he | ⟨t, he⟩ := chargeReady_cases s
    · rw [he]; exact ⟨rfl, rfl, rfl, hg⟩
    · rw [he]; exact ⟨rfl, rfl, rfl, withTab_gauge hg⟩
  obtain ⟨hh, hv, he, hq⟩ := hr
  obtain ⟨eh, ev, ee, eq, et⟩ := evaluated_limits s.thermal.tier (chargeReady s)
  have hk := judged_core ((chargeReady s).evaluated s.thermal.tier).1 ((chargeReady s).evaluated s.thermal.tier).2
  simp only [Charge.core, Prod.mk.injEq] at hk
  obtain ⟨kh, kv, ke, kq, kt, -⟩ := hk
  have hb := fun e => @regulated_bounds (chargeReady s) e
  constructor
  · unfold InputLimitBounded evaluatedCharge
    rw [State.mapCharge_charge, kh, kv, ke, eh, ev, ee, hh, hv, he]
    refine ⟨hlo, hhi, ?_⟩
    cases hp : s.charge.vin <;> cases hl : s.charge.ilimEff <;> simp only [hp, hl] at heff ⊢ <;> simp at heff ⊢
    rw [← hh] at heff ⊢
    exact hb _ (by rw [hh]; exact hlo) heff.1 heff.2
  · unfold GaugeBounded evaluatedCharge
    rw [State.mapCharge_charge, kq, kt]
    have h6 := stage6_gauge ((chargeReady s).evaluated s.thermal.tier).2 (c := ((chargeReady s).evaluated s.thermal.tier).1)
      (by rw [eq, et]; exact hq)
    refine h6.trans (le_of_eq ?_)
    unfold Charge.stage6; split_ifs <;> rfl

theorem evaluatedCharge_setpoint (s : State) : SetpointAllowed (s.mapCharge fun _ => evaluatedCharge s) := by
  have hk := judged_core ((chargeReady s).evaluated s.thermal.tier).1 ((chargeReady s).evaluated s.thermal.tier).2
  simp only [Charge.core, Prod.mk.injEq] at hk
  obtain ⟨-, -, -, -, -, hs, hp, ht⟩ := hk
  unfold SetpointAllowed evaluatedCharge
  rw [State.mapCharge_charge, State.mapCharge_thermal, hs, hp, ht]
  exact evaluated_setpoint _ _

/-- The tier takes a new value, and a rise to LIMIT or above clears the setpoint (R165). -/
def tierSet (new : Tier) (s : State) : State :=
  (s.mapThermal fun t => { t with tier := new }).mapCharge fun c =>
    { c with setpoint := if 2 ≤ new.code ∧ s.thermal.tier.code < new.code then 0 else c.setpoint }

theorem rangesKept_tierSet (new : Tier) (s : State) : RangesKept s (tierSet new s) := by
  refine ⟨fun hb hm => ⟨hb, hm⟩, fun hi hg => ⟨hi, hg⟩, fun hs => ?_, fun hc ht => ⟨hc, ht⟩⟩
  obtain ⟨hp, ht⟩ := hs
  refine ⟨fun h0 => ?_, ht⟩
  unfold tierSet at h0 ⊢
  simp only [State.mapCharge_charge, State.mapCharge_thermal, State.mapThermal_charge, State.mapThermal_thermal] at h0 ⊢
  split at h0
  · exact absurd rfl h0
  · obtain ⟨hc, hl, hk⟩ := hp h0
    refine ⟨hc, ?_⟩
    cases new <;> cases ho : s.thermal.tier <;> simp_all [Tier.code]

section
variable {a s : State} (h : Ranged a s)
include h

theorem ranged_mapCharge {f : Charge → Charge} (hf : (f s.charge).core = s.charge.core) : Ranged a (s.mapCharge f) :=
  .extra (.mapCharge_core hf) h
@[simp] theorem ranged_reportCharge (o c : Charge) : Ranged a (reportCharge o c s) := worked_report h _
@[simp] theorem ranged_evaluate : Ranged a (evaluate s) := by
  have hc := ranged_mapLink (.extra (.mapCharge (evaluatedCharge_gauged (s := s)) fun _ => evaluatedCharge_setpoint s) h)
    (f := fun l => { l with waitCharge := none }) (fun _ => rfl) fun _ => rfl
  exact ranged_hand (worked_ite (ranged_reportCharge hc _ _) hc) _

/-! ### The charge directives -/

@[simp] theorem ranged_onSetInputLimit (tag : Byte) (p : Bytes) : Ranged a (onSetInputLimit tag p s) :=
  ranged_directive h (fun s h => by
    refine worked_answer (.extra (.mapCharge (fun hi hg => ⟨?_, hg⟩) id) h) _ _ _ _
    obtain ⟨hlo, hhi, heff⟩ := hi
    refine ⟨by simp, by simp, ?_⟩
    simp only [State.mapCharge_charge]
    cases hv : s.charge.vin <;> cases hl : s.charge.ilimEff <;> simp only [hv, hl] at heff ⊢ <;> simp at heff ⊢
    omega) _ _ _ _
@[simp] theorem ranged_onSetChargeRequest (tag : Byte) (p : Bytes) : Ranged a (onSetChargeRequest tag p s) :=
  ranged_directive h (fun _ h => worked_answer (ranged_mapCharge h rfl) _ _ _ _) _ _ _ _
@[simp] theorem ranged_onChargeRestart (tag : Byte) (p : Bytes) : Ranged a (onChargeRestart tag p s) :=
  ranged_directive h (fun s h => by
    split
    · next hf =>
      have hk : (answer 82 tag .ok [] s).charge = s.charge := enqueueAnswer_keeps State.charge (fun _ => rfl) _ s
      refine ranged_reportCharge (.extra (.mapCharge (fun hi hg => ?_) fun hs => ?_) (worked_answer h 82 tag .ok [])) _ _
      · unfold InputLimitBounded at hi; unfold GaugeBounded at hg
        rw [hk] at hi hg
        exact ⟨hi, hg⟩
      · unfold SetpointAllowed at hs
        rw [hk, hf] at hs
        exact ⟨fun hp => absurd (hs.1 hp).1 (by simp [ChargeState.charging]), fun _ => hs.2 (by simp)⟩
    · simp [h]) _ _ _ _
@[simp] theorem ranged_onSetGauge (tag : Byte) (p : Bytes) : Ranged a (onSetGauge tag p s) :=
  ranged_directive h (fun s h => by
    dsimp only; split
    · simp [h]
    · next hp =>
      refine worked_answer (.extra (.mapCharge (fun hi hg => ⟨hi, ?_⟩) id) h) _ _ _ _
      refine Nat.div_le_of_le_mul ?_
      rw [Nat.mul_comm 100]
      exact Nat.mul_le_mul_left _ (by omega)) _ _ _ _
@[simp] theorem ranged_onReadPower (tag : Byte) (p : Bytes) : Ranged a (onReadPower tag p s) :=
  ranged_directive h (fun _ h => worked_answer h _ _ _ _) _ _ _ _

/-! ### The power monitor (chapters 8 and 9) -/

@[simp] theorem ranged_judgeVin : Ranged a (judgeVin s) := by
  unfold judgeVin; dsimp only; split
  · exact h
  · refine ranged_settle (ranged_setLevel (worked_report (.extra (.mapCharge (fun hi hg => ⟨?_, hg⟩) id) h) _) _ _)
    obtain ⟨hlo, hhi, -⟩ := hi
    refine ⟨hlo, hhi, ?_⟩
    simp only [State.mapCharge_charge]
    cases vinPresent s.charge.vin s.charge.meas.vin <;> simp [hlo]
@[simp] theorem ranged_changeTier (new : Tier) : Ranged a (changeTier new s) := by
  have hn : ∀ c : Change, (notify c (report (.tier new s.thermal.tier s.charge.meas.dieTemp)
      (s.mapThermal fun t => { t with tier := new }))).unsent = (s.mapThermal fun t => { t with tier := new }).unsent :=
    fun c => unsent_report _ _
  have hm : ∀ c : Change, Ranged a (if 2 ≤ new.code ∧ s.thermal.tier.code < new.code then
      (notify c (report (.tier new s.thermal.tier s.charge.meas.dieTemp)
        (s.mapThermal fun t => { t with tier := new }))).mapCharge fun c => { c with setpoint := 0 }
      else notify c (report (.tier new s.thermal.tier s.charge.meas.dieTemp) (s.mapThermal fun t => { t with tier := new }))) := by
    intro c
    refine ranged_of_unsent (.extra (rangesKept_tierSet new s) h) ?_
    unfold tierSet
    split
    · exact congrArg (State.mapCharge fun c => { c with setpoint := 0 }) (hn c)
    · exact hn c
  exact ranged_settle (worked_ite (worked_enterEmergency (hm _) _) (hm _))
@[simp] theorem ranged_judgeTier : Ranged a (judgeTier s) := by
  unfold judgeTier; dsimp only; split <;> simp [h]
@[simp] theorem ranged_changeSupply (new : Supply) : Ranged a (changeSupply new s) := by
  have hm := ranged_notify (worked_report (ranged_mapThermal h (f := fun t => { t with supply := new }) fun _ => rfl)
    (.supply new s.thermal.supply s.charge.meas.vbat)) (setCond condSupplyWarn (new ≠ .normal))
  exact ranged_settle (worked_ite (worked_enterEmergency hm _) hm)
@[simp] theorem ranged_judgeSupply : Ranged a (judgeSupply s) := by
  unfold judgeSupply; dsimp only; split <;> simp [h]
@[simp] theorem ranged_handleUpdate (b : Bool) : Ranged a (handleUpdate b s) := by
  unfold handleUpdate; split <;> simp [h]
@[simp] theorem ranged_handleDeferred : Ranged a (handleDeferred s) := by
  unfold handleDeferred; split
  · exact ranged_handleUpdate (ranged_mapThermal (ranged_settle h) fun _ => by rfl) _
  · exact h
@[simp] theorem ranged_applyThermal : Ranged a (applyThermal s) := by
  unfold applyThermal; split <;> simp [h]
@[simp] theorem ranged_takeUpdate (m : Measurements) (x y : Bool) : Ranged a (takeUpdate m x y s) := by
  have hv : ∀ f : Charge → Charge, (∀ c, (f c).core = c.core) →
      Ranged a (judgeVin ((applyThermal (handleDeferred s)).mapCharge f)) := fun f hf =>
    ranged_judgeVin (ranged_mapCharge (ranged_applyThermal (ranged_handleDeferred h)) (hf _))
  unfold takeUpdate; dsimp only; split
  · exact ranged_mapThermal (hv _ fun _ => by rfl) fun _ => by rfl
  · exact ranged_handleUpdate (hv _ fun _ => by rfl) _

end

end Sys2Proof.Machine

/-! PROOF. The ranges of StepKeepsRanges through the link's commands, and so through every step. -/

namespace Sys2Proof.Machine

/-- WRITE ENTRY leaves the entry counts of the pages as they are (R180). -/
theorem writeEntry_sizes {g p : Pages} {n i : Nat} {b : Bytes} (h : g.writeEntry n i b = some p) :
    p.lens.length = g.lens.length ∧ p.smoothing.length = g.smoothing.length ∧ p.triggers.length = g.triggers.length := by
  unfold Pages.writeEntry at h
  split at h
  case h_2 => cases h; simp
  all_goals
    obtain ⟨e, -, rfl⟩ := Option.map_eq_some_iff.1 h
    simp

section
variable {a s : State} (h : Ranged a s)
include h

/-! ### The link (chapter 10) -/

theorem ranged_linkReset {f : State → State} (hf : ∀ s, Ranged a s → Ranged a (f s)) : Ranged a (linkReset f s) := by
  have hl := hf _ (ranged_frameReset (ranged_mapLink h (f := clearLink) (fun _ => rfl) fun _ => rfl))
  exact worked_judgeHold (worked_stopRecording (ranged_clearReceive (worked_mapCard
    (ranged_recenterNow (ranged_motionReset hl)) _)) _)
@[simp] theorem ranged_onLinkReset (tag : Byte) (p : Bytes) : Ranged a (onLinkReset tag p s) := by
  unfold onLinkReset; split
  · exact ranged_linkReset h fun _ h => worked_answer h _ _ _ _
  · exact ranged_directive h (fun _ h => h) _ _ _ _
@[simp] theorem ranged_goAsleep (watch : Bool) : Ranged a (goAsleep watch s) :=
  ranged_frameSleep (ranged_motionSleep (ranged_mapLink h (fun _ => by rfl) fun _ => by rfl) _)
@[simp] theorem ranged_onSleep (tag : Byte) (p : Bytes) : Ranged a (onSleep tag p s) :=
  ranged_directive h (fun s h => by dsimp only; split_ifs <;> simp [h]) _ _ _ _
@[simp] theorem ranged_onReadStatus (tag : Byte) (p : Bytes) : Ranged a (onReadStatus tag p s) :=
  ranged_directive h (fun _ h => worked_answer h _ _ _ _) _ _ _ _
@[simp] theorem ranged_onReadCounters (tag : Byte) (p : Bytes) : Ranged a (onReadCounters tag p s) :=
  ranged_directive h (fun _ h => worked_answer h _ _ _ _) _ _ _ _
@[simp] theorem ranged_onClearCounters (tag : Byte) (p : Bytes) : Ranged a (onClearCounters tag p s) :=
  ranged_directive h (fun _ h => worked_answer (ranged_mapCounters h fun _ _ => by decide) _ _ _ _) _ _ _ _
@[simp] theorem ranged_onWriteEntry (tag : Byte) (p : Bytes) : Ranged a (onWriteEntry tag p s) :=
  ranged_directive h (fun s h => by
    dsimp only; split_ifs
    · simp [h]
    · simp [h]
    · simp [h]
    · simp [h]
    · split
      · next g hg =>
        obtain ⟨hl, hs, ht⟩ := writeEntry_sizes hg
        refine worked_answer (.extra ⟨fun hb hm => ⟨hb, hm⟩, fun hi hg => ⟨hi, hg⟩, id, fun hc hz => ⟨hc, ?_⟩⟩ h) _ _ _ _
        obtain ⟨zl, zs, zt, za⟩ := hz
        exact ⟨hl.trans zl, hs.trans zs, ht.trans zt, za⟩
      · simp [h]) _ _ _ _
@[simp] theorem ranged_onReadEntry (tag : Byte) (p : Bytes) : Ranged a (onReadEntry tag p s) :=
  ranged_directive h (fun s h => by dsimp only; split_ifs <;> simp [h]) _ _ _ _
@[simp] theorem ranged_selectStore (t : StoreTab) : Ranged a (selectStore t s) :=
  worked_judgeStore (worked_judgeHold (ranged_mapStore (ranged_mapStore h _) _))
@[simp] theorem ranged_capture (p : Pages) (n : Nat) : Ranged a (capture p n s) := by
  unfold capture; split <;> simp [h]
@[simp] theorem ranged_onSelectPage (tag : Byte) (p : Bytes) : Ranged a (onSelectPage tag p s) :=
  ranged_directive h (fun s h => by
    dsimp only; split_ifs
    · simp [h]
    · simp [h]
    · simp [h]
    · refine ranged_capture (worked_answer (.extra
        ⟨fun hb hm => ⟨hb, hm⟩, fun hi hg => ⟨hi, hg⟩, id, fun hc hz => ⟨hc, ?_⟩⟩ h)
        _ _ _ _) _ _
      obtain ⟨zl, zs, zt, za⟩ := hz
      exact ⟨zl, zs, zt, (List.length_set ..).trans za⟩) _ _ _ _

/-! ### Packets by their bytes -/

@[simp] theorem ranged_onUnknown (c t : Byte) (p : Bytes) : Ranged a (onUnknown c t p s) :=
  ranged_directive h (fun _ h => worked_answer h _ _ _ _) _ _ _ _
@[simp] theorem ranged_routeDirective (c t : Byte) (p : Bytes) : Ranged a (routeDirective c t p s) := by
  unfold routeDirective
  generalize c.toNat = n
  split <;> simp [h]
@[simp] theorem ranged_receivePacket (b : Bytes) : Ranged a (receivePacket b s) := by
  have hc := ranged_clearReceive h
  have hd : ∀ b, Ranged a (receiveDirective b (clearReceive s)) := fun b => by
    unfold receiveDirective; split
    · split <;> simp [hc]
    · split <;> simp [hc]
    · simp [hc]
  have hp : ∀ b, Ranged a (receiveClip b (clearReceive s)) := fun b => by
    unfold receiveClip; split
    · split_ifs <;> simp [hc]
    · simp [hc]
  have hm : ∀ b, Ranged a (malformedHeader b (clearReceive s)) := fun b => by
    unfold malformedHeader; dsimp only; split
    · split <;> simp [hc]
    · simp [hc]
  unfold receivePacket; dsimp only; split
  · split_ifs
    · simp [hc]
    · exact hm _
    · exact hp _
    · exact hd _
  · simp [hc]

end

/-! ### Every command -/

/-- A command whose own effect keeps the ranges keeps them. -/
theorem rangesKept_act {dt : Nat} {f : State → State} {s t : State} (h : act dt f s = .next t)
    (hf : ∀ u, Ranged s u → Ranged s (f u)) : RangesKept s t := by
  unfold act live at h
  split at h
  · cases h; exact (ranged_finish (hf _ (ranged_tick .start dt))).kept
  · cases h; exact .of_eq rfl rfl

/-- A cold start is in every range. -/
theorem rangesKept_cold (s : State) (q : List Instr) (d p : Bool) : RangesKept s { State.cold q d with powered := p } := by
  refine ⟨fun _ _ => ⟨?_, ?_⟩, fun _ _ => ⟨?_, ?_⟩, fun _ => ?_, fun _ _ => ⟨?_, ?_⟩⟩
  · show (-2048 ≤ (0 : Int) ∧ (0 : Int) ≤ 2047) ∧ (-2048 ≤ (0 : Int) ∧ (0 : Int) ≤ 2047) ∧
      (-2048 ≤ (0 : Int) ∧ (0 : Int) ≤ 2047)
    decide
  · show Mode.off ≠ .steadyWhileRecording
    decide
  · exact ⟨(by decide : 100 ≤ 500), (by decide : 500 ≤ 3000), trivial⟩
  · exact Nat.zero_le _
  · exact ⟨fun h0 => absurd rfl h0, fun _ => rfl⟩
  · show ∀ n ∈ zeroCounters.toList, n ≤ Config.counterMax
    decide
  · exact ⟨rfl, rfl, rfl, rfl⟩

theorem rangesKept_exec {i : Instr} {s t : State} (h : exec i s = .next t) : RangesKept s t := by
  cases i with
  | coldStart c => cases h; exact rangesKept_cold s _ c true
  | brownOut dt => cases h; exact rangesKept_cold s _ false false
  | rstinAssertion dt =>
    dsimp only [exec, execRstinAssertion] at h
    exact rangesKept_act h fun _ k => ranged_linkReset k fun _ k => k
  | imuDrdyEdge dt =>
    dsimp only [exec, execImuDrdyEdge] at h
    exact rangesKept_act h fun _ k => worked_ite (ranged_mapMotion k fun _ => by rfl) k
  | sampleTaken dt r =>
    dsimp only [exec, execSampleTaken] at h
    exact rangesKept_act h fun u k => by
      split
      · exact ranged_takeSample (ranged_mapMotion k fun _ => by rfl) _ _
      · exact k
  | motionLost dt =>
    dsimp only [exec, execMotionLost] at h
    exact rangesKept_act h fun u k => by split <;> simp [k]
  | identityCheck dt d =>
    dsimp only [exec, execIdentityCheck] at h
    exact rangesKept_act h fun _ k => worked_ite (ranged_endCheck k _) k
  | frameStartMarker dt n =>
    dsimp only [exec, execFrameStartMarker] at h
    exact rangesKept_act h fun _ k => worked_ite (ranged_beginFrame (ranged_resolveMode (ranged_applyPending
      (worked_ite (ranged_endShort k) k))) _) k
  | sensorLine dt px =>
    dsimp only [exec, execSensorLine] at h
    exact rangesKept_act h fun _ k => worked_ite (ranged_takeLine k _) k
  | frameEndMarker dt =>
    dsimp only [exec, execFrameEndMarker] at h
    exact rangesKept_act h fun _ k => worked_ite (ranged_mapFrame (worked_ite (ranged_endShort k) k) _) k
  | sideSlot dt =>
    dsimp only [exec, execSideSlot] at h
    exact rangesKept_act h fun _ k => worked_ite (ranged_fillSlot k) k
  | clipPacket dt st fl pts pl =>
    dsimp only [exec, execClipPacket] at h
    exact rangesKept_act h fun _ k => worked_ite (worked_ite (ranged_countMalformed (ranged_clearReceive k))
      (ranged_takeClipPacket (ranged_clearReceive k) _ _ _ _)) k
  | malformedPacket dt bs =>
    dsimp only [exec, execMalformedPacket] at h
    exact rangesKept_act h fun _ k => worked_ite (ranged_receivePacket k _) k
  | unknownDirective dt tag code p =>
    dsimp only [exec, execUnknownDirective] at h
    exact rangesKept_act h fun _ k => ranged_routeDirective k _ _ _
  | linkReset dt tag p => exact rangesKept_act h fun _ k => ranged_onLinkReset k _ _
  | sleep dt tag p => exact rangesKept_act h fun _ k => ranged_onSleep k _ _
  | readStatus dt tag p => exact rangesKept_act h fun _ k => ranged_onReadStatus k _ _
  | readCounters dt tag p => exact rangesKept_act h fun _ k => ranged_onReadCounters k _ _
  | clearCounters dt tag p => exact rangesKept_act h fun _ k => ranged_onClearCounters k _ _
  | writeEntry dt tag p => exact rangesKept_act h fun _ k => ranged_onWriteEntry k _ _
  | readEntry dt tag p => exact rangesKept_act h fun _ k => ranged_onReadEntry k _ _
  | selectPage dt tag p => exact rangesKept_act h fun _ k => ranged_onSelectPage k _ _
  | calibrate dt tag p => exact rangesKept_act h fun _ k => ranged_onCalibrate k _ _
  | setMode dt tag p => exact rangesKept_act h fun _ k => ranged_onSetMode k _ _
  | recenter dt tag p => exact rangesKept_act h fun _ k => ranged_onRecenter k _ _
  | setGeometry dt tag p => exact rangesKept_act h fun _ k => ranged_onSetGeometry k _ _
  | setLens dt tag p => exact rangesKept_act h fun _ k => ranged_onSetLens k _ _
  | setExposure dt tag p => exact rangesKept_act h fun _ k => ranged_onSetExposure k _ _
  | mount dt tag p => exact rangesKept_act h fun _ k => ranged_onMount k _ _
  | unmount dt tag p => exact rangesKept_act h fun _ k => ranged_onUnmount k _ _
  | startRecording dt tag p => exact rangesKept_act h fun _ k => ranged_onStartRecording k _ _
  | stopRecording dt tag p => exact rangesKept_act h fun _ k => ranged_onStopRecording k _ _
  | mark dt tag p => exact rangesKept_act h fun _ k => ranged_onMark k _ _
  | lockClip dt tag p => exact rangesKept_act h fun _ k => ranged_onLockClip k _ _
  | unlockClip dt tag p => exact rangesKept_act h fun _ k => ranged_onUnlockClip k _ _
  | deleteClip dt tag p => exact rangesKept_act h fun _ k => ranged_onDeleteClip k _ _
  | readIndex dt tag p => exact rangesKept_act h fun _ k => ranged_onReadIndex k _ _
  | readClip dt tag p => exact rangesKept_act h fun _ k => ranged_onReadClip k _ _
  | cardRead dt tag p => exact rangesKept_act h fun _ k => ranged_onCardRead k _ _
  | cardWrite dt tag p => exact rangesKept_act h fun _ k => ranged_onCardWrite k _ _
  | setInputLimit dt tag p => exact rangesKept_act h fun _ k => ranged_onSetInputLimit k _ _
  | setChargeRequest dt tag p => exact rangesKept_act h fun _ k => ranged_onSetChargeRequest k _ _
  | chargeRestart dt tag p => exact rangesKept_act h fun _ k => ranged_onChargeRestart k _ _
  | setGauge dt tag p => exact rangesKept_act h fun _ k => ranged_onSetGauge k _ _
  | readPower dt tag p => exact rangesKept_act h fun _ k => ranged_onReadPower k _ _
  | stallTimerExpiry dt =>
    dsimp only [exec, execStallTimerExpiry] at h
    exact rangesKept_act h fun _ k => worked_ite (worked_stopRecording k _) k
  | cardOpCompletion dt ok d =>
    dsimp only [exec, execCardOpCompletion] at h
    exact rangesKept_act h fun _ k => ranged_takeCompletion k _ _
  | cardTimeout dt =>
    dsimp only [exec, execCardTimeout] at h
    exact rangesKept_act h fun u k => by
      split
      · exact worked_ite (ranged_opError (worked_mapCard k _) _ _) k
      · exact k
  | cardInsertion dt =>
    dsimp only [exec, execCardInsertion] at h
    exact rangesKept_act h fun _ k => worked_ite (worked_report (worked_mapCard k _) _) k
  | cardRemoval dt =>
    dsimp only [exec, execCardRemoval] at h
    exact rangesKept_act h fun _ k => worked_ite k (ranged_failPass (ranged_enterFault
      (worked_report (worked_mapCard k _) _) _))
  | powerUpdate dt m x y =>
    dsimp only [exec, execPowerUpdate] at h
    exact rangesKept_act h fun _ k => ranged_takeUpdate k _ _ _
  | chargeEvaluation dt =>
    dsimp only [exec, execChargeEvaluation] at h
    exact rangesKept_act h fun _ k => worked_ite (ranged_handleDeferred (ranged_evaluate k)) k
  | safetyTimerTimeout dt =>
    dsimp only [exec, execSafetyTimerTimeout] at h
    exact rangesKept_act h fun _ k => worked_ite (ranged_handleDeferred (ranged_evaluate k)) k

theorem rangesKept_step {s t : State} (h : step s = .next t) : RangesKept s t := by
  unfold step at h
  split at h
  · cases h; exact .of_eq rfl rfl
  · next c rest _ => exact RangesKept.trans (t := { s with pending := rest }) (.of_eq rfl rfl) (rangesKept_exec h)

/-- Settles O57: every operation on the way of a step keeps the ranges. -/
theorem stepKeepsRanges : Obligations.StepKeepsRanges := fun _ _ h =>
  have k := rangesKept_step h
  ⟨k.steady, k.gauged, k.setpoint, k.counted⟩

end Sys2Proof.Machine

/-! PROOF. The data-ready edge, CALIBRATE and the settings of the filter and the frame. -/

namespace Sys2Proof.Machine

/-! ### The data-ready edge (R1, R8, R17) -/

/-- A part at rest stays at rest while time passes. -/
theorem AtRest.tick {s : State} (h : AtRest s) (dt : Nat) : AtRest (s.tick dt) := h.congr rfl rfl rfl rfl rfl

/-- A command whose own effect leads to a part at rest answers that part. -/
theorem AtRest.act {s t : State} {dt : Nat} {f : State → State} (h : AtRest t) (hp : s.powered = true)
    (hf : f (s.tick dt) = t) : act dt f s = .next t := act_of_rest hp hf h.1 h.2.2

/-- Settles O17, by whether the part reads. -/
theorem dataReadyEdgeBeginsARead : Obligations.DataReadyEdgeBeginsARead := by
  intro dt s hp hs
  have hr := hs.tick dt
  dsimp only [exec, execImuDrdyEdge]
  refine ⟨fun ha hc hn ho => ?_, fun h => ?_⟩
  · refine AtRest.act (hr.congr rfl rfl rfl rfl rfl) hp (if_pos ?_)
    rcases ho with hw | ht
    · simp [ha, hc, hn, hw]
    · simp [hc, hn, ht]
  · refine hr.act hp (if_neg ?_)
    rcases h with ha | hc | hn | ⟨hw, ht⟩
    · simp [ha]
    · simp [hc]
    · simp [hn]
    · simp [hw, ht]

/-! ### Directives that answer once -/

/-- A directive of a fixed length whose owner changes only blocks that rest does not depend on, and answers once. -/
theorem Ready.answers {dt code n : Nat} {tag : Byte} {p : Bytes} {f : State → State} {ac : AnswerCode} {s u : State}
    (h : Ready s) (hn : p.length = n) (hb : n ≤ 100) (hf : f (s.tick dt) = answer code tag ac [] u)
    (hs : u.store = s.store) (hi : u.intake = s.intake) (hc : u.card = s.card) (hw : u.trig.waiting = s.trig.waiting)
    (ho : u.outbox = s.outbox) :
    act dt (directive code (some n) tag p f) s = .next (sent ⟨tag, BitVec.ofNat 8 code, ac, []⟩ u) :=
  h.directive_answers (by rw [hn]; unfold Config.directiveHeaderBytes Config.bodyLimit; omega)
    (fun m hm => by rw [hn]; exact Option.some.inj hm) hf hs hi hc hw ho

/-- Such a directive whose owner changes nothing. -/
theorem Ready.refuses {dt code n : Nat} {tag : Byte} {p : Bytes} {f : State → State} {ac : AnswerCode} {s : State}
    (h : Ready s) (hn : p.length = n) (hb : n ≤ 100) (hf : f (s.tick dt) = answer code tag ac [] (s.tick dt)) :
    act dt (directive code (some n) tag p f) s = .next (answered dt code tag ac [] s) :=
  h.answers hn hb hf rfl rfl rfl rfl rfl

/-- Sending an answer reads neither the Motion Front-End nor the Path Filter, nor what the Frame Path has pending. -/
theorem sent_mapMotion (x : Answer) (f : Motion → Motion) (s : State) : sent x (s.mapMotion f) = (sent x s).mapMotion f := by
  unfold sent; rw [show atOnce (s.mapMotion f) = atOnce s from rfl]; split <;> rfl

theorem sent_mapFilter (x : Answer) (f : Filter → Filter) (s : State) : sent x (s.mapFilter f) = (sent x s).mapFilter f := by
  unfold sent; rw [show atOnce (s.mapFilter f) = atOnce s from rfl]; split <;> rfl

theorem sent_mapFrame (x : Answer) (f : Frame → Frame) (s : State) (hs : (f s.frame).state = s.frame.state)
    (hr : (f s.frame).record = s.frame.record) : sent x (s.mapFrame f) = (sent x s).mapFrame f := by
  have ho : atOnce (s.mapFrame f) = atOnce s := by
    unfold atOnce linkOpen roomOpen; rw [State.mapFrame_frame, hs, hr, State.mapFrame_link]
  unfold sent; rw [ho]; split <;> rfl

section
variable {dt code n : Nat} {tag : Byte} {p : Bytes} {f : State → State} {ac : AnswerCode} {s : State}

/-- A directive that sets values of the Motion Front-End, of the Path Filter, or of what the Frame Path has pending, alone. -/
theorem Ready.sets_motion (h : Ready s) (hn : p.length = n) (hb : n ≤ 100) (g : Motion → Motion)
    (hf : f (s.tick dt) = answer code tag ac [] ((s.tick dt).mapMotion g)) :
    act dt (directive code (some n) tag p f) s = .next ((answered dt code tag ac [] s).mapMotion g) := by
  rw [h.answers hn hb hf rfl rfl rfl rfl rfl, sent_mapMotion]; rfl

theorem Ready.sets_filter (h : Ready s) (hn : p.length = n) (hb : n ≤ 100) (g : Filter → Filter)
    (hf : f (s.tick dt) = answer code tag ac [] ((s.tick dt).mapFilter g)) :
    act dt (directive code (some n) tag p f) s = .next ((answered dt code tag ac [] s).mapFilter g) := by
  rw [h.answers hn hb hf rfl rfl rfl rfl rfl, sent_mapFilter]; rfl

theorem Ready.sets_frame (h : Ready s) (hn : p.length = n) (hb : n ≤ 100) (g : Frame → Frame)
    (hg : ∀ k, (g k).state = k.state ∧ (g k).record = k.record ∧ (g k).trailer = k.trailer)
    (hf : f (s.tick dt) = answer code tag ac [] ((s.tick dt).mapFrame g)) :
    act dt (directive code (some n) tag p f) s = .next ((answered dt code tag ac [] s).mapFrame g) := by
  obtain ⟨hs, hr, ht⟩ := hg s.frame
  have ho : ((s.tick dt).mapFrame g).outbox = s.outbox := by
    unfold State.outbox roomOpen
    rw [State.mapFrame_frame, tick_frame, hs, hr, ht]; rfl
  rw [h.answers hn hb hf rfl rfl rfl rfl ho, sent_mapFrame _ _ (s.tick dt) hs hr]; rfl

end

/-! ### CALIBRATE, SET MODE, SET LENS, SET EXPOSURE, SET GEOMETRY (R14, R39, R48, R49) -/

/-- The value of a byte read alone. -/
theorem uintAt_byte (p : Bytes) (i : Nat) (b : Byte) (h : p[i]? = some b) : uintAt p i 1 = b.toNat := by
  obtain ⟨hi, rfl⟩ := List.getElem?_eq_some_iff.1 h
  unfold uintAt
  rw [List.drop_eq_getElem_cons hi, List.take_succ_cons, List.take_zero]
  rfl

theorem ofCode_code (m : Mode) : Mode.ofCode m.code = some m := by cases m <;> rfl

/-- The tests of R48, one by one. -/
theorem valid_iff (g : Geometry) : g.valid = true ↔ 640 ≤ g.wIn ∧ g.wIn ≤ 4096 ∧ g.wIn % 16 = 0 ∧ 360 ≤ g.hIn ∧
    g.hIn ≤ 3072 ∧ 320 ≤ g.wOut ∧ g.wOut ≤ g.wIn ∧ 180 ≤ g.hOut ∧ g.hOut ≤ g.hIn ∧ (g.wIn - g.wOut) % 2 = 0 ∧
    (g.hIn - g.hOut) % 2 = 0 ∧ (g.nb = 1 ∨ g.nb = 2 ∨ g.nb = 4 ∨ g.nb = 8 ∨ g.nb = 16) ∧ g.hOut % g.nb = 0 := by
  simp [Geometry.valid, within, and_assoc]

/-- Settles O16: each directive answers once, with its setting changed or not. -/
theorem calibrateModeAndFrameSettings : Obligations.CalibrateModeAndFrameSettings := by
  intro dt tag s h
  dsimp only [exec, execCalibrate, onCalibrate, execSetMode, onSetMode, execSetLens, onSetLens, execSetExposure,
    onSetExposure, execSetGeometry, onSetGeometry]
  refine ⟨fun hs => ?_, fun hs => ?_, fun hs => ?_, fun code profile m hm hp => ?_, fun lens hl => ?_, fun p hp => ?_,
    fun p hp => ⟨fun hok => ?_, fun hok => ?_⟩⟩
  · exact h.sets_motion (by rfl) (by omega) _ (by simp only [tick_motion, hs]; rfl)
  · exact h.refuses (by rfl) (by omega) (by simp only [tick_motion, hs])
  · refine h.refuses (by rfl) (by omega) ?_
    rcases hs with hs | hs <;> simp only [tick_motion, hs]
  · have hc : Mode.ofCode (uintAt [code, profile] 0 1) = some m := by rw [uintAt_byte _ 0 code rfl, ← hm, ofCode_code]
    have hq : uintAt [code, profile] 1 1 = profile.toNat := uintAt_byte _ 1 profile rfl
    exact h.sets_filter (by rfl) (by omega) _ (by simp only [hc, hq, if_pos hp])
  · have hq : uintAt [lens] 0 1 = lens.toNat := uintAt_byte _ 0 lens rfl
    exact h.sets_frame (by rfl) (by omega) _ (fun _ => ⟨rfl, rfl, rfl⟩) (by simp only [hq, if_pos hl])
  · exact h.sets_frame hp (by omega) _ (fun _ => ⟨rfl, rfl, rfl⟩) rfl
  · exact h.sets_frame hp (by omega) _ (fun _ => ⟨rfl, rfl, rfl⟩) (if_pos ((valid_iff _).2 hok))
  · exact h.refuses hp (by omega) (if_neg fun hv => hok ((valid_iff _).1 hv))

end Sys2Proof.Machine

/-! PROOF. SELECT PAGE of IMU SETUP and of STORE. -/

namespace Sys2Proof.Machine

/-! ### An accepted selection (R182) -/

/-- The part after the answer OK to a SELECT PAGE of table `n`, whose mark has moved. -/
def marked (dt : Nat) (tag : Byte) (n : Nat) (loaded : Bool) (s : State) : State :=
  (answered dt 18 tag .ok [] s).mapLink fun l => { l with active := l.active.set n loaded }

/-- The page selected. -/
def selectedPage (loaded : Bool) (s : State) : Pages := if loaded then s.link.loaded else fixedPages

/-- An answer joins a queue, or leaves, and nothing else of the link is looked at but whether slots open. -/
theorem sent_mapActive (x : Answer) (n : Nat) (b : Bool) (s : State) :
    sent x (s.mapLink fun l => { l with active := l.active.set n b }) =
      (sent x s).mapLink fun l => { l with active := l.active.set n b } := by
  unfold sent
  rw [show atOnce (s.mapLink fun l => { l with active := l.active.set n b }) = atOnce s from rfl]
  split <;> rfl

section
variable {dt : Nat} {tag : Byte} {n : Nat} {b : Bool} {s : State}

@[simp] theorem marked_motion : (marked dt tag n b s).motion = s.motion := by
  unfold marked answered sent; split <;> rfl
@[simp] theorem marked_filter : (marked dt tag n b s).filter = s.filter := by
  unfold marked answered sent; split <;> rfl
@[simp] theorem marked_store : (marked dt tag n b s).store = s.store := by
  unfold marked answered sent; split <;> rfl
@[simp] theorem marked_awake : (marked dt tag n b s).link.awake = s.link.awake := by
  unfold marked answered sent; split <;> rfl
@[simp] theorem marked_reports : (marked dt tag n b s).link.reports = s.link.reports := by
  unfold marked answered sent; split <;> rfl
@[simp] theorem marked_loaded : (marked dt tag n b s).link.loaded = s.link.loaded := by
  unfold marked answered sent; split <;> rfl
@[simp] theorem marked_active : (marked dt tag n b s).link.active = s.link.active.set n b := by
  unfold marked answered sent; split <;> rfl

theorem Ready.atRest_marked (h : Ready s) : AtRest (marked dt tag n b s) :=
  ((h.2.tick dt).sent h.1.2.2.2).congr rfl rfl rfl rfl rfl

end

/-- A selection that moves the mark of a consistent page is answered OK, and its values are captured. -/
theorem Ready.selects {dt : Nat} {tag k page : Byte} {n : Nat} {s : State} (h : Ready s) (hk : k.toNat = n) (hn : n ≤ 7)
    (hp : page.toNat ≤ 1) (hm : s.link.loadedActive n ≠ decide (page = 1#8))
    (hc : page = 1#8 → s.link.loaded.consistent n = true) :
    exec (.selectPage dt tag [k, page]) s =
      .next (finish (capture (selectedPage (decide (page = 1#8)) s) n (marked dt tag n (decide (page = 1#8)) s))) := by
  obtain ⟨⟨hpow, haw, hrec, hroom⟩, hrest⟩ := h
  have hb : decide (page.toNat = 1) = decide (page = 1#8) := decide_eq_decide.2 (BitVec.toNat_inj (y := 1#8))
  have hq : uintAt [k, page] 0 1 = n := by rw [uintAt_byte _ 0 k rfl, hk]
  have hg : uintAt [k, page] 1 1 = page.toNat := uintAt_byte _ 1 page rfl
  have hx := (hrest.tick dt).congr (t := (s.tick dt).mapLink fun l => { l with active := l.active.set n (decide (page = 1#8)) })
    rfl rfl rfl rfl rfl
  have ha := enqueueAnswer_of_departed (a := ⟨tag, 18#8, .ok, []⟩) hx.2.2 hx.2.1 hroom
  rw [sent_mapActive] at ha
  dsimp only [exec, execSelectPage, onSelectPage]
  unfold act
  rw [live_powered hpow, directive_taken (s := s.tick dt) haw hrec (Nat.lt_of_succ_lt hroom)
    (by simp [Config.directiveHeaderBytes, Config.bodyLimit])
    (fun m hm => by cases hm; rfl)]
  have hans : answer 18 tag .ok [] ((s.tick dt).mapLink fun l => { l with active := l.active.set n (decide (page.toNat = 1)) }) =
      marked dt tag n (decide (page = 1#8)) s := by rw [hb]; exact ha
  have hpg : (marked dt tag n (decide (page = 1#8)) s).link.pages page.toNat = selectedPage (decide (page = 1#8)) s := by
    unfold Link.pages selectedPage
    rw [marked_loaded, ← hb]
    rcases Nat.le_one_iff_eq_zero_or_eq_one.1 hp with h0 | h1
    · simp [h0]
    · simp [h1]
  simp only [hq, hg, tick_link]
  rw [if_neg (by omega), if_neg (by rw [hb]; exact hm), if_neg, hans, hpg]
  · rintro ⟨h1, h2⟩
    rw [hc (BitVec.toNat_inj.1 h1)] at h2
    cases h2

/-! ### IMU SETUP (R3, R15, R22, R28) -/

/-- The re-expression in a new rate, and then the recenter. -/
theorem recentered_reexpressed (f : Filter) (odr : Nat) : (f.reexpressed odr).recentered =
    if odr = f.rate then { f with smoothYaw := f.yaw, smoothPitch := f.pitch, history := [] }
    else
      { f with accYaw := f.yaw * odr, accPitch := f.pitch * odr, accRoll := f.roll * odr, rate := odr,
               smoothYaw := f.yaw * odr / odr, smoothPitch := f.pitch * odr / odr, history := [] } := by
  unfold Filter.reexpressed; split <;> rfl

/-- The part after IMU SETUP page `t` has taken effect on the sensor and the filter. -/
def imuConfigured (t : ImuSetup) (s : State) : State :=
  recenterNow (configureSensor t ((s.mapMotion fun m => { m with setup := t, expected := none }).mapLink fun l =>
    { l with waitImu := none }))

/-- A selection of IMU SETUP in a status that samples takes effect, and a calibration run ends. -/
theorem selectImu_sampling {t : ImuSetup} {s : State} (ha : s.link.awake = true)
    (hs : s.motion.status = .running ∨ s.motion.status = .calibrating ∨ s.motion.status = .lost) :
    selectImu t s = abortCal .moved .running (imuConfigured t s) := by
  unfold selectImu; rw [if_pos hs, if_pos ha]; rfl

/-- In another status the page is held. -/
theorem selectImu_held {t : ImuSetup} {s : State} (hs : s.motion.status = .absent ∨ s.motion.status = .watching) :
    selectImu t s = s.mapLink fun l => { l with waitImu := some t } := by
  unfold selectImu; rw [if_neg (by rcases hs with h | h <;> simp [h])]

theorem AtRest.imuConfigured {s : State} (h : AtRest s) (t : ImuSetup) : AtRest (imuConfigured t s) :=
  h.congr rfl rfl rfl rfl rfl

@[simp] theorem imuConfigured_cal (t : ImuSetup) (s : State) : (imuConfigured t s).motion.cal = s.motion.cal := rfl
@[simp] theorem imuConfigured_reports (t : ImuSetup) (s : State) :
    (imuConfigured t s).link.reports = s.link.reports := rfl

/-- The configuration's parts, written out. -/
theorem imuConfigured_eq (t : ImuSetup) (s : State) : imuConfigured t s =
    ((s.mapLink fun l => { l with waitImu := none }).mapMotion fun m =>
      { m with setup := t, expected := none, sensor := some ⟨t.odr, t.fs⟩ }).mapFilter fun f =>
        if t.odr = f.rate then { f with smoothYaw := f.yaw, smoothPitch := f.pitch, history := [] }
        else
          { f with accYaw := f.yaw * t.odr, accPitch := f.pitch * t.odr, accRoll := f.roll * t.odr,
                   rate := t.odr, smoothYaw := f.yaw * t.odr / t.odr,
                   smoothPitch := f.pitch * t.odr / t.odr, history := [] } := by
  rw [show (fun f : Filter => if t.odr = f.rate then _ else _) = fun f => (f.reexpressed t.odr).recentered from
    funext fun f => (recentered_reexpressed f t.odr).symm]
  rfl

/-! ### STORE (R79, R102, R111) -/

theorem selectStore_tab (t : StoreTab) (s : State) : (selectStore t s).store.tab = t := by
  unfold selectStore; dsimp only
  refine (congrArg (fun u : State => u.store.tab) (outside_judgeStore _)).trans ?_
  show (judgeHold _).store.tab = _
  rw [judgeHold_store]; rfl

theorem selectStore_quota (t : StoreTab) (s : State) :
    (selectStore t s).store.quota = s.store.count * t.quotaPercent / 100 := by
  unfold selectStore; dsimp only
  refine (congrArg (fun u : State => u.store.quota) (outside_judgeStore _)).trans ?_
  show (judgeHold _).store.quota = _
  rw [judgeHold_store]; rfl

theorem selectStore_quotaEff (t : StoreTab) (s : State) :
    (selectStore t s).store.quotaEff = max (s.store.count * t.quotaPercent / 100) s.store.lockedExtents := by
  refine (lasts_quotaEff _).work ?_ (worked_judgeStore .start)
  rw [judgeHold_store]; rfl

theorem selectStore_active (t : StoreTab) (s : State) : (selectStore t s).link.active = s.link.active := by
  unfold selectStore; dsimp only
  refine (congrArg (fun u : State => u.link.active) (outside_judgeStore _)).trans ?_
  show (judgeHold _).link.active = _
  rw [judgeHold_link]; rfl

/-! ### O14 -/

/-- A part at rest after a command's own effect answers as it is. -/
theorem AtRest.finish {s : State} (h : AtRest s) : finish s = s := finish_of_rest h.1 h.2.2

theorem capture_imu (p : Pages) (s : State) : capture p 0 s = selectImu p.imu s := rfl

theorem capture_store (p : Pages) (s : State) : capture p 4 s = selectStore p.store s := rfl

/-- Settles O14: the answer leaves, the mark moves, and the page is captured. -/
theorem selectImuAndStoreApplyAtOnce : Obligations.SelectImuAndStoreApplyAtOnce := by
  intro dt tag page s h hp
  have haw : s.link.awake = true := h.1.2.1
  refine ⟨fun hm => ?_, fun hm hmarks => ?_⟩
  · have hr : AtRest (marked dt tag 0 (decide (page = 1#8)) s) := h.atRest_marked
    have hc := hr.imuConfigured (selectedPage (decide (page = 1#8)) s).imu
    rw [h.selects (k := 0#8) (n := 0) rfl (by omega) hp hm (fun _ => rfl)]
    rw [capture_imu]
    refine ⟨fun hcal hs => ?_, fun c hcal hs hroom => ?_, fun hs => ?_⟩
    · rw [selectImu_sampling (by simpa using haw) (by simpa using hs.imp_right .inr), abortCal_none (by simpa using hcal),
        hc.finish, imuConfigured_eq]
      rfl
    · rw [selectImu_sampling (by simpa using haw) (by simp [hs]), abortCal_some (c := c) (by simpa using hcal)]
      have hq := hc.congr (t := (imuConfigured (selectedPage (decide (page = 1#8)) s).imu
        (marked dt tag 0 (decide (page = 1#8)) s)).mapMotion fun m => { m with cal := none, status := .running })
        rfl rfl rfl rfl rfl
      rw [report_of_departed hq.2.2 (by simpa [Config.reportLimit] using hroom), hq.reported.finish, imuConfigured_eq]
      rfl
    · have hq := hr.congr (t := (marked dt tag 0 (decide (page = 1#8)) s).mapLink fun l =>
        { l with waitImu := some (selectedPage (decide (page = 1#8)) s).imu }) rfl rfl rfl rfl rfl
      rw [selectImu_held (by simpa using hs), hq.finish]
      rfl
  · refine ⟨_, h.selects (k := 4#8) (n := 4) rfl (by omega) hp hm fun hl => ?_, ?_⟩
    · simp [Pages.consistent, storeConsistent, hmarks (by simpa using hl)]
    · rw [capture_store, finish_tab, finish_quota, finish_quotaEff, finish_active, selectStore_tab, selectStore_quota,
        selectStore_quotaEff, selectStore_active, marked_store, marked_active]
      exact ⟨rfl, rfl, rfl, rfl⟩

end Sys2Proof.Machine

/-! PROOF. The conditions through settling: a change handed over reaches the conditions, and they then stand but for those that
the store, the card and HOLD change on their own. Silence of the motion sensor. -/

namespace Sys2Proof.Machine

/-! ### Changes under a mask -/

/-- A change that misses `m` leaves the conditions of `m` as they are. -/
theorem apply_and_of_miss {c : Change} {m x : BitVec 16} (h : c.mask &&& m = 0#16) : c.apply x &&& m = x &&& m := by
  unfold Change.apply
  ext i hi
  have hb := congrArg (fun v : BitVec 16 => v[i]) h
  simp only [BitVec.getElem_and, BitVec.getElem_or, BitVec.getElem_not, BitVec.getElem_zero] at hb ⊢
  revert hb
  cases c.mask[i] <;> cases m[i] <;> simp

/-- A change that covers `m` gives the conditions of `m` its own values. -/
theorem apply_and_of_cover {c : Change} {m x : BitVec 16} (h : c.mask &&& m = m) : c.apply x &&& m = c.values &&& m := by
  unfold Change.apply
  ext i hi
  have hb := congrArg (fun v : BitVec 16 => v[i]) h
  simp only [BitVec.getElem_and, BitVec.getElem_or, BitVec.getElem_not] at hb ⊢
  revert hb
  cases c.mask[i] <;> cases m[i] <;> simp

/-- The conditions of a part of `m`, from those of `m`. -/
theorem and_of_and {x m v a : BitVec 16} (h : x &&& m = v) (ha : m &&& a = a) : x &&& a = v &&& a := by
  rw [← h, BitVec.and_assoc, ha]

/-- A mask of conditions that work does not change. -/
def Unworked (m : BitVec 16) : Prop := ~~~workConds &&& m = m

theorem Unworked.miss {m k : BitVec 16} (h : Unworked m) (hk : k &&& ~~~workConds = 0#16) : k &&& m = 0#16 := by
  rw [← h, ← BitVec.and_assoc, hk, BitVec.zero_and]

/-! ### Conditions that stand -/

/-- No waiting change touches the conditions `m`. -/
def Untouched (m : BitVec 16) (s : State) : Prop := ∀ c ∈ s.trig.waiting, c.mask &&& m = 0#16

/-- The conditions `m` have the values `v`, and no waiting change touches them. -/
def Stands (m v : BitVec 16) (s : State) : Prop := s.trig.conds &&& m = v ∧ Untouched m s

theorem Untouched.waits {m : BitVec 16} {s t : State} (h : Untouched m s) (hm : Unworked m) (hw : WaitsMore s t) :
    Untouched m t := by
  obtain ⟨hs, he, hk⟩ := hw
  intro c hc
  rw [he] at hc
  exact (List.mem_append.1 hc).elim (h c) fun hc => hm.miss (hk c hc)

theorem Stands.kept {m v : BitVec 16} {s t : State} (h : Stands m v s) (hm : Unworked m) (hw : WaitsMore s t)
    (hc : t.trig.conds = s.trig.conds) : Stands m v t := ⟨by rw [hc]; exact h.1, h.2.waits hm hw⟩

theorem settles_stands {m v : BitVec 16} (hm : Unworked m) : Settles (Stands m v) where
  work h hw := h.kept hm hw.waits (hw.keeps (fun u : State => u.trig.conds) fun _ => rfl)
  take := by
    intro s c cs ⟨hv, hu⟩ hs
    rw [Untouched, hs] at hu
    exact ⟨(apply_and_of_miss (hu c (List.mem_cons_self ..))).trans hv, fun d hd => hu d (List.mem_cons_of_mem _ hd)⟩

theorem Stands.finish {m v : BitVec 16} {s : State} (h : Stands m v s) (hm : Unworked m) : Stands m v (finish s) :=
  (settles_stands hm).finish (fun {s} h => h.kept hm (Leaves.depart s).waits
    (depart_keeps (fun u : State => u.trig.conds) (fun _ => rfl) s)) h

/-- A change that waits behind changes that miss `m` gives the conditions of `m` its values. -/
theorem stands_takeWaiting {m : BitVec 16} (hm : Unworked m) {c : Change} (hc : c.mask &&& m = m) (n : Nat) {s : State}
    (pre post : List Change) (hw : s.trig.waiting = pre ++ c :: post) (hn : pre.length < n)
    (hpre : ∀ d ∈ pre, d.mask &&& m = 0#16) (hpost : ∀ d ∈ post, d.mask &&& m = 0#16) :
    Stands m (c.values &&& m) (takeWaiting n s) := by
  induction n generalizing s pre post with
  | zero => omega
  | succ n ih =>
    cases pre with
    | nil =>
      unfold takeWaiting; rw [hw, List.nil_append]
      refine (settles_stands hm).takeWaiting ((settles_stands hm).work ?_ (work_takeChange _ _)) n
      exact ⟨apply_and_of_cover hc, hpost⟩
    | cons d ds =>
      unfold takeWaiting; rw [hw, List.cons_append]
      obtain ⟨hs, he, hk⟩ := (work_takeChange d (s.mapTrig fun t => { t with waiting := ds ++ c :: post })).waits
      refine ih (pre := ds) (post := post ++ hs) (he.trans (by simp [applied])) (Nat.lt_of_succ_lt_succ hn)
        (fun e h => hpre e (List.mem_cons_of_mem _ h)) fun e h => ?_
      exact (List.mem_append.1 h).elim (hpost e) fun h => hm.miss (hk e h)

/-- A change handed over behind few others gives the conditions of `m` its values. -/
theorem stands_hand {m : BitVec 16} (hm : Unworked m) {c : Change} (hc : c.mask &&& m = m) {s : State}
    (hu : Untouched m s) (hl : s.trig.waiting.length < 4096) : Stands m (c.values &&& m) (hand [c] s) :=
  stands_takeWaiting hm hc _ s.trig.waiting [] rfl hl hu (by simp)

/-! ### Reports and the changes of HOLD -/

theorem reportAll_holdDebt (ps : List Payload) (s : State) : holdDebt (reportAll ps s) ≤ holdDebt s := by
  induction ps generalizing s with
  | nil => exact le_rfl
  | cons p ps ih => exact (ih _).trans (report_holdDebt p s)

theorem abortCal_waitsMore (r : CalReason) (n : MotionStatus) (s : State) : WaitsMore s (abortCal r n s) := by
  rw [abortCal_eq]; exact .trans (.of_eq rfl) (reportAll_waitsMore _ _)

theorem abortCal_holdDebt (r : CalReason) (n : MotionStatus) (s : State) : holdDebt (abortCal r n s) ≤ holdDebt s := by
  rw [abortCal_eq]; exact (reportAll_holdDebt _ _).trans (holdDebt_congr rfl rfl rfl rfl).le

/-- Reports carried, and those of the end of a calibration run behind them. -/
theorem CarriedByRoom.abortCal {rs : List Report} {s : State} (h : CarriedByRoom rs s) (r : CalReason) (n : MotionStatus)
    (hr : s.link.reports.length < 32) :
    CarriedByRoom (rs ++ (abortReports r s.motion).map fun p => ⟨s.partTime, p⟩) (abortCal r n s) := by
  rw [abortCal_eq]
  refine CarriedByRoom.reportAll (h.congr (t := s.mapMotion (Motion.aborted n)) rfl rfl rfl) _ ?_
  have := abortReports_length r s.motion
  simp only [State.mapMotion_link]; omega

theorem abortCal_reports_length (r : CalReason) (n : MotionStatus) (s : State) :
    (abortCal r n s).link.reports.length ≤ s.link.reports.length + (abortReports r s.motion).length := by
  rw [abortCal_eq]; exact reportAll_reports_length _ _

theorem abortCal_keeps {α : Type} (f : State → α) (h : ∀ s : State, f s.unsent = f s)
    (hm : ∀ (g : Motion → Motion) (s : State), f (s.mapMotion g) = f s) (r : CalReason) (n : MotionStatus) (s : State) :
    f (abortCal r n s) = f s := by rw [abortCal_eq, reportAll_keeps f h, hm]

/-! ### Silence (R6) -/

/-- The status becomes LOST. -/
def statusLost (s : State) : State := s.mapMotion fun m => { m with status := .lost }

@[simp] theorem statusLost_link (s : State) : (statusLost s).link = s.link := rfl
@[simp] theorem statusLost_partTime (s : State) : (statusLost s).partTime = s.partTime := rfl
@[simp] theorem statusLost_motion (s : State) : (statusLost s).motion = { s.motion with status := .lost } := rfl

/-- The end of a calibration run where the status stands already. -/
theorem aborted_of_status (n : MotionStatus) (m : Motion) :
    Motion.aborted n { m with status := n } = { m with status := n, cal := none } := by
  unfold Motion.aborted; split <;> rfl

/-- The part at a silence, before the Trigger Unit takes the change. -/
def silenced (stamp : Nat) (s : State) : State :=
  reportAll (if s.motion.still then [.stillEnd] else [])
    (clearRuns (report (.motionLost stamp) (abortCal .moved .lost (statusLost s))))

/-- The change at a silence. -/
def lostChange (m : Motion) : Change := ⟨condMotionLost ||| (restFall m).mask, condMotionLost⟩

theorem loseMotion_eq (stamp : Nat) (s : State) : loseMotion stamp s = hand [lostChange s.motion] (silenced stamp s) := by
  unfold loseMotion silenced; dsimp only; split <;> rfl

section
variable (stamp : Nat) (s : State)

theorem silenced_motion : (silenced stamp s).motion =
    { s.motion with status := .lost, cal := none, freefallRun := none, stillRun := none, freefall := false, still := false } := by
  unfold silenced clearRuns
  simp only [reportAll_motion, State.mapMotion_motion, report_motion, abortCal_motion, statusLost_motion,
    aborted_of_status]

/-- A silence leaves what does not depend on the Motion Front-End or on what has left. -/
theorem silenced_keeps {α : Type} (f : State → α) (h : ∀ s : State, f s.unsent = f s)
    (hm : ∀ (g : Motion → Motion) (s : State), f (s.mapMotion g) = f s) : f (silenced stamp s) = f s := by
  unfold silenced clearRuns
  rw [reportAll_keeps f h, hm, report_keeps f h, abortCal_keeps f h hm]
  exact hm _ s

theorem silenced_waitsMore : WaitsMore s (silenced stamp s) := by
  have h1 := abortCal_waitsMore .moved .lost (statusLost s)
  exact (WaitsMore.of_eq rfl).trans (h1.trans ((report_waitsMore _ _).trans ((WaitsMore.of_eq rfl).trans
    (reportAll_waitsMore _ _))))

theorem silenced_holdDebt : holdDebt (silenced stamp s) ≤ holdDebt s :=
  calc holdDebt (silenced stamp s)
    _ ≤ holdDebt (report (.motionLost stamp) (abortCal .moved .lost (statusLost s))) :=
        (reportAll_holdDebt _ _).trans (holdDebt_congr rfl rfl rfl rfl).le
    _ ≤ holdDebt (statusLost s) :=
        (report_holdDebt _ _).trans (abortCal_holdDebt _ _ _)
    _ = holdDebt s := holdDebt_congr rfl rfl rfl rfl

end

/-- What a silence reports. -/
def silenceReports (stamp : Nat) (m : Motion) : List Payload :=
  (m.cal.map fun c => .calAborted .moved c.count).toList ++ .motionLost stamp :: if m.still then [.stillEnd] else []

/-- With room in the queue, the reports of a silence are carried in their order. -/
theorem silenced_carried (stamp : Nat) {s : State} (hr : s.link.reports.length < 30) :
    Carried ((silenceReports stamp s.motion).map fun p => ⟨s.partTime, p⟩) (silenced stamp s) := by
  have hl := abortCal_reports_length .moved .lost (statusLost s)
  have ha := abortReports_length .moved (statusLost s).motion
  rw [statusLost_link] at hl
  have h1 := (CarriedByRoom.nil (statusLost s)).abortCal .moved .lost (by rw [statusLost_link]; omega)
  have h2 := h1.report (.motionLost stamp) (by omega)
  have hq := report_reports_length (.motionLost stamp) (abortCal .moved .lost (statusLost s))
  have hs : (if s.motion.still then [Payload.stillEnd] else []).length ≤ 1 := by split <;> simp
  have h3 := (h2.congr (t := clearRuns _) rfl rfl rfl).reportAll (if s.motion.still then [.stillEnd] else []) (by
    unfold clearRuns; rw [State.mapMotion_link]; omega)
  convert h3.carried using 1
  · simp [silenceReports, abortReports, clearRuns]
  · rfl

/-- Whether the supervision has expired, where it runs. -/
theorem silent_supervised {stamp : Nat} {s : State} (ha : s.link.awake = true) (hc : s.motion.checking = false)
    (hs : s.motion.status = .running ∨ s.motion.status = .calibrating) (hl : s.motion.lastStamp = some stamp) :
    silent s = if stamp + 20000 ≤ s.partTime then some stamp else none := by
  have hr : (decide (s.motion.status = .running) || decide (s.motion.status = .calibrating)) = true := by
    rcases hs with h | h <;> simp [h]
  unfold silent
  rw [hr, ha, hc, hl]
  rfl

/-- A powered part answers a command's own effect and what it has started. -/
theorem act_powered {dt : Nat} {f : State → State} {s : State} (hp : s.powered = true) :
    act dt f s = .next (finish (f (s.tick dt))) := live_powered hp

/-- Frames that differ at most in their trailer. -/
theorem frame_of_noTrailer {a b : Frame} (h : { a with trailer := none } = { b with trailer := none }) :
    a = { b with trailer := a.trailer } := by
  cases a; cases b; simp_all

/-- Settles O20: the silence is detected, its reports are carried, and its change reaches the conditions. -/
theorem silenceLosesMotion : Obligations.SilenceLosesMotion := by
  intro dt stamp s hp haw hck hst hstamp
  have hsil : silent (s.tick dt) = if stamp + 20000 ≤ s.partTime + dt then some stamp else none :=
    silent_supervised haw hck hst hstamp
  dsimp only [exec, execMotionLost]
  refine ⟨fun hlate => ?_, fun hearly hr => ?_⟩
  · rw [if_pos hlate] at hsil
    refine ⟨finish (loseMotion stamp (s.tick dt)), ?_, ?_, ?_, ?_, ?_, fun hroom => ?_, fun hw => ?_⟩
    · rw [act_powered hp, hsil]
    · rw [finish_motion, loseMotion_eq, hand_motion, silenced_motion]; rfl
    · rw [finish_filter, loseMotion_eq, hand_filter, silenced_keeps _ _ State.filter (fun _ => rfl) fun _ _ => rfl]; rfl
    · rw [loseMotion_eq]
      exact frame_of_noTrailer ((finish_frame _).trans
        ((hand_keeps (fun t : State => { t.frame with trailer := none }) (fun _ => rfl) _ _).trans
          (silenced_keeps _ _ (fun t : State => { t.frame with trailer := none }) (fun _ => rfl) fun _ _ => rfl)))
    · rw [finish_charge, loseMotion_eq, hand_keeps State.charge (fun _ => rfl),
        silenced_keeps _ _ State.charge (fun _ => rfl) fun _ _ => rfl]
      rfl
    · refine Carried.issuedInOrder ?_
      have hq := silenced_carried stamp (s := s.tick dt) hroom
      rw [finish_partTime, loseMotion_eq, hand_partTime,
        silenced_keeps _ _ State.partTime (fun _ => rfl) fun _ _ => rfl]
      exact ((lasts_carried _).hand hq _).finish
    · have hM : Unworked (lostChange s.motion).mask := by
        unfold Unworked lostChange restFall; cases s.motion.freefall <;> cases s.motion.still <;> decide
      have hu : Untouched (lostChange s.motion).mask (silenced stamp (s.tick dt)) :=
        Untouched.waits (s := s.tick dt) (by rw [Untouched, show (s.tick dt).trig.waiting = [] from hw]; simp) hM
          (silenced_waitsMore _ _)
      have hl : (silenced stamp (s.tick dt)).trig.waiting.length < 4096 := by
        have h1 := waiting_le_holdDebt (silenced stamp (s.tick dt))
        have h2 := silenced_holdDebt stamp (s.tick dt)
        have h3 := holdDebt_le_waiting (s.tick dt)
        rw [show (s.tick dt).trig.waiting = [] from hw] at h3
        simp at h3; omega
      have hS := ((stands_hand hM (BitVec.and_self) hu hl).finish hM).1
      rw [loseMotion_eq]
      refine ⟨?_, fun hf => ?_, fun hf => ?_⟩
      · refine (and_of_and hS ?_).trans ?_ <;>
          (unfold lostChange restFall; cases s.motion.freefall <;> cases s.motion.still <;> decide)
      · refine (and_of_and hS ?_).trans ?_ <;>
          (unfold lostChange restFall; rw [hf]; cases s.motion.still <;> decide)
      · refine (and_of_and hS ?_).trans ?_ <;>
          (unfold lostChange restFall; rw [hf]; cases s.motion.freefall <;> decide)
  · refine (hr.tick dt).act hp ?_
    rw [hsil, if_neg (Nat.not_le.2 hearly)]

end Sys2Proof.Machine

/-! PROOF. The end of a link reset: the identity check (R8), and the triggers primed afresh (R142). -/

namespace Sys2Proof.Machine

/-! ### Last values that stand -/

/-- Every entry's last value is its value under the conditions. -/
def Primed (s : State) : Prop := s.trig.last = s.trig.entries.map fun e => e.value s.trig.conds

/-- An entry none of whose conditions has changed keeps its value. -/
theorem value_of_unchanged {e : TrigEntry} {x y : BitVec 16} (h : e.mask &&& (y ^^^ x) = 0#16) : e.value x = e.value y := by
  have hm : e.mask &&& x = e.mask &&& y := by
    ext i hi
    have hb := congrArg (fun v : BitVec 16 => v[i]) h
    simp only [BitVec.getElem_and, BitVec.getElem_xor, BitVec.getElem_zero] at hb ⊢
    revert hb
    cases e.mask[i] <;> cases x[i] <;> cases y[i] <;> simp
  unfold TrigEntry.value; rw [hm]

/-- Last values that are those of the conditions are so after a change. -/
theorem lastAfter_primed (x y : BitVec 16) (es : List TrigEntry) :
    lastAfter (y ^^^ x) y es (es.map fun e => e.value x) = es.map fun e => e.value y := by
  induction es with
  | nil => rfl
  | cons e es ih =>
    rw [List.map_cons, List.map_cons, lastAfter, ih]
    split
    · rfl
    · next h => rw [value_of_unchanged (not_not.1 h)]

theorem Primed.congr {s t : State} (h : Primed s) (hl : t.trig.last = s.trig.last) (he : t.trig.entries = s.trig.entries)
    (hc : t.trig.conds = s.trig.conds) : Primed t := by unfold Primed; rw [hl, he, hc]; exact h

theorem settles_primed : Settles Primed where
  work h hw := h.congr (hw.keeps (fun u : State => u.trig.last) fun _ => rfl)
    (hw.keeps (fun u : State => u.trig.entries) fun _ => rfl) (hw.keeps (fun u : State => u.trig.conds) fun _ => rfl)
  take := by
    intro s c cs h _
    show lastAfter (c.apply s.trig.conds ^^^ s.trig.conds) (c.apply s.trig.conds) s.trig.entries s.trig.last = _
    rw [show s.trig.last = _ from h, lastAfter_primed]
    rfl

theorem Primed.finish {s : State} (h : Primed s) : Primed (finish s) :=
  settles_primed.finish (fun {s} h => h.congr (depart_keeps (fun u : State => u.trig.last) (fun _ => rfl) s)
    (depart_keeps (fun u : State => u.trig.entries) (fun _ => rfl) s)
    (depart_keeps (fun u : State => u.trig.conds) (fun _ => rfl) s)) h

theorem primed_rePrime (s : State) : Primed (rePrime s) := rfl

/-! ### Rest kept -/

/-- `t` is at rest, with the store, Record Intake and the card of `s`. -/
structure RestKept (s t : State) : Prop where
  rest : AtRest t
  store : t.store = s.store
  intake : t.intake = s.intake
  card : t.card = s.card

theorem AtRest.kept {s : State} (h : AtRest s) : RestKept s s := ⟨h, rfl, rfl, rfl⟩

theorem RestKept.congr {s t u : State} (h : RestKept s t) (hs : u.store = t.store) (hi : u.intake = t.intake)
    (hc : u.card = t.card) (hw : u.trig.waiting = t.trig.waiting) (ho : u.outbox = t.outbox) : RestKept s u :=
  ⟨h.rest.congr hs hi hc hw ho, hs.trans h.store, hi.trans h.intake, hc.trans h.card⟩

/-- A part at rest stays so where it issues a report, also one that is lost. -/
theorem RestKept.report {s t : State} (h : RestKept s t) (p : Payload) : RestKept s (report p t) := by
  by_cases hr : t.link.reports.length < Config.reportLimit
  · rw [report_of_departed h.rest.2.2 hr]
    exact ⟨h.rest.reported, by unfold reported; split <;> exact h.store, by unfold reported; split <;> exact h.intake,
      by unfold reported; split <;> exact h.card⟩
  · have ho : atOnce t = false := by
      by_contra hc
      have := (departed_open h.rest.2.2 (by simpa using hc)).2.2.1
      simp [this, Config.reportLimit] at hr
    rw [report_full ho (Nat.le_of_not_lt hr)]
    exact ⟨h.rest.queued _ ho rfl, h.store, h.intake, h.card⟩

theorem RestKept.reportAll {s t : State} (h : RestKept s t) (ps : List Payload) : RestKept s (reportAll ps t) := by
  induction ps generalizing t with
  | nil => exact h
  | cons p ps ih => exact ih (h.report p)

theorem RestKept.abortCal {s t : State} (h : RestKept s t) (r : CalReason) (n : MotionStatus) :
    RestKept s (abortCal r n t) := by
  rw [abortCal_eq]; exact RestKept.reportAll (t := t.mapMotion _) (h.congr rfl rfl rfl rfl rfl) _

theorem AtRest.waiting {s : State} (h : AtRest s) : s.trig.waiting = [] := ((settleStep_eq_none_iff s).1 h.1).1

/-- Changes of a part at rest in which no entry fires only change the conditions and the last values. -/
theorem RestKept.takeChange {s t : State} {c : Change} (h : RestKept s t) (hf : fired c t = []) :
    RestKept s (takeChange c t) := by
  rw [takeChange_eq, hf]; exact h.congr rfl rfl rfl rfl rfl

theorem RestKept.hand {s t : State} {c : Change} (h : RestKept s t) (hf : fired c t = []) : RestKept s (hand [c] t) := by
  have hw := h.rest.waiting
  have ht : t.mapTrig (fun u => { u with waiting := [] }) = t := by
    have hl : { t.trig with waiting := [] } = t.trig := by rw [← hw]
    unfold State.mapTrig; dsimp only; rw [hl]
  have hk := h.takeChange hf
  have h1 : Machine.hand [c] t = takeWaiting 4095 (Machine.takeChange c t) := by
    show takeWaiting 4096 _ = _
    rw [takeWaiting]
    simp only [State.mapTrig_trig, hw, List.nil_append]
    rw [← ht]; rfl
  rw [h1, takeWaiting, hk.rest.waiting]
  exact hk

/-- While an identity check is made, no entry fires. -/
theorem fired_checking {c : Change} {s : State} (h : s.motion.checking = true) : fired c s = [] := by
  unfold fired armed; simp [h]

/-! ### The identity check (R8) -/

/-- A held IMU SETUP page comes into force, if there is one. -/
theorem applyImu_eq (s : State) : applyImu s =
    (s.mapMotion fun m => { m with setup := s.link.waitImu.getD m.setup }).mapLink fun l => { l with waitImu := none } := by
  unfold applyImu
  cases h : s.link.waitImu with
  | none =>
    have hl : { s.link with waitImu := none } = s.link := by rw [← h]
    unfold State.mapMotion State.mapLink; dsimp only [Option.getD_none]; rw [hl]
  | some t => rfl

/-- The part whose calibration run has ended and whose held page is in force. -/
def settledImu (s : State) : State := abortCal .reset .running (applyImu s)

/-- The part after the identity read, before it is recentered. -/
def identified (ident : Option Nat) (s : State) : State :=
  if ident = some (settledImu s).motion.setup.identity then
    configureSensor (settledImu s).motion.setup ((settledImu s).mapMotion fun m =>
      { m with status := .running, expected := none, lastStamp := none })
  else report (.imuAbsent ident (settledImu s).motion.setup.identity) ((settledImu s).mapMotion fun m =>
    { m with status := .absent })

theorem endCheck_eq (ident : Option Nat) (s : State) : endCheck ident s =
    (rePrime (hand [setCond condMotionLost false] (recenterNow (identified ident s)))).mapMotion fun m =>
      { m with checking := false } := rfl

section
variable {ident : Option Nat} {s : State}

theorem settledImu_motion : (settledImu s).motion =
    Motion.aborted .running { s.motion with setup := s.link.waitImu.getD s.motion.setup } := by
  unfold settledImu; rw [abortCal_motion, applyImu_eq]; rfl

/-- The end of the calibration run leaves what does not depend on the Motion Front-End or on what has left. -/
theorem settledImu_keeps {α : Type} (f : State → α) (h : ∀ s : State, f s.unsent = f s)
    (hm : ∀ (g : Motion → Motion) (s : State), f (s.mapMotion g) = f s) :
    f (settledImu s) = f (s.mapLink fun l => { l with waitImu := none }) := by
  unfold settledImu
  rw [abortCal_keeps f h hm, applyImu_eq, show ∀ (g : Motion → Motion) (k : Link → Link),
    (s.mapMotion g).mapLink k = (s.mapLink k).mapMotion g from fun _ _ => rfl, hm]

/-- The identity read leaves what depends on neither the Motion Front-End, nor the Path Filter, nor what has left. -/
theorem identified_keeps {α : Type} (f : State → α) (h : ∀ s : State, f s.unsent = f s)
    (hm : ∀ (g : Motion → Motion) (s : State), f (s.mapMotion g) = f s)
    (hf : ∀ (g : Filter → Filter) (s : State), f (s.mapFilter g) = f s) :
    f (identified ident s) = f (s.mapLink fun l => { l with waitImu := none }) := by
  rw [← settledImu_keeps f h hm]
  unfold identified configureSensor
  split
  · rw [hf, hm, hm]
  · rw [report_keeps f h, hm]

theorem identified_motion_match (h : ident = some (s.link.waitImu.getD s.motion.setup).identity) :
    (identified ident s).motion = { s.motion with
      setup := s.link.waitImu.getD s.motion.setup, cal := none, status := .running, expected := none, lastStamp := none,
      sensor := some ⟨(s.link.waitImu.getD s.motion.setup).odr, (s.link.waitImu.getD s.motion.setup).fs⟩ } := by
  unfold identified
  rw [if_pos (by rw [settledImu_motion]; exact h)]
  unfold configureSensor
  simp only [State.mapFilter_motion, State.mapMotion_motion, settledImu_motion, Motion.aborted]

theorem identified_motion_other (h : ident ≠ some (s.link.waitImu.getD s.motion.setup).identity) :
    (identified ident s).motion =
      { s.motion with setup := s.link.waitImu.getD s.motion.setup, cal := none, status := .absent } := by
  unfold identified
  rw [if_neg (by rw [settledImu_motion]; exact h)]
  simp only [report_motion, State.mapMotion_motion, settledImu_motion, Motion.aborted]

/-- Whatever the identity read, the page is in force, the calibration run has ended, and the check is not over yet. -/
theorem identified_motion : (identified ident s).motion.cal = none ∧
    (identified ident s).motion.setup = s.link.waitImu.getD s.motion.setup ∧
    (identified ident s).motion.bias = s.motion.bias ∧ (identified ident s).motion.checking = s.motion.checking := by
  by_cases h : ident = some (s.link.waitImu.getD s.motion.setup).identity
  · rw [identified_motion_match h]; exact ⟨rfl, rfl, rfl, rfl⟩
  · rw [identified_motion_other h]; exact ⟨rfl, rfl, rfl, rfl⟩

theorem reexpressed_rate (f : Filter) (odr : Nat) : (f.reexpressed odr).rate = odr := by
  unfold Filter.reexpressed; split
  · next h => exact h.symm
  · rfl

theorem identified_rate (h : ident = some (s.link.waitImu.getD s.motion.setup).identity) :
    (identified ident s).filter.rate = (s.link.waitImu.getD s.motion.setup).odr := by
  unfold identified
  rw [if_pos (by rw [settledImu_motion]; exact h)]
  unfold configureSensor
  rw [State.mapFilter_filter, reexpressed_rate, settledImu_motion]; rfl

theorem settledImu_waitsMore : WaitsMore s (settledImu s) := by
  refine WaitsMore.trans (t := applyImu s) (.of_eq ?_) (abortCal_waitsMore _ _ _)
  rw [applyImu_eq]; rfl

theorem settledImu_holdDebt : holdDebt (settledImu s) ≤ holdDebt s := by
  refine (abortCal_holdDebt _ _ _).trans (holdDebt_congr ?_ ?_ ?_ ?_).le <;> (rw [applyImu_eq]; rfl)

theorem identified_waitsMore : WaitsMore s (identified ident s) := by
  refine settledImu_waitsMore.trans ?_
  unfold identified configureSensor; split
  · exact .of_eq rfl
  · exact report_waitsMore _ ((settledImu s).mapMotion _)

theorem identified_holdDebt : holdDebt (identified ident s) ≤ holdDebt s := by
  refine le_trans ?_ settledImu_holdDebt
  unfold identified configureSensor; split
  · exact (holdDebt_congr rfl rfl rfl rfl).le
  · exact (report_holdDebt _ ((settledImu s).mapMotion _)).trans (holdDebt_congr rfl rfl rfl rfl).le

theorem AtRest.settledImu (h : AtRest s) : RestKept s (settledImu s) := by
  have h1 : RestKept s (applyImu s) := by rw [applyImu_eq]; exact h.kept.congr rfl rfl rfl rfl rfl
  exact h1.abortCal _ _

theorem AtRest.identified (h : AtRest s) : RestKept s (identified ident s) := by
  unfold Machine.identified configureSensor; split
  · exact h.settledImu.congr rfl rfl rfl rfl rfl
  · exact RestKept.report (t := (Machine.settledImu s).mapMotion _) (h.settledImu.congr rfl rfl rfl rfl rfl) _

/-- At rest no entry fires at the end of the check, and nothing follows it. -/
theorem AtRest.endCheck (h : AtRest s) (hc : s.motion.checking = true) : RestKept s (endCheck ident s) := by
  have h1 : RestKept s (recenterNow (Machine.identified ident s)) := h.identified.congr rfl rfl rfl rfl rfl
  rw [endCheck_eq]
  exact (h1.hand (fired_checking (identified_motion.2.2.2.trans hc))).congr rfl rfl rfl rfl rfl

/-- With no change waiting, MOTION_LOST is false from the end of the check on. -/
theorem endCheck_stands (hw : s.trig.waiting = []) : Stands condMotionLost 0#16 (endCheck ident s) := by
  have hM : Unworked condMotionLost := by unfold Unworked; decide
  have hu : Untouched condMotionLost (recenterNow (identified ident s)) :=
    Untouched.waits (s := s) (by rw [Untouched, hw]; simp) hM identified_waitsMore
  have hl : (recenterNow (identified ident s)).trig.waiting.length < 4096 := by
    have h1 := waiting_le_holdDebt (identified ident s)
    have h2 := identified_holdDebt (ident := ident) (s := s)
    have h3 := holdDebt_le_waiting s
    rw [hw] at h3
    show (identified ident s).trig.waiting.length < 4096
    simp only [List.length_nil] at h3; omega
  exact stands_hand hM (c := setCond condMotionLost false) (by decide) hu hl

end

/-- Settles O21, by whether the identity read matches. -/
theorem identityCheckEndsTheReset : Obligations.IdentityCheckEndsTheReset := by
  intro dt ident s hp hc
  obtain ⟨hcal, hset, hbias, -⟩ := identified_motion (ident := ident.map BitVec.toNat) (s := s.tick dt)
  dsimp only [exec, execIdentityCheck]
  have hm : (endCheck (ident.map BitVec.toNat) (s.tick dt)).motion =
      { (identified (ident.map BitVec.toNat) (s.tick dt)).motion with checking := false } := by
    rw [endCheck_eq, State.mapMotion_motion]
    exact congrArg (fun m : Motion => { m with checking := false }) (hand_motion _ _)
  have hf : (endCheck (ident.map BitVec.toNat) (s.tick dt)).filter =
      (identified (ident.map BitVec.toNat) (s.tick dt)).filter.recentered := by
    rw [endCheck_eq]; exact hand_filter _ _
  refine ⟨finish (endCheck (ident.map BitVec.toNat) (s.tick dt)), ?_, ?_, ?_, ?_, ?_, ?_, ?_, fun hw => ?_, ?_, ?_,
    fun hr => ?_, fun h => ?_, fun h => ?_⟩
  · rw [act_powered hp, tick_motion, if_pos hc]
  · rw [finish_motion, hm]
  · rw [finish_motion, hm]; exact hcal
  · rw [finish_motion, hm]; exact hset
  · rw [finish_waitImu, endCheck_eq]
    refine (hand_keeps (fun u : State => u.link.waitImu) (fun _ => rfl) _ _).trans ?_
    exact identified_keeps (fun u : State => u.link.waitImu) (fun _ => rfl) (fun _ _ => rfl) fun _ _ => rfl
  · rw [finish_motion, hm]; exact hbias
  · rw [finish_filter, hf]; rfl
  · exact ((endCheck_stands (s := s.tick dt) (ident := ident.map BitVec.toNat) hw).finish (by unfold Unworked; decide)).1
  · rw [finish_entries, endCheck_eq]
    refine (hand_keeps (fun u : State => u.trig.entries) (fun _ => rfl) _ _).trans ?_
    exact identified_keeps (fun u : State => u.trig.entries) (fun _ => rfl) (fun _ _ => rfl) fun _ _ => rfl
  · rw [endCheck_eq]; exact Primed.finish (s := (rePrime _).mapMotion _) (primed_rePrime _)
  · have hk := (hr.tick dt).endCheck (ident := ident.map BitVec.toNat) hc
    rw [hk.rest.finish]
    exact ⟨hk.store, hk.intake, hk.card⟩
  · rw [finish_motion, finish_filter, hm, hf, identified_motion_match (s := s.tick dt) h]
    exact ⟨rfl, rfl, rfl, rfl, identified_rate (s := s.tick dt) h⟩
  · rw [finish_motion, hm, identified_motion_other (s := s.tick dt) h]
    exact ⟨rfl, rfl⟩

end Sys2Proof.Machine

/-! PROOF. A sample: what the Path Filter's hand-over, the sequence check and the detectors do, said once for each. -/

namespace Sys2Proof.Machine

/-! ### The Path Filter takes a sample (R20, R40) -/

/-- A waiting SMOOTHING page comes into force, if there is one. -/
theorem applySmoothing_eq (s : State) : applySmoothing s =
    (s.mapFilter fun f => { f with smoothing := s.link.waitSmoothing.getD f.smoothing }).mapLink fun l =>
      { l with waitSmoothing := none } := by
  unfold applySmoothing
  cases h : s.link.waitSmoothing with
  | none =>
    have hl : { s.link with waitSmoothing := none } = s.link := by rw [← h]
    unfold State.mapFilter State.mapLink; dsimp only [Option.getD_none]; rw [hl]
  | some t => rfl

/-- The Path Filter after a sample of mapped rates `r` under bias `b`, the SMOOTHING page `w` in force first where one waits. -/
def Filter.after (f : Filter) (w : Option (List SmoothEntry)) (k : Nat) (b r : Axes) (time : Nat) : Filter :=
  { f with smoothing := w.getD f.smoothing }.step k ⟨r.yaw - b.yaw, r.pitch - b.pitch, r.roll - b.roll⟩ time

theorem filterSample_eq (r : Axes) (time : Nat) (s : State) : filterSample r time s =
    (s.mapFilter fun f => f.after s.link.waitSmoothing s.motion.setup.rateFactor s.motion.bias r time).mapLink fun l =>
      { l with waitSmoothing := none } := by
  unfold filterSample; rw [applySmoothing_eq]; rfl

/-- The Motion Front-End remembers a sample. -/
def Motion.sampled (r : Axes) (seq time : Nat) (m : Motion) : Motion :=
  { m with lastRates := r, lastStamp := some time, expected := some ((seq + 1) % 256) }

/-! ### What a sample leaves of the rest -/

section
variable {α : Type} (f : State → α) (hf : ∀ (g : Filter → Filter) (s : State), f (s.mapFilter g) = f s)
  (hl : ∀ s : State, f (s.mapLink fun l => { l with waitSmoothing := none }) = f s)
include hf hl

/-- A sample changes the Path Filter and the waiting SMOOTHING page, and nothing else. -/
theorem filterSample_keeps (r : Axes) (time : Nat) (s : State) : f (filterSample r time s) = f s := by
  rw [filterSample_eq, hl, hf]

theorem fillSamples_keeps (time n : Nat) (s : State) : f (fillSamples time n s) = f s := by
  induction n generalizing s with
  | zero => rfl
  | succ n ih => exact (ih _).trans (filterSample_keeps f hf hl _ time s)

theorem handOver_keeps (hm : ∀ (g : Motion → Motion) (s : State), f (s.mapMotion g) = f s) (r : Axes) (seq time : Nat)
    (s : State) : f (handOver r seq time s) = f s := (hm _ _).trans (filterSample_keeps f hf hl r time s)

end

section
variable (r : Axes) (seq time n : Nat) (s : State)
@[simp] theorem filterSample_motion : (filterSample r time s).motion = s.motion :=
  filterSample_keeps State.motion (fun _ _ => rfl) (fun _ => rfl) r time s
@[simp] theorem fillSamples_motion : (fillSamples time n s).motion = s.motion :=
  fillSamples_keeps State.motion (fun _ _ => rfl) (fun _ => rfl) time n s
@[simp] theorem fillSamples_counters : (fillSamples time n s).counters = s.counters :=
  fillSamples_keeps State.counters (fun _ _ => rfl) (fun _ => rfl) time n s
@[simp] theorem fillSamples_reports : (fillSamples time n s).link.reports = s.link.reports :=
  fillSamples_keeps (fun t : State => t.link.reports) (fun _ _ => rfl) (fun _ => rfl) time n s
@[simp] theorem handOver_motion : (handOver r seq time s).motion = s.motion.sampled r seq time := by
  unfold handOver; rw [State.mapMotion_motion, filterSample_motion]; rfl
@[simp] theorem handOver_counters : (handOver r seq time s).counters = s.counters :=
  handOver_keeps State.counters (fun _ _ => rfl) (fun _ => rfl) (fun _ _ => rfl) r seq time s
@[simp] theorem handOver_partTime : (handOver r seq time s).partTime = s.partTime :=
  handOver_keeps State.partTime (fun _ _ => rfl) (fun _ => rfl) (fun _ _ => rfl) r seq time s
@[simp] theorem handOver_reports : (handOver r seq time s).link.reports = s.link.reports :=
  handOver_keeps (fun t : State => t.link.reports) (fun _ _ => rfl) (fun _ => rfl) (fun _ _ => rfl) r seq time s
theorem handOver_filter : (handOver r seq time s).filter =
    s.filter.after s.link.waitSmoothing s.motion.setup.rateFactor s.motion.bias r time := by
  unfold handOver; rw [filterSample_eq]; rfl
end

/-- Reports carried stay so while the Path Filter takes fills and a sample, and losses are counted. -/
theorem Carried.handOver {rs : List Report} {s : State} (h : Carried rs s) (r : Axes) (seq time : Nat) :
    Carried rs (handOver r seq time s) :=
  h.congr (handOver_keeps atOnce (fun _ _ => rfl) (fun _ => rfl) (fun _ _ => rfl) r seq time s)
    (handOver_reports r seq time s)
    (handOver_keeps State.captureOut (fun _ _ => rfl) (fun _ => rfl) (fun _ _ => rfl) r seq time s)

theorem Carried.fillSamples {rs : List Report} {s : State} (h : Carried rs s) (time n : Nat) :
    Carried rs (fillSamples time n s) :=
  h.congr (fillSamples_keeps atOnce (fun _ _ => rfl) (fun _ => rfl) time n s) (fillSamples_reports time n s)
    (fillSamples_keeps State.captureOut (fun _ _ => rfl) (fun _ => rfl) time n s)

/-- Some of the reports carried are carried. -/
theorem Carried.sublist {rs qs : List Report} {s : State} (h : Carried rs s) (hq : qs.Sublist rs) : Carried qs s :=
  h.imp (fun ⟨ho, hr⟩ => ⟨ho, hq.trans hr⟩) (hq.map _).trans

/-! ### The sequence check (R4, R5) -/

section
variable {r : Axes} {seq time : Nat} {s : State}

theorem takeRunning_noGap (h : s.motion.gap seq = 0) : takeRunning r seq time s = handOver r seq time s := if_pos h

theorem takeRunning_fills (h0 : s.motion.gap seq ≠ 0) (h8 : s.motion.gap seq ≤ 8) : takeRunning r seq time s =
    handOver r seq time (countLost (s.motion.gap seq) (fillSamples time (s.motion.gap seq) (abortCal .moved .running s))) :=
  (if_neg h0).trans (if_pos h8)

theorem takeRunning_breaks (h8 : 8 < s.motion.gap seq) : takeRunning r seq time s =
    report (.sampleGap (s.motion.expected.getD 0) seq (s.motion.gap seq))
      (countLost (s.motion.gap seq) (handOver r seq time (recenterNow (abortCal .moved .running s)))) :=
  (if_neg (by omega)).trans (if_neg (by omega))

/-- A gap is none, one that is filled, or one that breaks the history. -/
theorem gap_cases (g : Nat) : g = 0 ∨ (g ≠ 0 ∧ g ≤ 8) ∨ 8 < g := by omega

theorem takeRunning_motion : (takeRunning r seq time s).motion =
    (if s.motion.gap seq = 0 then s.motion else s.motion.aborted .running).sampled r seq time := by
  rcases gap_cases (s.motion.gap seq) with h | ⟨h0, h8⟩ | h
  · rw [takeRunning_noGap h, if_pos h, handOver_motion]
  · rw [takeRunning_fills h0 h8, if_neg h0, handOver_motion, countLost, State.mapCounters_motion, fillSamples_motion,
      abortCal_motion]
  · rw [takeRunning_breaks h, if_neg (by omega), report_motion, countLost, State.mapCounters_motion, handOver_motion,
      recenterNow, State.mapFilter_motion, abortCal_motion]

theorem takeRunning_counters : (takeRunning r seq time s).counters = { s.counters with
    samplesLost := if s.motion.gap seq = 0 then s.counters.samplesLost
      else satAdd s.counters.samplesLost (s.motion.gap seq) } := by
  rcases gap_cases (s.motion.gap seq) with h | ⟨h0, h8⟩ | h
  · rw [takeRunning_noGap h, if_pos h, handOver_counters]
  · rw [takeRunning_fills h0 h8, if_neg h0, handOver_counters, countLost, State.mapCounters_counters, fillSamples_counters,
      abortCal_counters]
  · rw [takeRunning_breaks h, if_neg (by omega), report_counters, countLost, State.mapCounters_counters, handOver_counters,
      recenterNow, State.mapFilter_counters, abortCal_counters]

theorem takeRunning_reports_length :
    (takeRunning r seq time s).link.reports.length ≤ s.link.reports.length + 2 := by
  have ha := abortCal_reports_length .moved .running s
  have hl := abortReports_length .moved s.motion
  rcases gap_cases (s.motion.gap seq) with h | ⟨h0, h8⟩ | h
  · rw [takeRunning_noGap h, handOver_reports]; omega
  · rw [takeRunning_fills h0 h8, handOver_reports, countLost, State.mapCounters_link, fillSamples_reports]; omega
  · have hr := report_reports_length (.sampleGap (s.motion.expected.getD 0) seq (s.motion.gap seq))
      (countLost (s.motion.gap seq) (handOver r seq time (recenterNow (abortCal .moved .running s))))
    rw [takeRunning_breaks h]
    simp only [countLost, State.mapCounters_link, handOver_reports, recenterNow, State.mapFilter_link] at hr ⊢
    omega

theorem takeRunning_partTime : (takeRunning r seq time s).partTime = s.partTime := by
  rcases gap_cases (s.motion.gap seq) with h | ⟨h0, h8⟩ | h
  · rw [takeRunning_noGap h, handOver_partTime]
  · rw [takeRunning_fills h0 h8, handOver_partTime, countLost, State.mapCounters_partTime,
      fillSamples_keeps State.partTime (fun _ _ => rfl) (fun _ => rfl), abortCal_partTime]
  · rw [takeRunning_breaks h, report_partTime, countLost, State.mapCounters_partTime, handOver_partTime, recenterNow,
      State.mapFilter_partTime, abortCal_partTime]

/-- What a gap's end of the calibration run has reported stays carried. -/
theorem Carried.takeRunning {rs : List Report} (h : Carried rs (abortCal .moved .running s)) (hg : s.motion.gap seq ≠ 0) :
    Carried rs (takeRunning r seq time s) := by
  rcases gap_cases (s.motion.gap seq) with h0 | ⟨h0, h8⟩ | h8
  · exact absurd h0 hg
  · rw [takeRunning_fills h0 h8]
    exact Carried.handOver ((h.fillSamples time _).congr (t := countLost _ _) rfl rfl rfl) _ _ _
  · rw [takeRunning_breaks h8]
    refine Carried.report ?_ _
    exact (Carried.handOver (h.congr (t := recenterNow _) rfl rfl rfl) r seq time).congr rfl rfl rfl

end

/-! ### Shocks (R9, R18) -/

section
variable {l : List Int} {time : Nat} {s : State}

/-- The part whose holdoff has begun and whose shock is counted. -/
def shockCounted (time : Nat) (s : State) : State :=
  countShock (s.mapMotion fun m => { m with holdoffEnd := some (time + ms m.limits.shockHoldoff) })

theorem shockCounted_watching (h : s.motion.status = .watching) : shockCounted time s =
    (s.mapMotion fun m => { m with
      holdoffEnd := some (time + ms m.limits.shockHoldoff)
      watchCount := min (m.watchCount + 1) 255
      wake := m.wake || (decide (m.limits.wakeCount ≠ 0) && decide (m.limits.wakeCount ≤ min (m.watchCount + 1) 255)) }).mapCounters
      fun c => { c with shocksAsleep := satAdd c.shocksAsleep 1 } := if_pos h

theorem shockCounted_other (h : s.motion.status ≠ .watching) : shockCounted time s =
    (s.mapMotion fun m => { m with holdoffEnd := some (time + ms m.limits.shockHoldoff) }).mapCounters
      fun c => { c with shocks := satAdd c.shocks 1 } := if_neg h

/-- A shock is counted, reported, and handed to the Trigger Unit. -/
theorem detectShock_counted (h : ShockFound l time s.motion) : detectShock l time s = takeEach (riseAndFall condShock)
    (report (.shock (peakFrom 0 l).1 (peakFrom 0 l).2) (shockCounted time s)) := detectShock_found h

theorem shockCounted_link : (shockCounted time s).link = s.link := by
  unfold shockCounted countShock; split <;> rfl

theorem shockCounted_partTime : (shockCounted time s).partTime = s.partTime := by
  unfold shockCounted countShock; split <;> rfl

theorem shockCounted_filter : (shockCounted time s).filter = s.filter := by
  unfold shockCounted countShock; split <;> rfl

theorem detectShock_filter : (detectShock l time s).filter = s.filter := by
  by_cases h : ShockFound l time s.motion
  · rw [detectShock_counted h, takeEach_filter, report_filter]; exact shockCounted_filter
  · rw [detectShock_none h]

theorem detectShock_partTime : (detectShock l time s).partTime = s.partTime := by
  by_cases h : ShockFound l time s.motion
  · rw [detectShock_counted h, takeEach_partTime, report_partTime]; exact shockCounted_partTime
  · rw [detectShock_none h]

/-- Outside WATCHING a shock begins a holdoff, and is counted in the shocks counter. -/
theorem shock_motion (h : ShockFound l time s.motion) (hw : s.motion.status ≠ .watching) : (detectShock l time s).motion =
    { s.motion with holdoffEnd := some (time + ms s.motion.limits.shockHoldoff) } := by
  rw [detectShock_counted h, takeEach_motion, report_motion, shockCounted_other hw]; rfl

theorem shock_counters (h : ShockFound l time s.motion) (hw : s.motion.status ≠ .watching) :
    (detectShock l time s).counters.unworked = { s.counters with shocks := satAdd s.counters.shocks 1 }.unworked := by
  rw [detectShock_counted h, takeEach_counters, report_counters, shockCounted_other hw]; rfl

/-- In WATCHING a shock begins a holdoff, and is counted in the shocks-asleep counter and the watch shock count. -/
theorem watchShock_motion (h : ShockFound l time s.motion) (hw : s.motion.status = .watching) : (detectShock l time s).motion =
    { s.motion with
      holdoffEnd := some (time + ms s.motion.limits.shockHoldoff)
      watchCount := min (s.motion.watchCount + 1) 255
      wake := s.motion.wake || (decide (s.motion.limits.wakeCount ≠ 0) &&
        decide (s.motion.limits.wakeCount ≤ min (s.motion.watchCount + 1) 255)) } := by
  rw [detectShock_counted h, takeEach_motion, report_motion, shockCounted_watching hw]; rfl

theorem watchShock_counters (h : ShockFound l time s.motion) (hw : s.motion.status = .watching) :
    (detectShock l time s).counters.unworked =
      { s.counters with shocksAsleep := satAdd s.counters.shocksAsleep 1 }.unworked := by
  rw [detectShock_counted h, takeEach_counters, report_counters, shockCounted_watching hw]; rfl

/-- Outside WATCHING the shock detector changes the holdoff alone. -/
theorem detectShock_motion (hw : s.motion.status ≠ .watching) :
    ∃ e, (detectShock l time s).motion = { s.motion with holdoffEnd := e } := by
  by_cases h : ShockFound l time s.motion
  · exact ⟨_, shock_motion h hw⟩
  · exact ⟨_, congrArg State.motion (detectShock_none h)⟩

theorem detectShock_samplesLost (hw : s.motion.status ≠ .watching) :
    (detectShock l time s).counters.samplesLost = s.counters.samplesLost := by
  by_cases h : ShockFound l time s.motion
  · have hc := congrArg Counters.samplesLost (shock_counters h hw)
    exact hc
  · rw [detectShock_none h]

theorem Carried.shockCounted {rs : List Report} (h : Carried rs s) : Carried rs (shockCounted time s) := by
  unfold Machine.shockCounted countShock; split <;> exact h.congr rfl rfl rfl

theorem Carried.detectShock {rs : List Report} (h : Carried rs s) : Carried rs (detectShock l time s) := by
  by_cases hf : ShockFound l time s.motion
  · rw [detectShock_counted hf]
    exact (lasts_carried rs).takeEach ((Carried.shockCounted h).report _) _
  · rw [detectShock_none hf]; exact h

/-- A shock that finds room is carried. -/
theorem shock_carried (h : ShockFound l time s.motion) (hr : s.link.reports.length < 32) :
    Carried [⟨s.partTime, .shock (peakFrom 0 l).1 (peakFrom 0 l).2⟩] (detectShock l time s) := by
  rw [detectShock_counted h, ← shockCounted_partTime (time := time)]
  refine (lasts_carried _).takeEach (CarriedByRoom.carried ?_) _
  exact (CarriedByRoom.nil (shockCounted time s)).report _ (by rw [shockCounted_link]; exact hr)

end

/-! ### The three detectors -/

section
variable {r : Axes} {l : List Int} {time : Nat} {s : State}

theorem Carried.detectRest {rs : List Report} (h : Carried rs s) : Carried rs (detectRest r l time s) := by
  rw [detectRest_eq]
  exact (lasts_carried rs).takeEach (Carried.reportAll (s := s.mapMotion _) (h.congr rfl rfl rfl) _) _

theorem Carried.detect {rs : List Report} (h : Carried rs s) : Carried rs (detect r l time s) :=
  (lasts_carried rs).hand h.detectShock.detectRest []

theorem detectRest_filter : (detectRest r l time s).filter = s.filter := by rw [detectRest_eq]; simp

theorem detectRest_counters : (detectRest r l time s).counters.unworked = s.counters.unworked := by
  rw [detectRest_eq]; simp

theorem detectRest_partTime : (detectRest r l time s).partTime = s.partTime := by rw [detectRest_eq]; simp

@[simp] theorem detect_filter : (detect r l time s).filter = s.filter := by
  unfold detect; rw [hand_filter, detectRest_filter, detectShock_filter]

@[simp] theorem detect_partTime : (detect r l time s).partTime = s.partTime := by
  unfold detect; rw [hand_partTime, detectRest_partTime, detectShock_partTime]

theorem detect_counters : (detect r l time s).counters.unworked = (detectShock l time s).counters.unworked := by
  unfold detect; rw [hand_counters, detectRest_counters]

theorem detect_motion : (detect r l time s).motion = (detectShock l time s).motion.rested r l time := by
  unfold detect; rw [hand_motion, detectRest_motion]

theorem detect_samplesLost (hw : s.motion.status ≠ .watching) :
    (detect r l time s).counters.samplesLost = s.counters.samplesLost := by
  have hc := congrArg Counters.samplesLost (detect_counters (r := r) (l := l) (time := time) (s := s))
  exact hc.trans (detectShock_samplesLost hw)

end

end Sys2Proof.Machine

/-! PROOF. The shock, freefall and stillness detectors on the record of a read (R9 to R12, R18). -/

namespace Sys2Proof.Machine

/-! ### The largest acceleration (R9) -/

/-- `v` stands at `i` in `l`, no element is larger in magnitude, and each before it is smaller. -/
def Peak (l : List Int) (i : Nat) (v : Int) : Prop :=
  l[i]? = some v ∧ (∀ w ∈ l, w.natAbs ≤ v.natAbs) ∧ ∀ j < i, ∀ w, l[j]? = some w → w.natAbs < v.natAbs

/-- A head at least as large as the peak of the rest is the peak; otherwise that of the rest is. -/
theorem peak_cons_of_le {a : Int} {as : List Int} {k : Nat} {v : Int} (h : Peak as k v) (hle : v.natAbs ≤ a.natAbs) :
    Peak (a :: as) 0 a := by
  obtain ⟨-, hmax, -⟩ := h
  refine ⟨rfl, fun w hw => ?_, fun j hj => absurd hj (Nat.not_lt_zero j)⟩
  rcases List.mem_cons.1 hw with rfl | hw
  · exact le_rfl
  · exact (hmax w hw).trans hle

theorem peak_cons_of_lt {a : Int} {as : List Int} {k : Nat} {v : Int} (h : Peak as k v) (hlt : a.natAbs < v.natAbs) :
    Peak (a :: as) (k + 1) v := by
  obtain ⟨hat, hmax, hmin⟩ := h
  refine ⟨hat, fun w hw => ?_, fun j hj w hw => ?_⟩
  · rcases List.mem_cons.1 hw with rfl | hw
    · exact hlt.le
    · exact hmax w hw
  · cases j with
    | zero => cases hw; exact hlt
    | succ j => exact hmin j (Nat.lt_of_succ_lt_succ hj) w hw

theorem peakFrom_cons (i : Nat) (a b : Int) (bs : List Int) : peakFrom i (a :: b :: bs) =
    if (peakFrom (i + 1) (b :: bs)).2.natAbs ≤ a.natAbs then (i, a) else peakFrom (i + 1) (b :: bs) := rfl

theorem peak_peakFrom (i : Nat) (a : Int) (as : List Int) :
    ∃ k, (peakFrom i (a :: as)).1 = i + k ∧ Peak (a :: as) k (peakFrom i (a :: as)).2 := by
  induction as generalizing i a with
  | nil => exact ⟨0, rfl, rfl, by simp [peakFrom], fun j hj => absurd hj (Nat.not_lt_zero j)⟩
  | cons b bs ih =>
    obtain ⟨k, hk, hp⟩ := ih (i + 1) b
    rw [peakFrom_cons]
    split
    · next hle => exact ⟨0, rfl, peak_cons_of_le hp hle⟩
    · next hlt => exact ⟨k + 1, by rw [hk]; omega, peak_cons_of_lt hp (Nat.lt_of_not_le hlt)⟩

/-- There is one peak. -/
theorem Peak.unique {l : List Int} {i j : Nat} {v w : Int} (h : Peak l i v) (k : Peak l j w) : i = j ∧ v = w := by
  obtain ⟨hi, hm, hl⟩ := h
  obtain ⟨kj, km, kl⟩ := k
  have h1 := hm w (List.mem_of_getElem? kj)
  have h2 := km v (List.mem_of_getElem? hi)
  have hij : i = j := by
    rcases Nat.lt_trichotomy i j with h | h | h
    · have := kl i h v hi; omega
    · exact h
    · have := hl j h w kj; omega
  subst hij
  exact ⟨rfl, Option.some.inj (hi.symm.trans kj)⟩

/-- The peak is what `peakFrom` finds. -/
theorem peakFrom_of_peak {a : Int} {as : List Int} {i : Nat} {v : Int} (h : Peak (a :: as) i v) :
    peakFrom 0 (a :: as) = (i, v) := by
  obtain ⟨k, hk, hp⟩ := peak_peakFrom 0 a as
  obtain ⟨rfl, hv⟩ := hp.unique h
  exact Prod.ext (by rw [hk, Nat.zero_add]) hv

/-- Some acceleration reaches the threshold exactly where the largest does. -/
theorem peakFrom_reaches (n : Nat) (a : Int) (as : List Int) :
    n ≤ (peakFrom 0 (a :: as)).2.natAbs ↔ ∃ w ∈ a :: as, n ≤ w.natAbs := by
  obtain ⟨k, -, hat, hmax, -⟩ := peak_peakFrom 0 a as
  exact ⟨fun h => ⟨_, List.mem_of_getElem? hat, h⟩, fun ⟨w, hw, hn⟩ => hn.trans (hmax w hw)⟩

/-! ### The detectors' tests -/

theorem accelerations_below (x : SampleRecord) (v : Nat) : ((accelerations x).all fun a => decide (a.natAbs < v)) = true ↔
    x.ax.toInt.natAbs < v ∧ x.ay.toInt.natAbs < v ∧ x.az.toInt.natAbs < v := by
  simp [accelerations, signed16]

theorem differMore_eq_false_iff (a b : Axes) (lim : Nat) : differMore a b lim = false ↔
    (a.yaw - b.yaw).natAbs ≤ lim ∧ (a.pitch - b.pitch).natAbs ≤ lim ∧ (a.roll - b.roll).natAbs ≤ lim := by
  simp [differMore, and_assoc]

theorem reaches_iff (x : SampleRecord) (v : Nat) : v ≤ (peakFrom 0 (accelerations x)).2.natAbs ↔
    v ≤ x.ax.toInt.natAbs ∨ v ≤ x.ay.toInt.natAbs ∨ v ≤ x.az.toInt.natAbs := by
  unfold accelerations signed16; rw [peakFrom_reaches]; simp

/-- A run after a sample that keeps or opens it. -/
theorem runAfter_good (run : Option Nat) (held : Bool) (time span : Nat) : runAfter true run held time span =
    (some (run.getD time), held || decide (run.getD time + span ≤ time)) := rfl

theorem runAfter_other (run : Option Nat) (held : Bool) (time span : Nat) :
    runAfter false run held time span = (none, false) := rfl

/-! ### A read's record -/

/-- The part whose read has ended. -/
def readEnded (dt : Nat) (s : State) : State := (s.tick dt).mapMotion fun m => { m with reading := none }

section
variable {dt time : Nat} {x : SampleRecord} {s : State}

@[simp] theorem readEnded_motion : (readEnded dt s).motion = { s.motion with reading := none } := rfl
@[simp] theorem readEnded_counters : (readEnded dt s).counters = s.counters := rfl
@[simp] theorem readEnded_filter : (readEnded dt s).filter = s.filter := rfl
@[simp] theorem readEnded_link : (readEnded dt s).link = s.link := rfl

theorem exec_sampleTaken (hp : s.powered = true) (hr : s.motion.reading = some time) :
    exec (.sampleTaken dt x) s = .next (finish (takeSample x time (readEnded dt s))) := by
  dsimp only [exec, execSampleTaken]
  rw [act_powered hp, tick_motion, hr]; rfl

theorem takeSample_running (h : s.motion.status = .running) : takeSample x time s =
    detect (s.motion.setup.rates x) (accelerations x) time (takeRunning (s.motion.setup.rates x) x.seq.toNat time s) := by
  unfold takeSample; dsimp only; rw [h]

theorem takeSample_watching (h : s.motion.status = .watching) :
    takeSample x time s = detectShock (accelerations x) time s := by
  unfold takeSample; dsimp only; rw [h]

/-- In RUNNING the sequence check leaves the holdoff, the limits, the runs, WAKE, the bias and the status. -/
theorem takeRunning_motion_running {r : Axes} {seq : Nat} (h : s.motion.status = .running) :
    ∃ c, (takeRunning r seq time s).motion = { s.motion.sampled r seq time with cal := c } := by
  rw [takeRunning_motion]
  split
  · exact ⟨_, rfl⟩
  · refine ⟨none, ?_⟩
    unfold Motion.aborted Motion.sampled
    rw [h, ite_self]

end

/-! ### The shock detector, by status -/

section
variable {dt time : Nat} {x : SampleRecord} {s : State} (hr : s.motion.reading = some time)
  (hf : ∀ e, s.motion.holdoffEnd = some e → e ≤ time)
  (ha : s.motion.limits.shockThreshold ≤ x.ax.toInt.natAbs ∨ s.motion.limits.shockThreshold ≤ x.ay.toInt.natAbs ∨
    s.motion.limits.shockThreshold ≤ x.az.toInt.natAbs)
include hf ha

theorem shockFound_sample {m : Motion} (hh : m.holdoffEnd = s.motion.holdoffEnd) (hl : m.limits = s.motion.limits) :
    ShockFound (accelerations x) time m :=
  ⟨fun e he => hf e (hh.symm.trans he), by rw [hl]; exact (reaches_iff x _).2 ha⟩

/-- In RUNNING. -/
theorem shock_running (hs : s.motion.status = .running) :
    let t := finish (takeSample x time (readEnded dt s))
    t.motion.holdoffEnd = some (time + ms s.motion.limits.shockHoldoff) ∧ t.motion.wake = s.motion.wake ∧
      t.counters.shocks = satAdd s.counters.shocks 1 ∧ t.counters.shocksAsleep = s.counters.shocksAsleep ∧
      (s.link.reports.length < 30 →
        Issued (.shock (peakFrom 0 (accelerations x)).1 (peakFrom 0 (accelerations x)).2) t) := by
  intro t
  obtain ⟨c, hm⟩ := takeRunning_motion_running (r := s.motion.setup.rates x) (seq := x.seq.toNat) (time := time)
    (s := readEnded dt s) hs
  have hlen := takeRunning_reports_length (r := s.motion.setup.rates x) (seq := x.seq.toNat) (time := time)
    (s := readEnded dt s)
  have hcount := takeRunning_counters (r := s.motion.setup.rates x) (seq := x.seq.toNat) (time := time)
    (s := readEnded dt s)
  have ht : t = finish (detect (s.motion.setup.rates x) (accelerations x) time
      (takeRunning (s.motion.setup.rates x) x.seq.toNat time (readEnded dt s))) :=
    congrArg finish (takeSample_running (s := readEnded dt s) hs)
  generalize takeRunning (s.motion.setup.rates x) x.seq.toNat time (readEnded dt s) = u at *
  have hfound : ShockFound (accelerations x) time u.motion :=
    shockFound_sample hf ha (by rw [hm]; rfl) (by rw [hm]; rfl)
  have hw : u.motion.status ≠ .watching := by rw [hm]; simp [Motion.sampled, hs]
  have htm : t.motion = Motion.rested (s.motion.setup.rates x) (accelerations x) time
      { u.motion with holdoffEnd := some (time + ms u.motion.limits.shockHoldoff) } := by
    rw [ht, finish_motion, detect_motion, shock_motion hfound hw]
  have htc : t.counters.unworked = { u.counters with shocks := satAdd u.counters.shocks 1 }.unworked := by
    rw [ht, finish_counters, detect_counters, shock_counters hfound hw]
  rw [hcount] at htc
  refine ⟨by rw [htm, hm]; rfl, by rw [htm, hm]; rfl, ?_, ?_, fun hroom => ?_⟩
  · have hc := congrArg Counters.shocks htc; exact hc
  · have hc := congrArg Counters.shocksAsleep htc; exact hc
  · rw [readEnded_link] at hlen
    refine Carried.issued ?_
    rw [ht, finish_partTime, detect_partTime]
    exact ((lasts_carried _).hand (shock_carried hfound (by omega)).detectRest []).finish

/-- In WATCHING. -/
theorem shock_watching (hs : s.motion.status = .watching) :
    let t := finish (takeSample x time (readEnded dt s))
    t.motion.holdoffEnd = some (time + ms s.motion.limits.shockHoldoff) ∧
      t.counters.shocksAsleep = satAdd s.counters.shocksAsleep 1 ∧ t.counters.shocks = s.counters.shocks ∧
      t.motion.watchCount = min (s.motion.watchCount + 1) 255 ∧
      (t.motion.wake = true ↔ s.motion.wake = true ∨
        (s.motion.limits.wakeCount ≠ 0 ∧ s.motion.limits.wakeCount ≤ t.motion.watchCount)) ∧
      t.filter = s.filter ∧
      (s.link.reports.length < 32 →
        Issued (.shock (peakFrom 0 (accelerations x)).1 (peakFrom 0 (accelerations x)).2) t) := by
  intro t
  have ht : t = finish (detectShock (accelerations x) time (readEnded dt s)) :=
    congrArg finish (takeSample_watching (s := readEnded dt s) hs)
  have hfound : ShockFound (accelerations x) time (readEnded dt s).motion := shockFound_sample hf ha rfl rfl
  have htm : t.motion = { s.motion with
      reading := none
      holdoffEnd := some (time + ms s.motion.limits.shockHoldoff)
      watchCount := min (s.motion.watchCount + 1) 255
      wake := s.motion.wake || (decide (s.motion.limits.wakeCount ≠ 0) &&
        decide (s.motion.limits.wakeCount ≤ min (s.motion.watchCount + 1) 255)) } := by
    rw [ht, finish_motion, watchShock_motion hfound hs]; rfl
  have htc : t.counters.unworked = { s.counters with shocksAsleep := satAdd s.counters.shocksAsleep 1 }.unworked := by
    rw [ht, finish_counters, watchShock_counters hfound hs]; rfl
  refine ⟨by rw [htm], ?_, ?_, by rw [htm], by rw [htm]; simp, ?_, fun hroom => ?_⟩
  · have hc := congrArg Counters.shocksAsleep htc; exact hc
  · have hc := congrArg Counters.shocks htc; exact hc
  · rw [ht, finish_filter, detectShock_filter, readEnded_filter]
  · refine Carried.issued ?_
    rw [ht, finish_partTime, detectShock_partTime]
    exact (shock_carried hfound (by rw [readEnded_link]; exact hroom)).finish

end

/-! ### The runs -/

section
variable {dt time : Nat} {x : SampleRecord} {s : State}

/-- The Motion Front-End after a sample in RUNNING, but for its holdoff and a calibration run. -/
theorem running_motion (hs : s.motion.status = .running) :
    ∃ c e, (finish (takeSample x time (readEnded dt s))).motion =
      Motion.rested (s.motion.setup.rates x) (accelerations x) time
        { s.motion.sampled (s.motion.setup.rates x) x.seq.toNat time with reading := none, cal := c, holdoffEnd := e } := by
  obtain ⟨c, hm⟩ := takeRunning_motion_running (r := s.motion.setup.rates x) (seq := x.seq.toNat) (time := time)
    (s := readEnded dt s) hs
  obtain ⟨e, he⟩ := detectShock_motion (l := accelerations x) (time := time)
    (s := takeRunning (s.motion.setup.rates x) x.seq.toNat time (readEnded dt s)) (by rw [hm]; simp [Motion.sampled, hs])
  refine ⟨c, e, ?_⟩
  rw [finish_motion, takeSample_running (s := readEnded dt s) hs, detect_motion]
  exact congrArg (Motion.rested _ _ time) (he.trans (by rw [hm]; rfl))

/-- In RUNNING the freefall and stillness runs go by the sample's record. -/
theorem rest_running (hs : s.motion.status = .running) :
    let t := finish (takeSample x time (readEnded dt s))
    (t.motion.freefallRun, t.motion.freefall) = fallAfter (accelerations x) time s.motion ∧
      (t.motion.stillRun, t.motion.still) = stillAfter (s.motion.setup.rates x) time s.motion := by
  intro t
  obtain ⟨c, e, ht⟩ := running_motion (dt := dt) (time := time) (x := x) hs
  rw [ht]
  exact ⟨rfl, rfl⟩

/-- Without shock or gap, what the detectors find is carried. -/
theorem restReports_issued (hs : s.motion.status = .running)
    (hb : x.ax.toInt.natAbs < s.motion.limits.shockThreshold ∧ x.ay.toInt.natAbs < s.motion.limits.shockThreshold ∧
      x.az.toInt.natAbs < s.motion.limits.shockThreshold)
    (hg : s.motion.expected = none ∨ s.motion.expected = some x.seq.toNat) (hr : s.link.reports.length < 31) {p : Payload}
    (hp : p ∈ restReports (s.motion.setup.rates x) (accelerations x) time s.motion) :
    Issued p (finish (takeSample x time (readEnded dt s))) := by
  have hgap : (readEnded dt s).motion.gap x.seq.toNat = 0 := by
    unfold Motion.gap
    rcases hg with h | h <;> simp [h]
  have hnone : ¬ShockFound (accelerations x) time
      (handOver (s.motion.setup.rates x) x.seq.toNat time (readEnded dt s)).motion := by
    rw [handOver_motion]
    rintro ⟨-, h⟩
    have := (reaches_iff x _).1 h
    simp only [Motion.sampled, readEnded_motion] at this
    omega
  have ht : takeSample x time (readEnded dt s) = hand [] (detectRest (s.motion.setup.rates x) (accelerations x) time
      (handOver (s.motion.setup.rates x) x.seq.toNat time (readEnded dt s))) := by
    rw [takeSample_running (s := readEnded dt s) hs]
    unfold detect
    rw [takeRunning_noGap hgap]
    exact congrArg (fun u => hand [] (detectRest (s.motion.setup.rates x) (accelerations x) time u)) (detectShock_none hnone)
  refine Carried.issued ?_
  rw [finish_partTime, ht, hand_partTime, detectRest_partTime]
  refine ((lasts_carried _).hand ?_ []).finish
  rw [detectRest_eq]
  refine (lasts_carried _).takeEach ?_ _
  set u := handOver (s.motion.setup.rates x) x.seq.toNat time (readEnded dt s) with hu
  have hlen := restReports_length (s.motion.setup.rates x) (accelerations x) time u.motion
  have hlr : u.link.reports.length = s.link.reports.length := by rw [hu, handOver_reports, readEnded_link]
  have hc := (CarriedByRoom.nil (u.mapMotion (Motion.rested (s.motion.setup.rates x) (accelerations x) time))).reportAll
    (restReports (s.motion.setup.rates x) (accelerations x) time u.motion)
    (by rw [State.mapMotion_link, hlr]; omega)
  refine Carried.sublist hc.carried ?_
  rw [List.nil_append, List.singleton_sublist]
  refine List.mem_map.2 ⟨p, ?_, rfl⟩
  rw [hu, handOver_motion]; exact hp

end

/-! ### What the detectors find -/

section
variable {r : Axes} {l : List Int} {time : Nat} {m : Motion}

theorem fallAfter_below (h : (l.all fun a => decide (a.natAbs < m.limits.freefallThreshold)) = true) : fallAfter l time m =
    (some (m.freefallRun.getD time), m.freefall || decide (m.freefallRun.getD time + ms m.limits.freefallTime ≤ time)) := by
  unfold fallAfter; rw [h, runAfter_good]

theorem fallAfter_other (h : (l.all fun a => decide (a.natAbs < m.limits.freefallThreshold)) = false) :
    fallAfter l time m = (none, false) := by
  unfold fallAfter; rw [h, runAfter_other]

theorem stillAfter_steady (h : differMore r m.bias m.limits.stillThreshold = false) : stillAfter r time m =
    (some (m.stillRun.getD time), m.still || decide (m.stillRun.getD time + sec m.limits.stillTime ≤ time)) := by
  unfold stillAfter; rw [h, Bool.not_false, runAfter_good]

theorem stillAfter_other (h : differMore r m.bias m.limits.stillThreshold = true) : stillAfter r time m = (none, false) := by
  unfold stillAfter; rw [h, Bool.not_true, runAfter_other]

theorem freefall_mem_restReports (h0 : m.freefall = false) (h1 : (fallAfter l time m).2 = true) :
    .freefall ∈ restReports r l time m := by unfold restReports; simp [h0, h1]

theorem stillBegin_mem_restReports (h0 : m.still = false) (h1 : (stillAfter r time m).2 = true) :
    .stillBegin ∈ restReports r l time m := by unfold restReports; simp [h0, h1]

theorem stillEnd_mem_restReports (h0 : m.still = true) (h1 : (stillAfter r time m).2 = false) :
    .stillEnd ∈ restReports r l time m := by unfold restReports; simp [h0, h1]

end

/-- Settles O19: the shock by status, then the runs, then what the runs report. -/
theorem shockIsDetectedAndCounted : Obligations.ShockIsDetectedAndCounted := by
  refine ⟨fun dt time x s hp hr hf ha => ⟨fun hs => ?_, fun hs => ?_⟩, fun dt time x s hp hr hs => ?_⟩
  · obtain ⟨h1, h2, h3, h4, h5⟩ := shock_running (dt := dt) hf ha hs
    refine ⟨_, exec_sampleTaken hp hr, by rw [h1, ms, Nat.mul_comm], h3, h4, h2, fun hroom i v hpk => ?_⟩
    have hi := h5 hroom
    rwa [show peakFrom 0 (accelerations x) = (i, v) from peakFrom_of_peak hpk] at hi
  · obtain ⟨h1, h2, h3, h4, h5, h6, h7⟩ := shock_watching (dt := dt) hf ha hs
    refine ⟨_, exec_sampleTaken hp hr, by rw [h1, ms, Nat.mul_comm], h2, h3, h4, h5, h6, fun hroom i v hpk => ?_⟩
    have hi := h7 hroom
    rwa [show peakFrom 0 (accelerations x) = (i, v) from peakFrom_of_peak hpk] at hi
  · obtain ⟨hfall, hstill⟩ := rest_running (dt := dt) (time := time) (x := x) hs
    refine ⟨_, exec_sampleTaken hp hr, fun hb => ?_, fun hb => ?_, fun hb => ?_, fun hb => ?_, fun hb hg hroom =>
      ⟨fun h0 h1 => ?_, fun h0 h1 => ?_, fun h0 h1 => ?_⟩⟩
    · rw [fallAfter_below ((accelerations_below x _).2 hb), Prod.mk.injEq] at hfall
      exact ⟨hfall.1, by rw [hfall.2, ms, Nat.mul_comm]; simp⟩
    · rw [fallAfter_other (Bool.eq_false_iff.2 fun h => hb ((accelerations_below x _).1 h)), Prod.mk.injEq] at hfall
      exact hfall
    · rw [stillAfter_steady ((differMore_eq_false_iff _ _ _).2 hb), Prod.mk.injEq] at hstill
      exact ⟨hstill.1, by rw [hstill.2, sec, Nat.mul_comm]; simp⟩
    · rw [stillAfter_other (Bool.of_not_eq_false fun h => hb ((differMore_eq_false_iff _ _ _).1 h)), Prod.mk.injEq] at hstill
      exact hstill
    · exact restReports_issued hs hb hg hroom (freefall_mem_restReports h0 (by rw [← hfall]; exact h1))
    · exact restReports_issued hs hb hg hroom (stillBegin_mem_restReports h0 (by rw [← hstill]; exact h1))
    · exact restReports_issued hs hb hg hroom (stillEnd_mem_restReports h0 (by rw [← hstill]; exact h1))

end Sys2Proof.Machine

/-! PROOF. The Path Filter's arithmetic (chapter 2): accumulators, the Angle History and smoothing. -/

namespace Sys2Proof.Machine

/-! ### Accumulators (R21) -/

/-- Two samples in a row accumulate like one of their rates together. -/
theorem accumulate_accumulate (acc : Nat) (m n : Int) (k : Nat) {r : Nat} (hr : 0 < r) :
    accumulate (accumulate acc m k r) n k r = accumulate acc (m + n) k r := by
  have hT : (0 : Int) < ((Config.turn * r : Nat) : Int) := by
    have : 0 < Config.turn * r := Nat.mul_pos (by decide) hr
    exact_mod_cast this
  unfold accumulate
  rw [Int.toNat_of_nonneg (Int.emod_nonneg _ hT.ne'), Int.emod_add_emod, add_mul, add_assoc]

/-! ### The Angle History (R27) -/

/-- A ring with an entry added holds the newest `n`. -/
theorem pushRing_eq_drop {α : Type} {n : Nat} (hn : 0 < n) (xs : List α) (x : α) :
    pushRing n xs x = (xs ++ [x]).drop (xs.length + 1 - n) := by
  unfold pushRing
  split
  · rw [List.drop_append_of_le_length (by omega)]
  · rw [show xs.length + 1 - n = 0 by omega, List.drop_zero]

/-- The newest 64 of a list of times, and then `m` more of time `t`. -/
theorem drop_append_replicate (xs : List Nat) (t m : Nat) :
    ((xs ++ [t]).drop (xs.length + 1 - 64) ++ List.replicate m t).drop
        (((xs ++ [t]).drop (xs.length + 1 - 64)).length + m - 64) =
      (xs ++ List.replicate (m + 1) t).drop (xs.length + (m + 1) - 64) := by
  rw [← List.drop_append_of_le_length (by simp; omega), List.drop_drop, List.replicate_succ, List.append_assoc,
    List.singleton_append]
  congr 1
  simp only [List.length_drop, List.length_append, List.length_singleton]
  omega

/-! ### Smoothing (R23, R25, R26) -/

/-- The representative of an angle within half a turn. -/
theorem wrap_spec (x : Int) : -11796480 ≤ wrap x ∧ wrap x < 11796480 ∧ (x - wrap x) % 23592960 = 0 := by
  unfold wrap Config.halfTurn Config.turn; omega

theorem marginQuarter_le (d : Int) (m : Nat) : marginQuarter d m ≤ 3 := by unfold marginQuarter; split <;> omega

/-- The shift of a margin quarter, read from the profile's list. -/
theorem shift_eq_getD (e : SmoothEntry) {q : Nat} (hq : q ≤ 3) : e.shift q = [e.k0, e.k1, e.k2, e.k3].getD q 0 := by
  interval_cases q <;> rfl

/-- Outside OFF the smoothed angle and the correction are those of the profile. -/
theorem smoothed_smoothNext {mode : Mode} (h : mode ≠ .off) (e : SmoothEntry) (angle old margin : Nat) :
    Smoothed e margin angle old (smoothNext mode e angle old margin)
      (correctionOf mode angle (smoothNext mode e angle old margin)) := by
  obtain ⟨d1, d2, d3⟩ := wrap_spec ((angle : Int) - old)
  obtain ⟨c1, c2, c3⟩ := wrap_spec ((angle : Int) - smoothNext mode e angle old margin)
  unfold correctionOf
  rw [if_neg h]
  refine ⟨wrap ((angle : Int) - old), d1, d2, d3, ?_, c1, c2, c3⟩
  dsimp only
  rw [← marginQuarter, ← shift_eq_getD e (marginQuarter_le _ _)]
  unfold smoothNext; rw [if_neg h]; rfl

/-! ### One sample -/

section
variable (f : Filter) (w : Option (List SmoothEntry)) (k : Nat) (b r : Axes) (time : Nat)

theorem after_rate : (f.after w k b r time).rate = f.rate := rfl

theorem after_acc : (f.after w k b r time).accYaw = accumulate f.accYaw (r.yaw - b.yaw) k f.rate ∧
    (f.after w k b r time).accPitch = accumulate f.accPitch (r.pitch - b.pitch) k f.rate ∧
    (f.after w k b r time).accRoll = accumulate f.accRoll (r.roll - b.roll) k f.rate := ⟨rfl, rfl, rfl⟩

theorem after_times : (f.after w k b r time).history.map HistoryEntry.time =
    (f.history.map HistoryEntry.time ++ [time]).drop ((f.history.map HistoryEntry.time).length + 1 - 64) := by
  show (pushRing 64 f.history _).map HistoryEntry.time = _
  rw [pushRing_eq_drop (by omega), List.map_drop, List.map_append, List.length_map]; rfl

/-- A sample into an empty history stands there alone. -/
theorem after_times_of_empty (h : f.history = []) : (f.after w k b r time).history.map HistoryEntry.time = [time] := by
  rw [after_times, h]; rfl

/-- In OFF the smoothed angles are the angles. -/
theorem after_off (h : f.effMode = .off) :
    (f.after w k b r time).smoothYaw = (f.after w k b r time).accYaw / f.rate ∧
      (f.after w k b r time).smoothPitch = (f.after w k b r time).accPitch / f.rate := by
  have hs : ∀ (e : SmoothEntry) (a o m : Nat), smoothNext f.effMode e a o m = a := fun e a o m => if_pos h
  exact ⟨hs _ _ _ _, hs _ _ _ _⟩

/-- In STEADY and ECO the smoothed angles and the corrections follow the profile. -/
theorem after_smoothed (h : f.effMode ≠ .off) {e : SmoothEntry} (he : (w.getD f.smoothing)[f.profile]? = some e)
    {x : HistoryEntry} (hx : (f.after w k b r time).history.getLast? = some x) :
    Smoothed e f.marginX ((f.after w k b r time).accYaw / f.rate) f.smoothYaw (f.after w k b r time).smoothYaw x.cYaw ∧
      Smoothed e f.marginY ((f.after w k b r time).accPitch / f.rate) f.smoothPitch (f.after w k b r time).smoothPitch
        x.cPitch := by
  have hp : ({ f with smoothing := w.getD f.smoothing } : Filter).profileEntry = e := by
    unfold Filter.profileEntry; dsimp only; rw [List.getD_eq_getElem?_getD, he, Option.getD_some]
  have hl : (f.after w k b r time).history.getLast? = _ := List.getLast?_append_of_ne_nil _ (List.cons_ne_nil _ _)
  cases Option.some.inj (hx.symm.trans hl)
  rw [← hp]
  exact ⟨smoothed_smoothNext h _ _ _ _, smoothed_smoothNext h _ _ _ _⟩

end

/-! ### Fills and a sample -/

/-- The filter `g` after `n` fills of the last rates and a sample of rates `r`, from the Path Filter of `s`. -/
structure Integrated (n : Nat) (r : Axes) (time : Nat) (s : State) (g : Filter) : Prop where
  rate : g.rate = s.filter.rate
  effMode : g.effMode = s.filter.effMode
  yaw : g.accYaw = accumulate s.filter.accYaw (n * (s.motion.lastRates.yaw - s.motion.bias.yaw) +
    (r.yaw - s.motion.bias.yaw)) s.motion.setup.rateFactor s.filter.rate
  pitch : g.accPitch = accumulate s.filter.accPitch (n * (s.motion.lastRates.pitch - s.motion.bias.pitch) +
    (r.pitch - s.motion.bias.pitch)) s.motion.setup.rateFactor s.filter.rate
  roll : g.accRoll = accumulate s.filter.accRoll (n * (s.motion.lastRates.roll - s.motion.bias.roll) +
    (r.roll - s.motion.bias.roll)) s.motion.setup.rateFactor s.filter.rate
  times : g.history.map HistoryEntry.time = (s.filter.history.map HistoryEntry.time ++ List.replicate (n + 1) time).drop
    ((s.filter.history.map HistoryEntry.time).length + (n + 1) - 64)
  off : s.filter.effMode = .off → g.smoothYaw = g.accYaw / s.filter.rate ∧ g.smoothPitch = g.accPitch / s.filter.rate

theorem filterSample_filter (r : Axes) (time : Nat) (s : State) : (filterSample r time s).filter =
    s.filter.after s.link.waitSmoothing s.motion.setup.rateFactor s.motion.bias r time := by
  rw [filterSample_eq]; rfl

theorem integrated_sample (r : Axes) (time : Nat) (s : State) : Integrated 0 r time s (filterSample r time s).filter := by
  rw [filterSample_filter]
  obtain ⟨h1, h2, h3⟩ := after_acc s.filter s.link.waitSmoothing s.motion.setup.rateFactor s.motion.bias r time
  exact ⟨rfl, rfl, by rw [h1, Nat.cast_zero, zero_mul, zero_add], by rw [h2, Nat.cast_zero, zero_mul, zero_add],
    by rw [h3, Nat.cast_zero, zero_mul, zero_add], after_times .., fun h => after_off _ _ _ _ _ _ h⟩

theorem integrated_fills (n : Nat) (r : Axes) (time : Nat) {s : State} (hr : 0 < s.filter.rate) :
    Integrated n r time s (filterSample r time (fillSamples time n s)).filter := by
  induction n generalizing s with
  | zero => exact integrated_sample r time s
  | succ n ih =>
    have hf := filterSample_filter s.motion.lastRates time s
    obtain ⟨h1, h2, h3⟩ := after_acc s.filter s.link.waitSmoothing s.motion.setup.rateFactor s.motion.bias
      s.motion.lastRates time
    have ht := after_times s.filter s.link.waitSmoothing s.motion.setup.rateFactor s.motion.bias s.motion.lastRates time
    have hn : ∀ x y : Int, x + (n * x + y) = ((n + 1 : Nat) : Int) * x + y := fun x y => by push_cast; ring
    obtain ⟨irate, imode, iyaw, ipitch, iroll, itimes, ioff⟩ := ih (s := filterSample s.motion.lastRates time s)
      (by rw [hf]; exact hr)
    rw [filterSample_motion, hf] at iyaw ipitch iroll
    rw [hf] at irate imode itimes ioff
    rw [after_rate, h1, accumulate_accumulate _ _ _ _ hr, hn] at iyaw
    rw [after_rate, h2, accumulate_accumulate _ _ _ _ hr, hn] at ipitch
    rw [after_rate, h3, accumulate_accumulate _ _ _ _ hr, hn] at iroll
    rw [ht, drop_append_replicate] at itimes
    exact ⟨irate, imode, iyaw, ipitch, iroll, itimes, ioff⟩

end Sys2Proof.Machine

/-! PROOF. A sample taken: integrated in RUNNING, the resumption in LOST, and the calibration run. -/

namespace Sys2Proof.Machine

/-! ### The sequence check on the filter (R4, R5) -/

/-- The gap that a sequence number leaves, as the manual defines it. -/
theorem gap_eq {m : Motion} {seq g : Nat}
    (h : (m.expected = none ∧ g = 0) ∨ ∃ e, m.expected = some e ∧ g = (seq + 256 - e) % 256) : m.gap seq = g := by
  unfold Motion.gap
  rcases h with ⟨h, rfl⟩ | ⟨e, h, rfl⟩ <;> rw [h]

theorem gap_zero_iff (m : Motion) (seq : Nat) :
    ((m.expected = none ∧ 0 = 0) ∨ ∃ e, m.expected = some e ∧ 0 = (seq + 256 - e) % 256) ↔ m.gap seq = 0 := by
  refine ⟨gap_eq, fun h => ?_⟩
  unfold Motion.gap at h
  cases he : m.expected with
  | none => exact .inl ⟨rfl, rfl⟩
  | some e => rw [he] at h; exact .inr ⟨e, rfl, h.symm⟩

section
variable {r : Axes} {seq time : Nat} {s : State}

/-- A gap of up to 8 is filled, and the sample integrated behind the fills. -/
theorem takeRunning_integrated (h : s.motion.gap seq ≤ 8) (hr : 0 < s.filter.rate) :
    Integrated (s.motion.gap seq) r time s (takeRunning r seq time s).filter := by
  rcases Nat.eq_zero_or_pos (s.motion.gap seq) with h0 | h0
  · rw [takeRunning_noGap h0, h0]; exact integrated_sample r time s
  · have hi := integrated_fills (s.motion.gap seq) r time (s := abortCal .moved .running s) (by rw [abortCal_filter]; exact hr)
    obtain ⟨irate, imode, iyaw, ipitch, iroll, itimes, ioff⟩ := hi
    rw [abortCal_filter] at irate imode iyaw ipitch iroll itimes ioff
    rw [abortCal_motion] at iyaw ipitch iroll
    have hf : (takeRunning r seq time s).filter =
        (filterSample r time (fillSamples time (s.motion.gap seq) (abortCal .moved .running s))).filter := by
      rw [takeRunning_fills (by omega) h, handOver_filter, filterSample_filter]; rfl
    rw [hf]
    exact ⟨irate, imode, iyaw, ipitch, iroll, itimes, ioff⟩

/-- With no gap the sample follows the profile. -/
theorem takeRunning_filter_noGap (h : s.motion.gap seq = 0) : (takeRunning r seq time s).filter =
    s.filter.after s.link.waitSmoothing s.motion.setup.rateFactor s.motion.bias r time := by
  rw [takeRunning_noGap h, handOver_filter]

/-- A gap above 8 leaves the sample alone in the history. -/
theorem takeRunning_times_alone (h : 8 < s.motion.gap seq) :
    (takeRunning r seq time s).filter.history.map HistoryEntry.time = [time] := by
  rw [takeRunning_breaks h, report_filter, countLost, State.mapCounters_filter, handOver_filter]
  exact after_times_of_empty _ _ _ _ _ _ rfl

end

/-! ### RUNNING -/

section
variable {dt time : Nat} {x : SampleRecord} {s : State}

theorem running_filter (hs : s.motion.status = .running) : (finish (takeSample x time (readEnded dt s))).filter =
    (takeRunning (s.motion.setup.rates x) x.seq.toNat time (readEnded dt s)).filter := by
  rw [finish_filter, takeSample_running (s := readEnded dt s) hs, detect_filter]; rfl

theorem running_samplesLost (hs : s.motion.status = .running) :
    (finish (takeSample x time (readEnded dt s))).counters.samplesLost =
      if s.motion.gap x.seq.toNat = 0 then s.counters.samplesLost
      else satAdd s.counters.samplesLost (s.motion.gap x.seq.toNat) := by
  obtain ⟨c, hm⟩ := takeRunning_motion_running (r := s.motion.setup.rates x) (seq := x.seq.toNat) (time := time)
    (s := readEnded dt s) hs
  have hc := congrArg Counters.samplesLost (finish_counters (takeSample x time (readEnded dt s)))
  refine Eq.trans hc ?_
  show (takeSample x time (readEnded dt s)).counters.samplesLost = _
  rw [takeSample_running (s := readEnded dt s) hs]
  refine (detect_samplesLost ?_).trans ?_
  · rw [readEnded_motion, hm]; simp [Motion.sampled, hs]
  · rw [takeRunning_counters]; rfl

/-! ### LOST (R7) -/

theorem takeSample_lost (h : s.motion.status = .lost) : takeSample x time s =
    detect (s.motion.setup.rates x) (accelerations x) time (takeResumed (s.motion.setup.rates x) x.seq.toNat time s) := by
  unfold takeSample; dsimp only; rw [h]

theorem takeResumed_motion {r : Axes} {seq : Nat} : (takeResumed r seq time s).motion =
    Motion.sampled r seq time { s.motion with status := .running } := by
  unfold takeResumed recenterNow; dsimp only
  rw [takeEach_motion, report_motion, handOver_motion]; rfl

theorem takeResumed_times {r : Axes} {seq : Nat} :
    (takeResumed r seq time s).filter.history.map HistoryEntry.time = [time] := by
  unfold takeResumed recenterNow; dsimp only
  rw [takeEach_filter, report_filter, handOver_filter]
  exact after_times_of_empty _ _ _ _ _ _ rfl

theorem takeResumed_samplesLost {r : Axes} {seq : Nat} :
    (takeResumed r seq time s).counters.samplesLost = s.counters.samplesLost := by
  unfold takeResumed recenterNow; dsimp only
  have hc := congrArg Counters.samplesLost (takeEach_counters [setCond condMotionLost false]
    (report (.motionResumed seq (time - s.motion.lastStamp.getD time)) (handOver r seq time
      ((s.mapMotion fun m => { m with status := .running }).mapFilter Filter.recentered))))
  refine Eq.trans hc ?_
  rw [report_counters, handOver_counters]; rfl

/-- The resumption: RUNNING again, the sample alone in the history, and none counted lost. -/
theorem resumed (hs : s.motion.status = .lost) :
    let t := finish (takeSample x time (readEnded dt s))
    t.motion.status = .running ∧ t.motion.lastStamp = some time ∧ t.motion.expected = some ((x.seq.toNat + 1) % 256) ∧
      t.filter.history.map HistoryEntry.time = [time] ∧ t.counters.samplesLost = s.counters.samplesLost := by
  intro t
  have hw : (takeResumed (s.motion.setup.rates x) x.seq.toNat time (readEnded dt s)).motion.status ≠ .watching := by
    rw [takeResumed_motion]; simp [Motion.sampled]
  have ht : t = finish (detect (s.motion.setup.rates x) (accelerations x) time
      (takeResumed (s.motion.setup.rates x) x.seq.toNat time (readEnded dt s))) :=
    congrArg finish (takeSample_lost (s := readEnded dt s) hs)
  obtain ⟨e, he⟩ := detectShock_motion (l := accelerations x) (time := time) hw
  rw [takeResumed_motion] at he
  have hc := congrArg Counters.samplesLost (finish_counters (detect (s.motion.setup.rates x) (accelerations x) time
      (takeResumed (s.motion.setup.rates x) x.seq.toNat time (readEnded dt s))))
  rw [ht, finish_motion, finish_filter, detect_motion, detect_filter, he]
  exact ⟨rfl, rfl, rfl, takeResumed_times, hc.trans ((detect_samplesLost hw).trans takeResumed_samplesLost)⟩

end

/-! ### A sample of a part at rest whose motion conditions no entry watches -/

/-- Conditions that agree under a mask differ in none of its own. -/
theorem and_xor_eq_zero {m x y : BitVec 16} (h : x &&& m = y &&& m) : m &&& (x ^^^ y) = 0#16 := by
  ext i hi
  have hb := congrArg (fun v : BitVec 16 => v[i]) h
  simp only [BitVec.getElem_and, BitVec.getElem_xor, BitVec.getElem_zero] at hb ⊢
  revert hb
  cases m[i] <;> cases x[i] <;> cases y[i] <;> simp

/-- What a change under a mask of conditions that no enabled entry watches makes fire: nothing. -/
theorem firing_quiet {m : BitVec 16} {c : Change} {conds : BitVec 16} (hc : c.mask &&& ~~~m = 0#16) (i : Nat)
    (es : List TrigEntry) (ls : List Bool) (h : ∀ e ∈ es, e.enabled = true → e.mask &&& m = 0#16) :
    firing (c.apply conds ^^^ conds) (c.apply conds) i es ls = [] := by
  induction es generalizing i ls with
  | nil => rfl
  | cons e es ih =>
    cases ls with
    | nil => rfl
    | cons l ls =>
      rw [firing, ih _ _ fun e he => h e (List.mem_cons_of_mem _ he), List.append_nil]
      refine if_neg fun hf => ?_
      simp only [Bool.and_eq_true, decide_eq_true_eq] at hf
      obtain ⟨⟨⟨hen, -⟩, hne⟩, -⟩ := hf
      refine hne ?_
      have hm := h e (List.mem_cons_self ..) hen
      have hcm : c.mask &&& e.mask = 0#16 := by
        ext j hj
        have h1 := congrArg (fun v : BitVec 16 => v[j]) hm
        have h2 := congrArg (fun v : BitVec 16 => v[j]) hc
        simp only [BitVec.getElem_and, BitVec.getElem_not, BitVec.getElem_zero] at h1 h2 ⊢
        revert h1 h2
        cases c.mask[j] <;> cases e.mask[j] <;> cases m[j] <;> simp
      exact and_xor_eq_zero (apply_and_of_miss hcm)

theorem fired_quiet {m : BitVec 16} {c : Change} {s : State} (h : Quiet m s) (hc : c.mask &&& ~~~m = 0#16) :
    fired c s = [] := by
  unfold fired; split
  · exact firing_quiet hc 0 _ _ h
  · rfl

/-- The conditions of the motion sensor. -/
def motionConds : BitVec 16 := condShock ||| condFreefall ||| condStill ||| condMotionLost

/-- `t` is at rest with the trigger entries of `s`, and `n` reports at most have joined its queue. -/
structure Calm (n : Nat) (s t : State) : Prop where
  rest : AtRest t
  entries : t.trig.entries = s.trig.entries
  reports : t.link.reports.length ≤ s.link.reports.length + n

section
variable {n : Nat} {s t u : State}

theorem Calm.congr (h : Calm n s t) (hr : AtRest u) (he : u.trig.entries = t.trig.entries)
    (hq : u.link.reports = t.link.reports) : Calm n s u := ⟨hr, he.trans h.entries, by rw [hq]; exact h.reports⟩

theorem Calm.report (h : Calm n s t) (p : Payload) : Calm (n + 1) s (report p t) :=
  ⟨(h.rest.kept.report p).rest, (report_entries p t).trans h.entries, by
    have h1 := report_reports_length p t
    have h2 := h.reports
    omega⟩

theorem Calm.reportAll (h : Calm n s t) (ps : List Payload) : Calm (n + ps.length) s (reportAll ps t) := by
  induction ps generalizing t n with
  | nil => exact h
  | cons p ps ih =>
    rw [List.length_cons, Nat.add_comm ps.length, ← Nat.add_assoc]
    exact ih (h.report p)

theorem Calm.mono {k : Nat} (h : Calm n s t) (hk : n ≤ k) : Calm k s t :=
  ⟨h.rest, h.entries, h.reports.trans (Nat.add_le_add_left hk _)⟩

/-- A motion condition changes, and nothing fires. -/
theorem Calm.takeChange {c : Change} (h : Calm n s t) (hq : Quiet motionConds s) (hc : c.mask &&& ~~~motionConds = 0#16) :
    Calm n s (takeChange c t) := by
  have hf : fired c t = [] := fired_quiet (m := motionConds) (by rw [Quiet, h.entries]; exact hq) hc
  refine h.congr (h.rest.kept.takeChange hf).rest ?_ ?_
  · rw [takeChange_eq, hf]; rfl
  · rw [takeChange_eq, hf]; rfl

theorem Calm.takeEach (h : Calm n s t) (hq : Quiet motionConds s) (cs : List Change)
    (hc : ∀ c ∈ cs, c.mask &&& ~~~motionConds = 0#16) : Calm n s (takeEach cs t) := by
  induction cs generalizing t with
  | nil => exact h
  | cons c cs ih =>
    exact ih (h.takeChange hq (hc c (List.mem_cons_self ..))) fun d hd => hc d (List.mem_cons_of_mem _ hd)

/-- With nothing waiting, a hand-over of no change changes nothing. -/
theorem Calm.hand_nil (h : Calm n s t) : Calm n s (hand [] t) := by
  refine h.congr (u := hand [] t) ?_ (hand_keeps (fun v : State => v.trig.entries) (fun _ => rfl) _ _) ?_
  all_goals
    unfold hand Config.settleBound
    rw [takeWaiting]
    simp only [State.mapTrig_trig, h.rest.waiting, List.append_nil]
  · exact h.rest.congr rfl rfl rfl (by simp [h.rest.waiting]) rfl
  · rfl

theorem Calm.detectShock {l : List Int} {time : Nat} (h : Calm n s t) (hq : Quiet motionConds s) :
    Calm (n + 1) s (detectShock l time t) := by
  by_cases hf : ShockFound l time t.motion
  · rw [detectShock_counted hf]
    refine Calm.takeEach (Calm.report (h.congr (u := shockCounted time t) ?_ ?_ (congrArg Link.reports shockCounted_link)) _)
      hq _ (by decide)
    · unfold shockCounted countShock; split <;> exact h.rest.congr rfl rfl rfl rfl rfl
    · unfold shockCounted countShock; split <;> rfl
  · rw [detectShock_none hf]; exact h.mono (by omega)

theorem restChanges_motionConds (r : Axes) (l : List Int) (time : Nat) (m : Motion) :
    ∀ c ∈ restChanges r l time m, c.mask &&& ~~~motionConds = 0#16 := by
  have hm : ∀ a b : Bool, (condIf condFreefall a ||| condIf condStill b) &&& ~~~motionConds = 0#16 := by decide
  unfold restChanges
  split
  · simp
  · intro c hc; rw [List.mem_singleton.1 hc]; exact hm _ _

theorem Calm.detectRest {r : Axes} {l : List Int} {time : Nat} (h : Calm n s t) (hq : Quiet motionConds s) :
    Calm (n + 2) s (detectRest r l time t) := by
  rw [detectRest_eq]
  refine Calm.takeEach ?_ hq _ (restChanges_motionConds r l time t.motion)
  refine Calm.mono (Calm.reportAll (t := t.mapMotion _) (h.congr (h.rest.congr rfl rfl rfl rfl rfl) rfl rfl) _) ?_
  have := restReports_length r l time t.motion
  omega

theorem Calm.detect {r : Axes} {l : List Int} {time : Nat} (h : Calm n s t) (hq : Quiet motionConds s) :
    Calm (n + 3) s (detect r l time t) := ((h.detectShock hq).detectRest hq).hand_nil

theorem AtRest.handOver {r : Axes} {seq time : Nat} (h : AtRest t) : AtRest (handOver r seq time t) :=
  h.congr (handOver_keeps State.store (fun _ _ => rfl) (fun _ => rfl) (fun _ _ => rfl) r seq time t)
    (handOver_keeps State.intake (fun _ _ => rfl) (fun _ => rfl) (fun _ _ => rfl) r seq time t)
    (handOver_keeps State.card (fun _ _ => rfl) (fun _ => rfl) (fun _ _ => rfl) r seq time t)
    (handOver_keeps (fun v : State => v.trig.waiting) (fun _ _ => rfl) (fun _ => rfl) (fun _ _ => rfl) r seq time t)
    (handOver_keeps State.outbox (fun _ _ => rfl) (fun _ => rfl) (fun _ _ => rfl) r seq time t)

theorem Calm.handOver {r : Axes} {seq time : Nat} (h : Calm n s t) : Calm n s (handOver r seq time t) :=
  h.congr h.rest.handOver
    (handOver_keeps (fun v : State => v.trig.entries) (fun _ _ => rfl) (fun _ => rfl) (fun _ _ => rfl) r seq time t)
    (handOver_reports r seq time t)

end

/-! ### The calibration run (R14 to R16) -/

/-- The run after a sample near its first. -/
def CalRun.grown (r : Axes) (c : CalRun) : CalRun :=
  ⟨c.count + 1, ⟨c.sums.yaw + r.yaw, c.sums.pitch + r.pitch, c.sums.roll + r.roll⟩, some (c.first.getD r)⟩

/-- The rounded means of a run of 1024 samples. -/
def CalRun.means (c : CalRun) : Axes := ⟨roundDiv c.sums.yaw 1024, roundDiv c.sums.pitch 1024, roundDiv c.sums.roll 1024⟩

section
variable {r : Axes} {c : CalRun} {s : State}

theorem calSample_far (hc : s.motion.cal = some c)
    (h : differMore r (c.first.getD r) s.motion.limits.stillThreshold = true) :
    calSample r s = abortCal .moved .running s := by
  unfold calSample; rw [hc]; exact if_pos h

theorem calSample_near (hc : s.motion.cal = some c)
    (h : differMore r (c.first.getD r) s.motion.limits.stillThreshold = false) : calSample r s =
      if c.count + 1 = 1024 then finishCal (c.grown r) s else s.mapMotion fun m => { m with cal := some (c.grown r) } := by
  unfold calSample; rw [hc]; exact if_neg (by simp [h])

/-- The test of a bias. -/
theorem withinInt_iff (b : Axes) :
    (withinInt b.yaw (-2048) 2047 && withinInt b.pitch (-2048) 2047 && withinInt b.roll (-2048) 2047) = true ↔
      inBiasRange b.yaw ∧ inBiasRange b.pitch ∧ inBiasRange b.roll := by
  unfold withinInt inBiasRange; simp only [Bool.and_eq_true, decide_eq_true_eq, and_assoc]

theorem finishCal_good (h : inBiasRange c.means.yaw ∧ inBiasRange c.means.pitch ∧ inBiasRange c.means.roll) :
    finishCal c s = report (.calDone c.means)
      (recenterNow (s.mapMotion fun m => { m with bias := c.means, cal := none, status := .running })) := by
  unfold finishCal
  exact if_pos ((withinInt_iff c.means).2 h)

theorem finishCal_out (h : ¬(inBiasRange c.means.yaw ∧ inBiasRange c.means.pitch ∧ inBiasRange c.means.roll)) :
    finishCal c s = report (.calAborted .range c.count) (s.mapMotion fun m => { m with cal := none, status := .running }) := by
  unfold finishCal
  exact if_neg fun hk => h ((withinInt_iff c.means).1 hk)

end

section
variable {dt time : Nat} {x : SampleRecord} {c : CalRun} {s : State}

theorem takeSample_calibrating (h : s.motion.status = .calibrating) : takeSample x time s =
    if s.motion.gap x.seq.toNat = 0 then
      calSample (s.motion.setup.rates x) (detect (s.motion.setup.rates x) (accelerations x) time
        (takeRunning (s.motion.setup.rates x) x.seq.toNat time s))
    else detect (s.motion.setup.rates x) (accelerations x) time
      (takeRunning (s.motion.setup.rates x) x.seq.toNat time s) := by
  unfold takeSample; dsimp only; rw [h]

/-- With no gap: the Motion Front-End at the sample's end, before the calibration run takes it. -/
theorem calibrating_motion (hs : s.motion.status = .calibrating) (hg : s.motion.gap x.seq.toNat = 0) :
    ∃ e, (detect (s.motion.setup.rates x) (accelerations x) time
      (takeRunning (s.motion.setup.rates x) x.seq.toNat time (readEnded dt s))).motion =
      Motion.rested (s.motion.setup.rates x) (accelerations x) time
        { s.motion.sampled (s.motion.setup.rates x) x.seq.toNat time with reading := none, holdoffEnd := e } := by
  rw [takeRunning_noGap (s := readEnded dt s) hg]
  obtain ⟨e, he⟩ := detectShock_motion (l := accelerations x) (time := time)
    (s := handOver (s.motion.setup.rates x) x.seq.toNat time (readEnded dt s))
    (by rw [handOver_motion]; simp [Motion.sampled, hs])
  refine ⟨e, ?_⟩
  rw [detect_motion, he, handOver_motion]; rfl

/-- At a gap the run ends with MOVED, before anything else. -/
theorem calibrating_gap (hs : s.motion.status = .calibrating) (hc : s.motion.cal = some c)
    (hg : s.motion.gap x.seq.toNat ≠ 0) :
    let t := finish (takeSample x time (readEnded dt s))
    t.motion.status = .running ∧ t.motion.cal = none ∧ t.motion.bias = s.motion.bias ∧
      (s.link.reports.length < 28 → Issued (.calAborted .moved c.count) t) := by
  intro t
  have ht : t = finish (detect (s.motion.setup.rates x) (accelerations x) time
      (takeRunning (s.motion.setup.rates x) x.seq.toNat time (readEnded dt s))) :=
    congrArg finish ((takeSample_calibrating (s := readEnded dt s) hs).trans (if_neg hg))
  clear_value t
  have hm : (takeRunning (s.motion.setup.rates x) x.seq.toNat time (readEnded dt s)).motion =
      { s.motion.sampled (s.motion.setup.rates x) x.seq.toNat time with reading := none, cal := none, status := .running } := by
    rw [takeRunning_motion, if_neg (by exact hg)]
    unfold Motion.aborted
    rw [if_neg (by simp [hc])]; rfl
  obtain ⟨e, he⟩ := detectShock_motion (l := accelerations x) (time := time)
    (s := takeRunning (s.motion.setup.rates x) x.seq.toNat time (readEnded dt s)) (by rw [hm]; simp)
  rw [hm] at he
  have htm := congrArg State.motion ht
  rw [finish_motion, detect_motion, he] at htm
  refine ⟨by rw [htm]; rfl, by rw [htm]; rfl, by rw [htm]; rfl, fun hroom => Carried.issued ?_⟩
  have ha := (CarriedByRoom.nil (readEnded dt s)).abortCal .moved .running (by rw [readEnded_link]; omega)
  rw [show abortReports .moved (readEnded dt s).motion = [.calAborted .moved c.count] by
    unfold abortReports; rw [readEnded_motion]; simp [hc]] at ha
  rw [ht, finish_partTime, detect_partTime, takeRunning_partTime]
  exact (Carried.detect (ha.carried.takeRunning hg)).finish

/-- A sample far from the first of the run ends it with MOVED. -/
theorem calibrating_far (hs : s.motion.status = .calibrating) (hc : s.motion.cal = some c)
    (hg : s.motion.gap x.seq.toNat = 0)
    (hf : differMore (s.motion.setup.rates x) (c.first.getD (s.motion.setup.rates x)) s.motion.limits.stillThreshold = true) :
    let t := finish (takeSample x time (readEnded dt s))
    t.motion.status = .running ∧ t.motion.cal = none ∧ t.motion.bias = s.motion.bias ∧
      (AtRest s → Quiet motionConds s → s.link.reports.length < 28 → Issued (.calAborted .moved c.count) t) := by
  intro t
  obtain ⟨e, he⟩ := calibrating_motion (dt := dt) (time := time) hs hg
  have hcalm : AtRest s → Quiet motionConds s → Calm 3 s (detect (s.motion.setup.rates x) (accelerations x) time
      (takeRunning (s.motion.setup.rates x) x.seq.toNat time (readEnded dt s))) := fun hr hq => by
    rw [takeRunning_noGap (s := readEnded dt s) hg]
    have h0 : Calm 0 s (readEnded dt s) := ⟨hr.congr rfl rfl rfl rfl rfl, rfl, le_rfl⟩
    exact h0.handOver.detect hq
  have ht : t = finish (calSample (s.motion.setup.rates x) (detect (s.motion.setup.rates x) (accelerations x) time
      (takeRunning (s.motion.setup.rates x) x.seq.toNat time (readEnded dt s)))) :=
    congrArg finish ((takeSample_calibrating (s := readEnded dt s) hs).trans (if_pos hg))
  clear_value t
  generalize detect (s.motion.setup.rates x) (accelerations x) time
    (takeRunning (s.motion.setup.rates x) x.seq.toNat time (readEnded dt s)) = v at *
  have hvc : v.motion.cal = some c := by rw [he]; exact hc
  rw [calSample_far hvc (by rw [he]; exact hf)] at ht
  have htm := congrArg State.motion ht
  rw [finish_motion, abortCal_motion, Motion.aborted, if_neg (by simp [hvc]), he] at htm
  refine ⟨by rw [htm], by rw [htm], by rw [htm]; rfl, fun hr hq hroom => Carried.issued ?_⟩
  have hv := (hcalm hr hq).reports
  have ha := (CarriedByRoom.nil v).abortCal .moved .running (by omega)
  rw [show abortReports .moved v.motion = [.calAborted .moved c.count] by unfold abortReports; simp [hvc]] at ha
  rw [ht, finish_partTime, abortCal_partTime]
  exact ha.carried.finish

/-- A sample near the first of the run joins it, and the 1024th ends it. -/
theorem calibrating_near (hs : s.motion.status = .calibrating) (hc : s.motion.cal = some c)
    (hg : s.motion.gap x.seq.toNat = 0)
    (hn : differMore (s.motion.setup.rates x) (c.first.getD (s.motion.setup.rates x)) s.motion.limits.stillThreshold = false) :
    let t := finish (takeSample x time (readEnded dt s))
    let k := c.grown (s.motion.setup.rates x)
    (c.count ≠ 1023 → t.motion.status = .calibrating ∧ t.motion.cal = some k ∧ t.motion.bias = s.motion.bias) ∧
      (c.count = 1023 → t.motion.status = .running ∧ t.motion.cal = none ∧
        (inBiasRange k.means.yaw ∧ inBiasRange k.means.pitch ∧ inBiasRange k.means.roll →
          t.motion.bias = k.means ∧ t.filter.history = []) ∧
        (¬(inBiasRange k.means.yaw ∧ inBiasRange k.means.pitch ∧ inBiasRange k.means.roll) →
          t.motion.bias = s.motion.bias)) := by
  intro t k
  obtain ⟨e, he⟩ := calibrating_motion (dt := dt) (time := time) hs hg
  have ht : t = finish (calSample (s.motion.setup.rates x) (detect (s.motion.setup.rates x) (accelerations x) time
      (takeRunning (s.motion.setup.rates x) x.seq.toNat time (readEnded dt s)))) :=
    congrArg finish ((takeSample_calibrating (s := readEnded dt s) hs).trans (if_pos hg))
  clear_value t
  generalize detect (s.motion.setup.rates x) (accelerations x) time
    (takeRunning (s.motion.setup.rates x) x.seq.toNat time (readEnded dt s)) = v at *
  have hvc : v.motion.cal = some c := by rw [he]; exact hc
  rw [calSample_near hvc (by rw [he]; exact hn)] at ht
  refine ⟨fun hk => ?_, fun hk => ?_⟩
  · rw [if_neg (by omega)] at ht
    have htm := congrArg State.motion ht
    rw [finish_motion, State.mapMotion_motion, he] at htm
    rw [htm]
    exact ⟨hs, rfl, rfl⟩
  · rw [if_pos (by omega)] at ht
    by_cases hb : inBiasRange k.means.yaw ∧ inBiasRange k.means.pitch ∧ inBiasRange k.means.roll
    · rw [finishCal_good hb] at ht
      have htm := congrArg State.motion ht
      have htf := congrArg State.filter ht
      rw [finish_motion, report_motion] at htm
      rw [finish_filter, report_filter] at htf
      rw [htm, htf]
      exact ⟨rfl, rfl, fun _ => ⟨rfl, rfl⟩, fun h => absurd hb h⟩
    · rw [finishCal_out hb] at ht
      have htm := congrArg State.motion ht
      rw [finish_motion, report_motion, State.mapMotion_motion, he] at htm
      rw [htm]
      exact ⟨rfl, rfl, fun h => absurd h hb, fun _ => rfl⟩

end

/-- Settles O18, by the motion status. -/
theorem sampleTakenIsIntegrated : Obligations.SampleTakenIsIntegrated := by
  intro dt time x s hp hr hrate
  refine ⟨fun hs => ?_, fun hs => ?_, fun c hs hc => ?_⟩
  · obtain ⟨c, e, hm⟩ := running_motion (dt := dt) (time := time) (x := x) hs
    have hf := running_filter (dt := dt) (time := time) (x := x) hs
    have hl := running_samplesLost (dt := dt) (time := time) (x := x) hs
    refine ⟨_, exec_sampleTaken hp hr, by rw [hm]; rfl, by rw [hm]; exact hs, by rw [hm]; rfl, by rw [hm]; rfl,
      by rw [hm]; rfl, by rw [hm]; rfl, fun g hg => ?_⟩
    have hgap : (readEnded dt s).motion.gap x.seq.toNat = g := gap_eq hg
    rw [show s.motion.gap x.seq.toNat = g from hgap] at hl
    rw [hf]
    refine ⟨fun h8 => ?_, fun h0 => ⟨?_, fun e h hmode he hlast => ?_⟩, fun h1 => ?_, fun h8 => ?_⟩
    · obtain ⟨irate, imode, iyaw, ipitch, iroll, itimes, ioff⟩ := takeRunning_integrated
        (r := s.motion.setup.rates x) (time := time) (s := readEnded dt s) (by rw [hgap]; exact h8) hrate
      rw [hgap] at iyaw ipitch iroll itimes
      refine ⟨iyaw, ipitch, iroll, ?_, ioff⟩
      rw [itimes, List.length_map]; rfl
    · rw [hl, if_pos h0]
    · rw [takeRunning_filter_noGap (hgap.trans h0)] at hlast ⊢
      exact after_smoothed _ _ _ _ _ _ (by rcases hmode with h | h <;> simp [h]) he hlast
    · rw [hl, if_neg (by omega)]
    · exact takeRunning_times_alone (by rw [hgap]; exact h8)
  · exact ⟨_, exec_sampleTaken hp hr, resumed hs⟩
  · refine ⟨_, exec_sampleTaken hp hr, fun hg hnear hk => ?_, fun hg hnear hk => ?_, fun h => ?_⟩
    · exact (calibrating_near hs hc (gap_eq hg) ((differMore_eq_false_iff _ _ _).2 hnear)).1 hk
    · exact (calibrating_near hs hc (gap_eq hg) ((differMore_eq_false_iff _ _ _).2 hnear)).2 hk
    · rcases h with ⟨hg, hfar⟩ | hg
      · refine calibrating_far hs hc (gap_eq hg) (Bool.of_not_eq_false fun h => hfar ?_)
        exact (differMore_eq_false_iff _ _ _).1 h
      · obtain ⟨h1, h2, h3, h4⟩ := calibrating_gap (dt := dt) (time := time) hs hc
          (fun h => hg ((gap_zero_iff _ _).2 h))
        exact ⟨h1, h2, h3, fun _ _ hroom => h4 hroom⟩

end Sys2Proof.Machine

/-! PROOF. RECENTER, and the corrections of a band: the lookup, the rounding and the clamps (R29 to R34). -/

namespace Sys2Proof.Machine

/-! ### RECENTER (R28, R29) -/

/-- Settles O15: the directive's whole effect is the forced recenter of the Path Filter, whatever the status and the mode. -/
theorem recenterIsForced : Obligations.RecenterIsForced := by
  intro dt tag s h
  dsimp only [exec, execRecenter, onRecenter]
  exact h.sets_filter (by rfl) (by omega) Filter.recentered rfl

/-! ### The clamp (00_scope.md 4.4) -/

section
variable {x lo hi : Int}

theorem clampInt_of_mem (h1 : lo ≤ x) (h2 : x ≤ hi) : clampInt x lo hi = x := by
  unfold clampInt; rw [if_neg (by omega), if_neg (by omega)]

theorem clampInt_of_lt (h : x < lo) : clampInt x lo hi = lo := if_pos h

theorem clampInt_of_gt (hl : lo ≤ hi) (h : hi < x) : clampInt x lo hi = hi := by
  unfold clampInt; rw [if_neg (by omega), if_pos h]

theorem clampInt_mem (hl : lo ≤ hi) : lo ≤ clampInt x lo hi ∧ clampInt x lo hi ≤ hi := by
  rcases lt_or_ge x lo with h | h
  · rw [clampInt_of_lt h]; exact ⟨le_rfl, hl⟩
  · rcases lt_or_ge hi x with h' | h'
    · rw [clampInt_of_gt hl h']; exact ⟨hl, le_rfl⟩
    · rw [clampInt_of_mem h h']; exact ⟨h, h'⟩

end

/-! ### Rounding (R31) -/

/-- Rounding takes the magnitude to the nearest integer, and the sign of the value. -/
theorem rounded_roundDiv (a : Int) (d : Nat) : Rounded a d (roundDiv a d) := by
  unfold roundDiv; dsimp only
  split
  case isTrue h =>
    exact ⟨by rw [Int.natAbs_neg, Int.natAbs_natCast],
      mul_nonneg_of_nonpos_of_nonpos (neg_nonpos.2 (Int.natCast_nonneg _)) h.le⟩
  case isFalse h => exact ⟨Int.natAbs_natCast _, mul_nonneg (Int.natCast_nonneg _) (not_lt.1 h)⟩

theorem rounded_toPixels (c : Int) (ppd : Nat) : Rounded (c * ppd) 16777216 (toPixels c ppd) := rounded_roundDiv _ _

/-! ### The lookup (R30) -/

theorem findLast_eq_none {α : Type} {p : α → Bool} {xs : List α} (h : findLast p xs = none) : ∀ x ∈ xs, p x = false :=
  fun x hx => Bool.of_not_eq_true (List.find?_eq_none.1 h x (List.mem_reverse.2 hx))

/-- What `findLast` finds stands behind no other element that passes. -/
theorem findLast_eq_some {α : Type} {p : α → Bool} {xs : List α} {x : α} (h : findLast p xs = some x) :
    p x = true ∧ ∃ older newer, xs = older ++ x :: newer ∧ ∀ y ∈ newer, p y = false := by
  obtain ⟨hp, front, back, hxs, hf⟩ := List.find?_eq_some_iff_append.1 h
  refine ⟨hp, back.reverse, front.reverse, ?_, fun y hy => ?_⟩
  · rw [← List.reverse_reverse xs, hxs, List.reverse_append, List.reverse_cons, List.append_assoc, List.singleton_append]
  · simpa using hf y (List.mem_reverse.1 hy)

/-- The lookup takes the newest entry not after the centre, the oldest of a history of newer ones, or none. -/
theorem lookedUp_lookupEntry (h : List HistoryEntry) (te : Int) :
    LookedUp h te (lookupEntry h te).1 (lookupEntry h te).2 := by
  unfold lookupEntry
  split
  next e he =>
    obtain ⟨hle, older, newer, hh, hn⟩ := findLast_eq_some he
    exact .inr (.inr ⟨older, e, newer, hh, of_decide_eq_true hle, fun y hy => by simpa using hn y hy, rfl, rfl⟩)
  next hnone =>
    have hnew : ∀ x ∈ h, te < x.time := fun x hx => by simpa using findLast_eq_none hnone x hx
    cases h with
    | nil => exact .inl ⟨rfl, rfl, rfl⟩
    | cons e es => exact .inr (.inl ⟨List.cons_ne_nil _ _, hnew, rfl, rfl⟩)

/-! ### The band's clamps and counts (R32, R33) -/

section
variable (g : Geometry) (slew : Nat) (dx dy : Int) (prev : Option Int)

theorem clampBand_dy_some (p : Int) : (clampBand g slew dx dy (some p)).dy =
    clampInt (clampBand g slew dx dy none).dy (p - slew) (p + slew) := rfl

theorem clampBand_xClamp : (clampBand g slew dx dy prev).xClamp = decide ((clampBand g slew dx dy prev).dx ≠ dx) := rfl

/-- The y flag compares the offset before the slew clamp. -/
theorem clampBand_yClamp : (clampBand g slew dx dy prev).yClamp = decide ((clampBand g slew dx dy none).dy ≠ dy) := rfl

theorem clampBand_slewClamp : (clampBand g slew dx dy prev).slewClamp =
    decide ((clampBand g slew dx dy prev).dy ≠ (clampBand g slew dx dy none).dy) := rfl

/-- Each axis that the position clamp changes is counted once. -/
theorem countBand_clampBand (early : Bool) (s : State) :
    (countBand (clampBand g slew dx dy none) early s).counters.bandClamps =
      satAdd s.counters.bandClamps ((if (clampBand g slew dx dy none).dx ≠ dx then 1 else 0) +
        (if (clampBand g slew dx dy none).dy ≠ dy then 1 else 0)) := by
  unfold countBand
  simp only [State.mapCounters_counters, clampBand_xClamp, clampBand_yClamp, decide_eq_true_eq]

/-- A band after the first is held within the slew of the one before it, and its flag says whether that moved it. -/
theorem clampBand_slew (p : Int) :
    let y := (clampBand g slew dx dy none).dy
    let b := clampBand g slew dx dy (some p)
    (p - slew ≤ y → y ≤ p + slew → b.dy = y ∧ b.slewClamp = false) ∧
      (y < p - slew → b.dy = p - slew ∧ b.slewClamp = true) ∧ (p + slew < y → b.dy = p + slew ∧ b.slewClamp = true) := by
  intro y b
  have hflag : b.slewClamp = decide (b.dy ≠ y) := clampBand_slewClamp ..
  have hdy : b.dy = clampInt y (p - slew) (p + slew) := clampBand_dy_some ..
  refine ⟨fun h1 h2 => ?_, fun h => ?_, fun h => ?_⟩
  · have hb : b.dy = y := hdy.trans (clampInt_of_mem h1 h2)
    exact ⟨hb, hflag.trans (decide_eq_false (not_not.2 hb))⟩
  · have hb : b.dy = p - slew := hdy.trans (clampInt_of_lt h)
    exact ⟨hb, hflag.trans (decide_eq_true (by omega))⟩
  · have hb : b.dy = p + slew := hdy.trans (clampInt_of_gt (by omega) h)
    exact ⟨hb, hflag.trans (decide_eq_true (by omega))⟩

end

/-! ### The band's correction (R30 to R34) -/

section
variable {g : Geometry} {r : FrameRec} {e : LensEntry} {t : Nat} {prev : Option Int} {s : State}

theorem bandCorrection_off (h : r.mode = .off) : bandCorrection g r e t prev s = (BandRec.still, s) := if_pos h

/-- Outside OFF the entry looked up at the exposure centre is converted, clamped and counted. -/
theorem bandCorrection_on (h : r.mode ≠ .off) :
    let found := lookupEntry s.filter.history (exposureCentre t e.lineDelay r.exposure)
    let b := clampBand g r.slewEff (toPixels ((found.1.map HistoryEntry.cYaw).getD 0) e.ppdx)
      (toPixels ((found.1.map HistoryEntry.cPitch).getD 0) e.ppdy) prev
    bandCorrection g r e t prev s = (b, countBand b found.2 s) := if_neg h

end

/-- Settles O52: the clamps of a band by where its raw offset lies, OFF, and the lookup outside it. -/
theorem bandOffsetsAreClamped : Obligations.BandOffsetsAreClamped := by
  refine ⟨fun g slew dx dy s early => ?_, fun g r e t prev s h => bandCorrection_off h, fun g r e t prev s h => ?_⟩
  · have hx : -(g.mx : Int) ≤ g.mx := by omega
    have hy : -(g.my : Int) ≤ g.my := by omega
    obtain ⟨x1, x2⟩ := clampInt_mem (x := dx) hx
    obtain ⟨y1, y2⟩ := clampInt_mem (x := dy) hy
    exact ⟨rfl, x1, x2, y1, y2, clampInt_of_mem, clampInt_of_lt, clampInt_of_gt hx, clampInt_of_mem, clampInt_of_lt,
      clampInt_of_gt hy, decide_eq_true_iff, decide_eq_true_iff, decide_eq_false (not_not.2 rfl),
      countBand_clampBand g slew dx dy early s, fun p => ⟨rfl, rfl, rfl⟩⟩
  · have hm : r.mode ≠ .off := by rcases h with h | h <;> simp [h]
    refine ⟨_, _, _, _, lookedUp_lookupEntry _ _, rounded_toPixels _ _, rounded_toPixels _ _, bandCorrection_on hm,
      fun b => rfl, fun p hp => ?_⟩
    subst hp
    exact clampBand_slew ..

end Sys2Proof.Machine

/-! PROOF. Nothing is received while the link is ASLEEP, and side slots: what one carries, and that those of the open room
empty it. -/

namespace Sys2Proof.Machine

/-! ### An ASLEEP link (R45, R64) -/

section
variable {s : State} (h : s.link.awake = false)
include h

/-- A directive packet does not reach an ASLEEP link. -/
theorem directive_asleep (code : Nat) (len : Option Nat) (tag : Byte) (p : Bytes) (f : State → State) :
    directive code len tag p f s = s := if_pos (by simp [h])

theorem onLinkReset_asleep (tag : Byte) (p : Bytes) : onLinkReset tag p s = s :=
  (if_neg (by simp [h])).trans (directive_asleep h ..)

theorem routeDirective_asleep (code tag : Byte) (p : Bytes) : routeDirective code tag p s = s := by
  unfold routeDirective
  generalize code.toNat = n
  split
  case h_1 => exact onLinkReset_asleep h ..
  all_goals exact directive_asleep h ..

end

/-- Settles O7, by the row that arrives. -/
theorem asleepLinkReceivesNothing : Obligations.AsleepLinkReceivesNothing := by
  intro c s hc hp ha hr
  have hx : ∀ dt, (s.tick dt).link.awake = false := fun _ => ha
  cases c
  case frameStartMarker => exact (hr.tick _).act hp (if_neg (by simp [ha]))
  case sensorLine => exact (hr.tick _).act hp (if_neg (by simp [ha]))
  case frameEndMarker => exact (hr.tick _).act hp (if_neg (by simp [ha]))
  case clipPacket => exact (hr.tick _).act hp (if_neg (by simp [ha]))
  case malformedPacket => exact (hr.tick _).act hp (if_neg (by simp [ha]))
  case unknownDirective => exact (hr.tick _).act hp (routeDirective_asleep (hx _) ..)
  case linkReset => exact (hr.tick _).act hp (onLinkReset_asleep (hx _) ..)
  case coldStart | brownOut | rstinAssertion | imuDrdyEdge | sampleTaken | motionLost | identityCheck | sideSlot |
      stallTimerExpiry | cardOpCompletion | cardTimeout | cardInsertion | cardRemoval | powerUpdate | chargeEvaluation |
      safetyTimerTimeout => simp [Instr.onLink, Instr.directive] at hc
  all_goals exact (hr.tick _).act hp (directive_asleep (hx _) ..)

/-! ### One side slot (R60, R176, R178) -/

section
variable {s : State}

theorem fillSlot_trailer (ho : linkOpen s = true) {tr : Trailer} (ht : s.frame.trailer = some tr) :
    fillSlot s = (s.emit (.packet tr.encode)).mapFrame fun f => { f with trailer := none } := by
  unfold fillSlot; rw [if_neg (by simp [ho]), ht]

theorem fillSlot_answer (ho : linkOpen s = true) (ht : s.frame.trailer = none) {a : Answer} {rest : List Answer}
    (ha : s.link.answers = a :: rest) : fillSlot s = answerRemoved rest (s.emit (.packet a.encode)) := by
  unfold fillSlot; rw [if_neg (by simp [ho]), ht, ha]

theorem fillSlot_report (ho : linkOpen s = true) (ht : s.frame.trailer = none) (ha : s.link.answers = []) {r : Report}
    {rest : List Report} (hr : s.link.reports = r :: rest) :
    fillSlot s = reportRemoved rest (s.emit (.packet r.encode)) := by
  unfold fillSlot; rw [if_neg (by simp [ho]), ht, ha, hr]

/-- With no answer held, HOLD as judged and the queue not full, the head answer leaves and nothing else changes. -/
theorem answerRemoved_free (hj : judgeHold s = s) (hh : s.link.held = none) {a : Answer} {rest : List Answer}
    (ha : s.link.answers = a :: rest) (hl : rest.length < 15) (i : CaptureItem) :
    answerRemoved rest (s.emit i) = (s.emit i).mapLink fun l => { l with answers := rest } := by
  unfold answerRemoved
  rw [show (s.emit i).link.held = none from hh]
  refine judgeHold_rest_congr (s := s) rfl rfl ?_ hj
  have h1 : ansCauseNow s = false := decide_eq_false (by rw [ha]; show ¬16 ≤ rest.length + 1; omega)
  rw [h1]; exact decide_eq_false (show ¬16 ≤ rest.length by omega)

/-- A held answer takes the place of the head answer that leaves, so that HOLD stays as judged. -/
theorem answerRemoved_held (hj : judgeHold s = s) {h : Answer} (hh : s.link.held = some h) {a : Answer}
    {rest : List Answer} (ha : s.link.answers = a :: rest) (i : CaptureItem) :
    answerRemoved rest (s.emit i) =
      ((s.emit i).mapLink fun l => { l with answers := rest ++ [h], held := none }).mapCard fun c =>
        { c with slot := none } := by
  unfold answerRemoved
  rw [show (s.emit i).link.held = some h from hh]
  exact judgeHold_rest_congr (s := s) rfl rfl (by simp [ansCauseNow, ha]) hj

theorem reportRemoved_free {rest : List Report} (h : s.link.lost = 0 ∨ 16 < rest.length) (i : CaptureItem) :
    reportRemoved rest (s.emit i) = (s.emit i).mapLink fun l => { l with reports := rest } :=
  if_neg (by simp [State.emit, Config.lostMark]; omega)

theorem reportRemoved_lost {rest : List Report} (h : 0 < s.link.lost) (hl : rest.length ≤ 16) (i : CaptureItem) :
    reportRemoved rest (s.emit i) = (s.emit i).mapLink fun l =>
      { l with reports := rest ++ [⟨s.partTime, .reportsLost s.link.lost⟩], lost := 0 } :=
  (if_pos ⟨h, hl⟩).trans (if_pos (show rest.length < 32 by omega))

end

/-! ### The open room empties (R60) -/

/-- No trailer, answer or report waits for a slot. -/
def NothingWaits (s : State) : Prop := s.frame.trailer = none ∧ s.link.answers = [] ∧ s.link.reports = []

/-- The packets that wait for a slot, with the answer held and the REPORTS_LOST that may follow them. -/
def waitingPackets (s : State) : Nat :=
  s.frame.trailer.toList.length + s.link.answers.length + s.link.held.toList.length + s.link.reports.length +
    min s.link.lost 1

theorem linkOpen_congr {s t : State} (h : t.outside = s.outside) : linkOpen t = linkOpen s :=
  show linkOpen t.outside = linkOpen s.outside by rw [h]

/-- An open slot makes the waiting packets fewer, unless nothing waits. -/
theorem waitingPackets_fillSlot {s : State} (ho : linkOpen s = true) (hn : ¬NothingWaits s) :
    waitingPackets (fillSlot s) < waitingPackets s := by
  unfold waitingPackets
  cases ht : s.frame.trailer with
  | some tr => rw [fillSlot_trailer ho ht]; simp [State.emit]
  | none =>
    cases ha : s.link.answers with
    | cons a rest =>
      rw [fillSlot_answer ho ht ha]; unfold answerRemoved
      cases hh : (s.emit (.packet a.encode)).link.held with
      | some x => simp [State.emit, ht, show s.link.held = some x from hh]
      | none => simp [State.emit, ht, show s.link.held = none from hh]
    | nil =>
      cases hr : s.link.reports with
      | nil => exact absurd ⟨ht, ha, hr⟩ hn
      | cons r rest =>
        rw [fillSlot_report ho ht ha hr]
        by_cases hl : 0 < s.link.lost ∧ rest.length ≤ 16
        · rw [reportRemoved_lost hl.1 hl.2]; simp [State.emit, ht, ha, hl.1]
        · rw [reportRemoved_free (by omega)]; simp [State.emit, ht, ha]

/-- As many open slots as packets wait leave nothing waiting. -/
theorem fillSlots_empties {n : Nat} {s : State} (ho : linkOpen s = true) (hn : waitingPackets s ≤ n) :
    NothingWaits (fillSlots n s) := by
  induction n generalizing s with
  | zero =>
    by_contra h
    exact absurd (waitingPackets_fillSlot ho h) (by omega)
  | succ n ih =>
    by_cases h : NothingWaits s
    · rw [fillSlots_nothing h.1 h.2.1 h.2.2]; exact h
    · have hd := waitingPackets_fillSlot ho h
      exact ih ((linkOpen_congr (outside_fillSlot s)).trans ho) (by omega)

theorem waitingPackets_le (s : State) : waitingPackets s ≤ s.link.answers.length + s.link.reports.length + 3 := by
  unfold waitingPackets
  have h1 : s.frame.trailer.toList.length ≤ 1 := by cases s.frame.trailer <;> simp
  have h2 : s.link.held.toList.length ≤ 1 := by cases s.link.held <;> simp
  omega

theorem drainRoom_empties {s : State} (ho : linkOpen s = true) : NothingWaits (drainRoom s) :=
  fillSlots_empties ho (waitingPackets_le s)

theorem depart_empties {s : State} (ho : atOnce s = true) : NothingWaits (depart s) := by
  have hd := drainRoom_empties (s := s) (by simp_all [atOnce])
  unfold depart endDrain
  rw [if_pos ho]
  split <;> exact hd

/-- A command that ends in the open room of an AWAKE link leaves nothing waiting. -/
theorem finish_empties {s : State} (ha : s.link.awake = true) (ho : roomOpen s = true) : NothingWaits (finish s) := by
  have hk : ∀ {α : Type} (f : State → α), (∀ s : State, f s.unsent.outside = f s) →
      f (settle (depart (settle s))) = f s := fun f h => by
    have hu : ∀ s : State, f s.unsent = f s := fun s => (h s.unsent).symm.trans (h s)
    have hs : ∀ s : State, f (settle s) = f s := fun s => by
      have e := congrArg State.unsent (outside_settle s)
      rw [← h (settle s), ← h s]
      exact congrArg f e
    rw [hs, depart_keeps f hu, hs]
  exact depart_empties (by
    rw [atOnce, linkOpen, hk (fun s => s.link.awake) fun _ => rfl, hk roomOpen fun _ => rfl, ha, ho]; rfl)

/-! ### What leaves the open room, and in which order -/

/-- The packets that wait for a slot have left, the trailer before the answers and these before the reports. -/
def emptied (s : State) : State :=
  { (s.mapLink fun l => { l with answers := [], reports := [] }).mapFrame fun f => { f with trailer := none } with
    captureOut := s.captureOut ++ (s.frame.trailer.toList.map (fun tr => .packet tr.encode) ++
      s.link.answers.map (fun a => .packet a.encode) ++ s.link.reports.map fun r => .packet r.encode) }

theorem emptied_of_nothing {s : State} (h : NothingWaits s) : emptied s = s := by
  obtain ⟨ht, ha, hr⟩ := h
  have hl : { s.link with answers := [], reports := [] } = s.link := by rw [← ha, ← hr]
  have hf : { s.frame with trailer := none } = s.frame := by rw [← ht]
  unfold emptied State.mapLink State.mapFrame
  simp only [hl, hf, ht, ha, hr, Option.toList_none, List.map_nil, List.append_nil]

/-- Slots of `s` carry what waits and change nothing else: no answer is held, no loss is counted, and HOLD stays as judged. -/
structure Unhindered (s : State) : Prop where
  linkOpen : linkOpen s = true
  judged : judgeHold s = s
  held : s.link.held = none
  lost : s.link.lost = 0
  answers : s.link.answers.length < 16

/-- `t` differs from `s` at most in what side packets wait and have left. -/
structure OnlySent (s t : State) : Prop where
  store : t.store = s.store
  intake : t.intake = s.intake
  card : t.card = s.card
  trig : t.trig = s.trig
  emptied : emptied t = emptied s

/-- A slot of such a state only sends. -/
theorem Unhindered.fillSlot {s : State} (h : Unhindered s) : Unhindered (fillSlot s) ∧ OnlySent s (fillSlot s) := by
  obtain ⟨ho, hj, hh, hl, hn⟩ := h
  have hlt : ∀ {a : Answer} {rest : List Answer}, s.link.answers = a :: rest → rest.length < 15 := fun ha => by
    rw [ha, List.length_cons] at hn; omega
  have hj' : ∀ t : State, t.intake = s.intake → t.store = s.store → t.link.answers.length < 16 → judgeHold t = t :=
    fun t hi hs hn' => judgeHold_rest_congr hi hs (by
      have h16 : ∀ u : State, u.link.answers.length < 16 → ansCauseNow u = false := fun u hu =>
        decide_eq_false (Nat.not_le.2 hu)
      rw [h16 t hn', h16 s hn]) hj
  cases ht : s.frame.trailer with
  | some tr =>
    rw [fillSlot_trailer ho ht]
    exact ⟨⟨ho, hj' _ rfl rfl hn, hh, hl, hn⟩, rfl, rfl, rfl, rfl, by simp [emptied, ht, State.emit, State.mapFrame, State.mapLink]⟩
  | none =>
    cases ha : s.link.answers with
    | cons a rest =>
      have hr := hlt ha
      rw [fillSlot_answer ho ht ha, answerRemoved_free hj hh ha hr]
      exact ⟨⟨ho, hj' _ rfl rfl (Nat.lt_succ_of_lt hr), hh, hl, Nat.lt_succ_of_lt hr⟩, rfl, rfl, rfl, rfl,
        by simp [emptied, ht, ha, State.emit, State.mapFrame, State.mapLink]⟩
    | nil =>
      cases hr : s.link.reports with
      | nil =>
        rw [show Machine.fillSlot s = s from fillSlots_nothing ht ha hr 1]
        exact ⟨⟨ho, hj, hh, hl, hn⟩, rfl, rfl, rfl, rfl, rfl⟩
      | cons r rest =>
        rw [fillSlot_report ho ht ha hr, reportRemoved_free (.inl hl)]
        exact ⟨⟨ho, hj' _ rfl rfl hn, hh, hl, hn⟩, rfl, rfl, rfl, rfl,
          by simp [emptied, ht, ha, hr, State.emit, State.mapFrame, State.mapLink]⟩

/-- Slots enough for all that waits send it and change nothing else. -/
theorem Unhindered.fillSlots {n : Nat} {s : State} (h : Unhindered s) (hn : waitingPackets s ≤ n) :
    fillSlots n s = Machine.emptied s := by
  induction n generalizing s with
  | zero => exact (emptied_of_nothing (fillSlots_empties (n := 0) h.linkOpen hn)).symm
  | succ n ih =>
    by_cases hw : NothingWaits s
    · rw [fillSlots_nothing hw.1 hw.2.1 hw.2.2, emptied_of_nothing hw]
    · have hd := waitingPackets_fillSlot h.linkOpen hw
      exact (ih h.fillSlot.1 (by omega)).trans h.fillSlot.2.emptied

/-- A part whose store and card rest, and whose waiting packets alone are left to leave the open room, sends them. -/
theorem Unhindered.finish {s : State} (h : Unhindered s) (hr : settleStep s = none) (hd : s.link.drain = false)
    (ho : roomOpen s = true) : finish s = emptied s := by
  have he : Machine.depart s = emptied s := by
    unfold Machine.depart Machine.drainRoom endDrain
    rw [if_pos (by rw [atOnce, h.linkOpen, ho]; rfl), h.fillSlots (waitingPackets_le s), if_neg (by simp [emptied, hd])]
  have hw := (settleStep_eq_none_iff s).1 hr
  have hr' : settleStep (emptied s) = none :=
    (settleStep_eq_none_iff _).2 ⟨hw.1, (pumpStep_rest_congr (s := s) (t := emptied s) rfl rfl rfl).2 hw.2⟩
  have hd' : departed (emptied s) = true := by simp [departed, emptied, hd, h.held, h.lost]
  unfold Machine.finish
  rw [settle_of_rest hr, he, settle_of_rest hr', depart_of_departed hd']

/-- Settles O26: one slot by what waits first, SIDE_SLOT in the room, and SIDE_SLOT inside a frame whose rows are due. -/
theorem sideSlotCarriesTheFirstWaiting : Obligations.SideSlotCarriesTheFirstWaiting := by
  refine ⟨fun s ha hj => ?_, fun dt s hp ha hroom => ?_, fun dt r s hp hr hs hrec hrows => ?_⟩
  · have ho : linkOpen s = true := by simp [linkOpen, ha]
    refine ⟨fun tr ht => fillSlot_trailer ho ht, fun ht => ⟨fun a rest has hh hl => ?_, fun a rest x has hh => ?_,
      fun r rest has hrs => ⟨fun h => ?_, fun h hl => ?_⟩, fun has hrs => fillSlots_nothing ht has hrs 1⟩⟩
    · rw [fillSlot_answer ho ht has, answerRemoved_free hj hh has hl]
    · rw [fillSlot_answer ho ht has, answerRemoved_held hj hh has]
    · rw [fillSlot_report ho ht has hrs, reportRemoved_free h]
    · rw [fillSlot_report ho ht has hrs, reportRemoved_lost h hl]
  · have ho : roomOpen (s.tick dt) = true := by
      unfold roomOpen
      rcases hroom with h | h
      · simp [h]
      · cases hrec : s.frame.record with
        | none => simp [hrec]
        | some r => simp [hrec, h r hrec]
    have hof : roomOpen (fillSlot (s.tick dt)) = true :=
      (congrArg roomOpen (outside_fillSlot (s.tick dt))).trans ho
    refine ⟨finish (fillSlot (s.tick dt)), ?_, ?_⟩
    · dsimp only [exec, execSideSlot]; rw [act_powered hp, if_pos ho]
    · obtain ⟨h1, h2, h3⟩ := finish_empties (s := fillSlot (s.tick dt))
        ((congrArg (fun t : State => t.link.awake) (outside_fillSlot (s.tick dt))).trans ha) hof
      refine ⟨h1, h2, h3, fun hr hj hh hl hn hd => ?_⟩
      have hu : Unhindered (s.tick dt) := ⟨by simp [linkOpen, ha], judgeHold_rest_congr (s := s) rfl rfl rfl hj, hh, hl, hn⟩
      obtain ⟨hu', hs', hi', hc', ht', he'⟩ := hu.fillSlot
      have hw := (settleStep_eq_none_iff s).1 hr
      have hr' : settleStep (fillSlot (s.tick dt)) = none :=
        (settleStep_eq_none_iff _).2 ⟨by rw [ht']; exact hw.1, (pumpStep_rest_congr (s := s) hs' hi' hc').2 hw.2⟩
      rw [hu'.finish hr' ((congrArg (fun t : State => t.link.drain) (outside_fillSlot (s.tick dt))).trans hd) hof, he']
      rfl
  · exact (hr.tick dt).act hp (if_neg (by simp [roomOpen, hs, hrec, hrows]))

end Sys2Proof.Machine

/-! PROOF. What holds on through side packets, changes taken and the work they start: what has left on the capture link, and,
where no trigger watches the conditions that a frame's end changes, the store, Record Intake and the card. -/

namespace Sys2Proof.Machine

/-! ### What side packets keep -/

/-- What one slot sends: nothing, the pending trailer, an answer, or the head report. -/
theorem fillSlot_sends (s : State) :
    fillSlot s = s ∨
      (∃ tr, s.frame.trailer = some tr ∧ (fillSlot s).captureOut = s.captureOut ++ [.packet tr.encode] ∧
        (fillSlot s).frame.trailer = none ∧ (fillSlot s).link.reports = s.link.reports) ∨
      (∃ b, (fillSlot s).captureOut = s.captureOut ++ [.packet b] ∧ (fillSlot s).frame.trailer = s.frame.trailer ∧
        (fillSlot s).link.reports = s.link.reports) ∨
      ∃ r rest, s.link.reports = r :: rest ∧ (fillSlot s).captureOut = s.captureOut ++ [reportPacket r] ∧
        (fillSlot s).frame.trailer = s.frame.trailer ∧ rest <+: (fillSlot s).link.reports := by
  by_cases ho : linkOpen s = true
  · cases ht : s.frame.trailer with
    | some tr => rw [fillSlot_trailer ho ht]; exact .inr (.inl ⟨tr, rfl, rfl, rfl, rfl⟩)
    | none =>
      cases ha : s.link.answers with
      | cons a rest =>
        rw [fillSlot_answer ho ht ha]; unfold answerRemoved
        refine .inr (.inr (.inl ⟨a.encode, ?_⟩))
        split <;> rw [judgeHold_captureOut, judgeHold_frame, judgeHold_link] <;> exact ⟨rfl, ht, rfl⟩
      | nil =>
        cases hr : s.link.reports with
        | nil => exact .inl (fillSlots_nothing ht ha hr 1)
        | cons r rest =>
          rw [fillSlot_report ho ht ha hr]
          refine .inr (.inr (.inr ⟨r, rest, rfl, ?_⟩))
          by_cases hl : 0 < s.link.lost ∧ rest.length ≤ 16
          · rw [reportRemoved_lost hl.1 hl.2]; exact ⟨rfl, ht, List.prefix_append _ _⟩
          · rw [reportRemoved_free (by omega)]; exact ⟨rfl, ht, List.prefix_refl _⟩
  · exact .inl (if_pos (by simpa using ho))

/-- `P` holds on through slots, packets sent, reports joining the queue, and whatever leaves the capture link's record and the
pending trailer alone. -/
structure SideKept (P : State → Prop) : Prop where
  slot : ∀ {s}, P s → P (fillSlot s)
  packet : ∀ {s} (b : Bytes), P s → P (s.emit (.packet b))
  congr : ∀ {s t : State}, P s → t.captureOut = s.captureOut → t.frame.trailer = s.frame.trailer →
    s.link.reports <+: t.link.reports → P t

section
variable {P : State → Prop} (h : SideKept P)
include h

theorem SideKept.of_eq {s t : State} (hs : P s) (hc : t.captureOut = s.captureOut)
    (ht : t.frame.trailer = s.frame.trailer) (hr : t.link.reports = s.link.reports) : P t :=
  h.congr hs hc ht (hr ▸ List.prefix_refl _)

theorem SideKept.fillSlots {s : State} (hs : P s) (n : Nat) : P (fillSlots n s) := by
  induction n generalizing s with
  | zero => exact hs
  | succ n ih => exact ih (h.slot hs)

theorem SideKept.drainRoom {s : State} (hs : P s) : P (drainRoom s) := h.fillSlots hs _

theorem SideKept.leaveAll {s : State} (hs : P s) : P (leaveAll s) := by
  unfold Machine.leaveAll; split
  · exact h.drainRoom hs
  · exact hs

theorem SideKept.depart {s : State} (hs : P s) : P (depart s) := by
  unfold Machine.depart endDrain
  split
  · split
    · exact h.of_eq (h.drainRoom hs) rfl rfl rfl
    · exact h.drainRoom hs
  · exact hs

theorem SideKept.judgeHold {s : State} (hs : P s) : P (judgeHold s) :=
  h.of_eq hs (judgeHold_captureOut s) (by rw [judgeHold_frame]) (by rw [judgeHold_link])

theorem SideKept.report {s : State} (hs : P s) (p : Payload) : P (report p s) := by
  unfold Machine.report enqueueReport
  split
  · exact h.packet _ (h.drainRoom hs)
  · split
    · exact h.congr hs rfl rfl (List.prefix_append _ _)
    · exact h.of_eq hs rfl rfl rfl

theorem SideKept.enqueueAnswer {s : State} (hs : P s) (x : Answer) : P (enqueueAnswer x s) := by
  unfold Machine.enqueueAnswer
  split
  · exact h.packet _ (h.drainRoom hs)
  · exact h.judgeHold (h.of_eq hs rfl rfl rfl)

theorem SideKept.work {s t : State} (hs : P s) (hw : Work s t) : P t := by
  induction hw with
  | start => exact hs
  | extra h => exact h.elim
  | report p _ ih => exact h.report ih p
  | answer x _ ih => exact h.enqueueAnswer ih x
  | _ => rename_i ih; exact h.of_eq ih rfl rfl rfl

theorem SideKept.lasts : Lasts P := ⟨h.work, fun _ hs => h.of_eq hs rfl rfl rfl⟩

theorem SideKept.finish {s : State} (hs : P s) : P (finish s) := h.lasts.settles.finish h.depart hs

end

/-! ### Rows, the trailer and reports on the capture link -/

@[simp] theorem rowsOf_append (a b : List CaptureItem) : rowsOf (a ++ b) = rowsOf a ++ rowsOf b := List.filter_append ..
@[simp] theorem rowsOf_packet (b : Bytes) : rowsOf [.packet b] = [] := rfl
@[simp] theorem rowsOf_row (px : List Nat) : rowsOf [.row px] = [.row px] := rfl
@[simp] theorem rowsOf_nil : rowsOf [] = [] := rfl

/-- The rows that have left are `rows`. -/
def RowsLeft (rows : List CaptureItem) (s : State) : Prop := rowsOf s.captureOut = rows

theorem sideKept_rowsLeft (rows : List CaptureItem) : SideKept (RowsLeft rows) where
  slot := by
    intro s hs
    obtain h | ⟨tr, -, h, -⟩ | ⟨b, h, -⟩ | ⟨r, rest, -, h, -⟩ := fillSlot_sends s
    · rw [h]; exact hs
    · rw [RowsLeft, h, rowsOf_append, hs]; exact List.append_nil _
    · rw [RowsLeft, h, rowsOf_append, hs]; exact List.append_nil _
    · rw [RowsLeft, h, rowsOf_append, hs]; exact List.append_nil _
  packet b hs := by rw [RowsLeft, State.emit, rowsOf_append, hs]; exact List.append_nil _
  congr hs hc _ _ := by rw [RowsLeft, hc]; exact hs

/-- The rows that have left are `rows`, and trailer `tr` is pending behind them or has left behind them. -/
def Trailed (rows : List CaptureItem) (tr : Trailer) (s : State) : Prop :=
  (s.frame.trailer = some tr ∧ rowsOf s.captureOut = rows) ∨
    ∃ before rest, rowsOf before = rows ∧ rowsOf rest = [] ∧ s.captureOut = before ++ .packet tr.encode :: rest

theorem sideKept_trailed (rows : List CaptureItem) (tr : Trailer) : SideKept (Trailed rows tr) where
  slot := by
    intro s hs
    obtain h | ⟨tr', htr, h, -, -⟩ | ⟨b, h, ht, -⟩ | ⟨r, rest, -, h, ht, -⟩ := fillSlot_sends s
    · rw [h]; exact hs
    · obtain ⟨ht, hr⟩ | ⟨before, rest, hb, hn, hc⟩ := hs
      · rw [htr, Option.some.injEq] at ht; subst ht
        exact .inr ⟨s.captureOut, [], hr, rfl, h⟩
      · exact .inr ⟨before, rest ++ [.packet tr'.encode], hb, by rw [rowsOf_append, hn]; rfl, by rw [h, hc]; simp⟩
    · obtain ⟨ht', hr⟩ | ⟨before, rest, hb, hn, hc⟩ := hs
      · exact .inl ⟨ht.trans ht', by rw [h, rowsOf_append, hr]; exact List.append_nil _⟩
      · exact .inr ⟨before, rest ++ [.packet b], hb, by rw [rowsOf_append, hn]; rfl, by rw [h, hc]; simp⟩
    · obtain ⟨ht', hr⟩ | ⟨before, rest, hb, hn, hc⟩ := hs
      · exact .inl ⟨ht.trans ht', by rw [h, rowsOf_append, hr]; exact List.append_nil _⟩
      · exact .inr ⟨before, rest ++ [reportPacket r], hb, by rw [rowsOf_append, hn]; rfl, by rw [h, hc]; simp⟩
  packet := by
    intro s b hs
    obtain ⟨ht, hr⟩ | ⟨before, rest, hb, hn, hc⟩ := hs
    · exact .inl ⟨ht, by rw [State.emit, rowsOf_append, hr]; exact List.append_nil _⟩
    · exact .inr ⟨before, rest ++ [.packet b], hb, by rw [rowsOf_append, hn]; rfl, by rw [State.emit, hc]; simp⟩
  congr := by
    intro s t hs hc ht _
    obtain ⟨ht', hr⟩ | ⟨before, rest, hb, hn, hc'⟩ := hs
    · exact .inl ⟨ht.trans ht', by rw [hc, hr]⟩
    · exact .inr ⟨before, rest, hb, hn, hc.trans hc'⟩

/-- Report `r` waits in the Report Queue or has left. -/
def Came (r : Report) (s : State) : Prop := r ∈ s.link.reports ∨ reportPacket r ∈ s.captureOut

theorem sideKept_came (r : Report) : SideKept (Came r) where
  slot := by
    intro s hs
    obtain h | ⟨tr, -, h, -, hq⟩ | ⟨b, h, -, hq⟩ | ⟨x, rest, hq, h, -, hp⟩ := fillSlot_sends s
    · rw [h]; exact hs
    · rw [Came, h, hq]; exact hs.imp_right (List.mem_append_left _)
    · rw [Came, h, hq]; exact hs.imp_right (List.mem_append_left _)
    · rw [Came, h]
      obtain hr | hr := hs
      · rw [hq] at hr
        obtain rfl | hr := List.mem_cons.1 hr
        · exact .inr (by simp)
        · exact .inl (hp.subset hr)
      · exact .inr (List.mem_append_left _ hr)
  packet b hs := hs.imp_right (List.mem_append_left _)
  congr hs hc _ hr := hs.imp (fun h => hr.subset h) fun h => hc ▸ h

/-- A report with room in the queue waits or has left. -/
theorem came_report {p : Payload} {s : State} (h : s.link.reports.length < 32) : Came ⟨s.partTime, p⟩ (report p s) := by
  unfold report
  split
  · exact .inr (List.mem_append_right _ (List.mem_singleton_self _))
  · unfold enqueueReport; rw [if_pos (show _ < Config.reportLimit from h)]
    exact .inl (List.mem_append_right _ (List.mem_singleton_self _))

/-! ### Rest of the store and the card, with HOLD and the passthrough slot left out -/

theorem pumpStep_hold {s : State} (b a h : Bool) (hs : pumpStep s = none) :
    pumpStep (s.mapIntake fun i => { i with bufCause := b, ansCause := a, hold := h }) = none := by
  rw [pumpStep_eq_none_iff] at hs ⊢; exact hs

theorem pumpStep_freeSlot {s : State} (hs : pumpStep s = none) :
    pumpStep (s.mapCard fun c => { c with slot := none }) = none := by
  rw [pumpStep_eq_none_iff] at hs ⊢
  obtain ⟨h1, h2, h3, h4⟩ := hs
  refine ⟨h1, h2, h3, fun ⟨hi, hc⟩ => h4 ⟨hi, fun he => hc ?_⟩⟩
  unfold claimClasses claimList at he ⊢
  simp only [List.append_eq_nil_iff] at he ⊢
  obtain ⟨⟨⟨⟨⟨h1, h2⟩, h3⟩, h4⟩, -⟩, h6⟩ := he
  exact ⟨⟨⟨⟨⟨h1, h2⟩, h3⟩, h4⟩, rfl⟩, h6⟩

/-- The conditions that side packets and the end of a frame change. -/
def frameConds : BitVec 16 := condFrameClamped ||| condHoldActive

/-- `t` has the store of `b`, its Record Intake but for HOLD and its card but for the passthrough slot; the store and the card
have no work due, and of the waiting changes none can fire. -/
structure Undisturbed (b t : State) : Prop where
  store : t.store = b.store
  intake : t.intake =
    { b.intake with hold := t.intake.hold, bufCause := t.intake.bufCause, ansCause := t.intake.ansCause }
  card : t.card = { b.card with slot := t.card.slot }
  rest : pumpStep t = none
  quiet : Quiet frameConds t
  waits : ∀ c ∈ t.trig.waiting, c.mask &&& ~~~frameConds = 0#16

theorem AtRest.undisturbed {s : State} (h : AtRest s) (hq : Quiet frameConds s) : Undisturbed s s where
  store := rfl
  intake := rfl
  card := rfl
  rest := ((settleStep_eq_none_iff s).1 h.1).2
  quiet := hq
  waits := by rw [((settleStep_eq_none_iff s).1 h.1).1]; simp

section
variable {b s : State} (h : Undisturbed b s)
include h

theorem Undisturbed.congr {t : State} (hs : t.store = s.store) (hi : t.intake = s.intake) (hc : t.card = s.card)
    (hu : t.trig = s.trig) : Undisturbed b t where
  store := hs.trans h.store
  intake := by rw [hi]; exact h.intake
  card := by rw [hc]; exact h.card
  rest := (pumpStep_rest_congr hs hi hc).2 h.rest
  quiet := by rw [Quiet, hu]; exact h.quiet
  waits := by rw [hu]; exact h.waits

theorem Undisturbed.judgeHold : Undisturbed b (judgeHold s) where
  store := by rw [judgeHold_store]; exact h.store
  intake := by rw [judgeHold_intake, h.intake]
  card := by rw [judgeHold_card]; exact h.card
  rest := (pumpStep_rest_congr (s := s.mapIntake fun i =>
      { i with bufCause := bufCauseNow s, ansCause := ansCauseNow s, hold := bufCauseNow s || ansCauseNow s })
    (judgeHold_store s) (judgeHold_intake s) (judgeHold_card s)).2 (pumpStep_hold _ _ _ h.rest)
  quiet := by unfold Machine.judgeHold; dsimp only; split <;> exact h.quiet
  waits := by
    unfold Machine.judgeHold; dsimp only; split
    · exact h.waits
    · intro c hc
      obtain hc | hc := List.mem_append.1 hc
      · exact h.waits c hc
      · rw [List.mem_singleton.1 hc]; exact (by decide : condHoldActive &&& ~~~frameConds = 0#16)

theorem Undisturbed.freeSlot : Undisturbed b (s.mapCard fun c => { c with slot := none }) :=
  ⟨h.store, h.intake, by rw [State.mapCard_card, h.card], pumpStep_freeSlot h.rest, h.quiet, h.waits⟩

theorem Undisturbed.fillSlot : Undisturbed b (fillSlot s) := by
  unfold Machine.fillSlot
  split
  · exact h
  · split
    · exact h.congr rfl rfl rfl rfl
    · split
      · unfold answerRemoved
        split
        · exact (Undisturbed.freeSlot (s := (s.emit _).mapLink _) (h.congr rfl rfl rfl rfl)).judgeHold
        · exact (Undisturbed.congr (t := (s.emit _).mapLink _) h rfl rfl rfl rfl).judgeHold
      · split
        · unfold reportRemoved enqueueReport
          dsimp only
          split_ifs <;> exact h.congr rfl rfl rfl rfl
        · exact h

theorem Undisturbed.fillSlots (n : Nat) : Undisturbed b (fillSlots n s) := by
  induction n generalizing s with
  | zero => exact h
  | succ n ih => exact ih h.fillSlot

theorem Undisturbed.drainRoom : Undisturbed b (drainRoom s) := h.fillSlots _

theorem Undisturbed.leaveAll : Undisturbed b (leaveAll s) := by
  unfold Machine.leaveAll; split
  · exact h.drainRoom
  · exact h

theorem Undisturbed.depart : Undisturbed b (depart s) := by
  unfold Machine.depart endDrain
  split
  · split
    · exact h.drainRoom.congr rfl rfl rfl rfl
    · exact h.drainRoom
  · exact h

theorem Undisturbed.report (p : Payload) : Undisturbed b (report p s) := by
  unfold Machine.report enqueueReport
  split
  · exact h.drainRoom.congr rfl rfl rfl rfl
  · split <;> exact h.congr rfl rfl rfl rfl

/-- The head of the waiting changes is taken without a firing. -/
theorem Undisturbed.take {c : Change} {cs : List Change} (hw : s.trig.waiting = c :: cs) :
    Undisturbed b (takeChange c (s.mapTrig fun t => { t with waiting := cs })) := by
  have hq := h.waits
  rw [hw] at hq
  rw [takeChange_eq, fired_quiet (s := s.mapTrig _) h.quiet (hq c (List.mem_cons_self ..))]
  exact ⟨h.store, h.intake, h.card, (pumpStep_rest_congr (s := s) (t := applied c (s.mapTrig _)) rfl rfl rfl).2 h.rest,
    h.quiet, fun d hd => hq d (List.mem_cons_of_mem _ hd)⟩

theorem Undisturbed.takeWaiting (n : Nat) : Undisturbed b (takeWaiting n s) := by
  induction n generalizing s with
  | zero => exact h
  | succ n ih =>
    unfold Machine.takeWaiting; split
    · next hw => exact ih (h.take hw)
    · exact h

theorem Undisturbed.hand {cs : List Change} (hc : ∀ c ∈ cs, c.mask &&& ~~~frameConds = 0#16) : Undisturbed b (hand cs s) :=
  Undisturbed.takeWaiting (s := s.mapTrig fun t => { t with waiting := t.waiting ++ cs }) ⟨h.store, h.intake, h.card,
    (pumpStep_rest_congr (s := s) (t := s.mapTrig _) rfl rfl rfl).2 h.rest, h.quiet,
    fun d hd => (List.mem_append.1 hd).elim (h.waits d) (hc d)⟩ _

theorem Undisturbed.settle : Undisturbed b (settle s) := by
  unfold Machine.settle
  generalize Config.settleBound = n
  induction n generalizing s with
  | zero => exact h
  | succ n ih =>
    unfold quiesce; split
    · next t ht =>
      unfold settleStep at ht; split at ht
      · next hw => cases ht; exact ih (h.take hw)
      · rw [h.rest] at ht; cases ht
    · exact h

theorem Undisturbed.finish : Undisturbed b (finish s) := h.settle.depart.settle.depart

end

/-! ### All of it in one relation -/

/-- The counters but for those that work and dropped packets raise. -/
def Counters.steady (c : Counters) : Counters := { c.unworked with packetsDropped := 0 }

/-- From `s` to `t` only side packets leave, changes are taken and the work they start is done. -/
structure Onward (s t : State) : Prop where
  outside : t.unsent.outside = s.unsent.outside
  counters : t.counters.unworked = s.counters.unworked
  sides : ∀ {P : State → Prop}, SideKept P → P s → P t
  undisturbed : ∀ {b : State}, Undisturbed b s → Undisturbed b t

theorem Onward.refl (s : State) : Onward s s := ⟨rfl, rfl, fun _ h => h, fun h => h⟩

theorem Onward.trans {s t u : State} (h : Onward s t) (k : Onward t u) : Onward s u :=
  ⟨k.outside.trans h.outside, k.counters.trans h.counters, fun hP hs => k.sides hP (h.sides hP hs),
    fun hs => k.undisturbed (h.undisturbed hs)⟩

/-- What both `State.outside` and `State.unsent` keep stays. -/
theorem Onward.keeps {s t : State} (h : Onward s t) {α : Type} (f : State → α) (hf : ∀ s : State, f s.unsent.outside = f s) :
    f t = f s := by rw [← hf t, h.outside, hf]

/-- Counters that work does not raise stay. -/
theorem Onward.counter {s t : State} (h : Onward s t) {α : Type} (f : Counters → α)
    (hf : ∀ c : Counters, f c.unworked = f c) : f t.counters = f s.counters := by rw [← hf t.counters, h.counters, hf]

theorem Onward.steady {s t : State} (h : Onward s t) : t.counters.steady = s.counters.steady :=
  congrArg (fun c : Counters => { c with packetsDropped := 0 }) h.counters

theorem onward_finish (s : State) : Onward s (finish s) :=
  ⟨finish_keeps (fun u : State => u.unsent.outside) (fun _ => rfl) s, finish_counters s, fun hP hs => hP.finish hs,
    Undisturbed.finish⟩

/-- What changes side packets alone is a way onward. -/
theorem Onward.of_unsent {s t : State} (h : t.unsent = s.unsent) (hP : ∀ {P : State → Prop}, SideKept P → P s → P t)
    (hu : ∀ {b : State}, Undisturbed b s → Undisturbed b t) : Onward s t :=
  ⟨congrArg State.outside h, show t.unsent.counters.unworked = s.unsent.counters.unworked by rw [h], hP, hu⟩

theorem onward_leaveAll (s : State) : Onward s (leaveAll s) :=
  .of_unsent (unsent_leaveAll s) (fun hP => hP.leaveAll) Undisturbed.leaveAll

theorem onward_drainRoom (s : State) : Onward s (drainRoom s) :=
  .of_unsent (unsent_drainRoom s) (fun hP => hP.drainRoom) Undisturbed.drainRoom

theorem onward_pulse {c : BitVec 16} (hc : c &&& ~~~frameConds = 0#16) (s : State) : Onward s (pulse c s) where
  outside := congrArg (fun u : State => u.unsent) (outside_hand (riseAndFall c) s)
  counters := hand_counters _ s
  sides hP hs := hP.lasts.hand hs _
  undisturbed h := h.hand fun d hd => by
    simp only [riseAndFall, List.mem_cons, List.not_mem_nil, or_false] at hd
    rcases hd with rfl | rfl <;> exact hc

end Sys2Proof.Machine

/-! PROOF. The rows of a frame: what one row sent changes, and what a run of rows sends, row by row. -/

namespace Sys2Proof.Machine

/-! ### A run of rows -/

/-- `s` with everything erased that sending rows may change. -/
def State.unrowed (s : State) : State :=
  { s.unsent with
    frame := { s.frame with trailer := none, record := none }
    counters := { s.counters with ringMisses := 0 } }

/-- A counter raised `n` times. -/
def raised (c n : Nat) : Nat := if n = 0 then c else satAdd c n

theorem raised_raised (c m n : Nat) : raised (raised c m) n = raised c (m + n) := by
  unfold raised satAdd; split_ifs <;> omega

/-- Of the indices from `j` on, `n` of them, those that satisfy `p`, counted. -/
def countFrom (p : Nat → Bool) (j n : Nat) : Nat := ((List.range n).filter fun k => p (j + k)).length

theorem countFrom_succ (p : Nat → Bool) (j n : Nat) :
    countFrom p j (n + 1) = (if p j then 1 else 0) + countFrom p (j + 1) n := by
  unfold countFrom
  rw [List.range_succ_eq_map, List.filter_cons, List.filter_map, Nat.add_zero]
  have hs : ((fun k => p (j + k)) ∘ Nat.succ) = fun k => p (j + 1 + k) := by
    funext k; simp only [Function.comp, Nat.succ_eq_add_one, Nat.add_right_comm, Nat.add_assoc]
  rw [hs]
  split
  · rw [List.length_cons, List.length_map, Nat.add_comm]
  · rw [List.length_map, Nat.zero_add]

/-- From `s`, whose frame record is `r`, the rows `rows` have left, `misses` of them cut from another line than their own; of
the rest, side packets alone have left. -/
structure RowsSent (r : FrameRec) (rows : List (List Nat)) (misses : Nat) (s t : State) : Prop where
  rest : t.unrowed = s.unrowed
  record : t.frame.record = some { r with rows := r.rows + rows.length, lastRow := rows.getLast?.or r.lastRow }
  left : rowsOf t.captureOut = rowsOf s.captureOut ++ rows.map .row
  misses : t.counters.ringMisses = raised s.counters.ringMisses misses
  undisturbed : ∀ {b : State}, Undisturbed b s → Undisturbed b t
  reports : t.link.reports.length ≤ s.link.reports.length

section
variable {r : FrameRec} {s t u : State}

theorem RowsSent.nil (h : s.frame.record = some r) : RowsSent r [] 0 s s :=
  ⟨rfl, h, (List.append_nil _).symm, rfl, fun h => h, le_rfl⟩

/-- A row sent, and then a run of rows. -/
theorem RowsSent.cons {px : List Nat} {rows : List (List Nat)} {m n : Nat} (h : RowsSent r [px] m s t)
    (k : RowsSent { r with rows := r.rows + 1, lastRow := some px } rows n t u) :
    RowsSent r (px :: rows) (m + n) s u where
  rest := k.rest.trans h.rest
  record := by
    have hl : rows.getLast?.or (some px) = (px :: rows).getLast?.or r.lastRow := by
      rw [List.getLast?_cons]; cases rows.getLast? <;> rfl
    rw [k.record]; dsimp only; rw [hl, List.length_cons, Nat.add_assoc, Nat.add_comm 1]
  left := by rw [k.left, h.left, List.append_assoc]; rfl
  misses := by rw [k.misses, h.misses, raised_raised]
  undisturbed hb := k.undisturbed (h.undisturbed hb)
  reports := k.reports.trans h.reports

/-- A slot after a run of rows. -/
theorem RowsSent.slot {rows : List (List Nat)} {m : Nat} (h : RowsSent r rows m s t) : RowsSent r rows m s (fillSlot t) where
  rest := (congrArg State.unrowed (unsent_fillSlot t)).trans h.rest
  record := (congrArg (fun v : State => v.frame.record) (unsent_fillSlot t)).trans h.record
  left := (sideKept_rowsLeft _).slot h.left
  misses := (congrArg (fun v : State => v.counters.ringMisses) (unsent_fillSlot t)).trans h.misses
  undisturbed hb := (h.undisturbed hb).fillSlot
  reports := (Leaves.fillSlot t).reports.trans h.reports

theorem RowsSent.slotAfter {g : Geometry} {rows : List (List Nat)} {m : Nat} (h : RowsSent r rows m s t) (q : FrameRec) :
    RowsSent r rows m s (slotAfter g q t) := by
  unfold Machine.slotAfter; split
  · exact h.slot
  · exact h

/-- The room before a frame's first row drained. -/
def rowRoom (r : FrameRec) (s : State) : State := if r.rows = 0 then drainRoom s else s

theorem unsent_rowRoom (r : FrameRec) (s : State) : (rowRoom r s).unsent = s.unsent := by
  unfold rowRoom; split
  · exact unsent_drainRoom s
  · rfl

theorem onward_rowRoom (r : FrameRec) (s : State) : Onward s (rowRoom r s) := by
  unfold rowRoom; split
  · exact onward_drainRoom s
  · exact .refl s

theorem rowRoom_reports (r : FrameRec) (s : State) : (rowRoom r s).link.reports.length ≤ s.link.reports.length := by
  unfold rowRoom; split
  · exact (Leaves.drainRoom s).reports
  · exact le_rfl

/-- One row sent. -/
theorem rowsSent_sendRow (h : s.frame.record = some r) (px : List Nat) : RowsSent r [px] 0 s (sendRow r px s) where
  rest := show (rowRoom r s).unsent.unrowed = s.unsent.unrowed from congrArg State.unrowed (unsent_rowRoom r s)
  record := by
    have hr : (rowRoom r s).frame.record = some r :=
      (congrArg (fun v : State => v.frame.record) (unsent_rowRoom r s)).trans h
    show (rowRoom r s).frame.record.map _ = _
    rw [hr]; rfl
  left := by
    have hl : rowsOf (rowRoom r s).captureOut = rowsOf s.captureOut :=
      (onward_rowRoom r s).sides (sideKept_rowsLeft _) rfl
    show rowsOf ((rowRoom r s).captureOut ++ [.row px]) = _
    rw [rowsOf_append, hl]; rfl
  misses := show (rowRoom r s).unsent.counters.ringMisses = s.unsent.counters.ringMisses by rw [unsent_rowRoom]
  undisturbed hb := Undisturbed.congr (s := rowRoom r s) ((onward_rowRoom r s).undisturbed hb) rfl rfl rfl rfl
  reports := rowRoom_reports r s

/-- One row sent whose source line had left the ring, counted (R55). -/
theorem rowsSent_counted {b : Bool} (h : s.frame.record = some r) (px : List Nat) :
    RowsSent r [px] (if b then 1 else 0) s
      (sendRow r px (if b then s.mapCounters fun c => { c with ringMisses := satAdd c.ringMisses 1 } else s)) := by
  cases b with
  | false => exact rowsSent_sendRow h px
  | true =>
    obtain ⟨h1, h2, h3, h4, h5, h6⟩ :=
      rowsSent_sendRow (s := s.mapCounters fun c => { c with ringMisses := satAdd c.ringMisses 1 }) h px
    exact ⟨h1, h2, h3, h4, fun hb => h5 (hb.congr rfl rfl rfl rfl), h6⟩

end

/-! ### Rows cut from their source lines (R54, R55) -/

/-- The pixels of row `j`, cut from its source line or the oldest line in the ring. -/
def cutAt (g : Geometry) (r : FrameRec) (ring : List RingEntry) (j : Nat) : List Nat :=
  cutRow g (r.bandOf j) (ringLine ring (sourceLine g j (r.bandOf j))).1

/-- The source line of row `j` has left the ring. -/
def missAt (g : Geometry) (r : FrameRec) (ring : List RingEntry) (j : Nat) : Bool :=
  (ringLine ring (sourceLine g j (r.bandOf j))).2

/-- The band of row `j` is decided and its source line taken. -/
def dueAt (g : Geometry) (r : FrameRec) (j : Nat) : Bool :=
  (r.bandOf j).decided && decide (sourceLine g j (r.bandOf j) < r.lines)

theorem ringLine_eq (ring : List RingEntry) (line : Nat) : ringLine ring line =
    ((((ring.find? fun e => e.line = line).or ring.head?).map RingEntry.pixels).getD [],
      (ring.find? fun e => e.line = line).isNone) := by
  unfold ringLine; cases ring.find? fun e => e.line = line <;> rfl

theorem RowsSent.ring {r : FrameRec} {rows : List (List Nat)} {m : Nat} {s t : State} (h : RowsSent r rows m s t) :
    t.frame.ring = s.frame.ring :=
  show t.unrowed.frame.ring = s.unrowed.frame.ring by rw [h.rest]

section
variable {g : Geometry} {ring : List RingEntry}

/-- Releasing rows below the last one of the frame: they leave one after the other while they are releasable, and with the
last one the trailer is built (R54, R56). -/
theorem releaseRows_sent {n : Nat} {s : State} {r : FrameRec} (hr : s.frame.record = some r) (hg : s.frame.ring = ring)
    (hlt : r.rows < g.hOut) (hn : g.hOut ≤ r.rows + n) :
    ∃ rows u, RowsSent r rows (countFrom (missAt g r ring) r.rows rows.length) s u ∧ r.rows + rows.length ≤ g.hOut ∧
      (∀ k < rows.length, dueAt g r (r.rows + k) = true ∧ rows[k]? = some (cutAt g r ring (r.rows + k))) ∧
      (r.rows + rows.length < g.hOut → dueAt g r (r.rows + rows.length) = false ∧ releaseRows g n s = u) ∧
      (r.rows + rows.length = g.hOut → releaseRows g n s = buildTrailer u) := by
  induction n generalizing s r with
  | zero => omega
  | succ n ih =>
    by_cases hd : dueAt g r r.rows = true
    · have hs : releaseRows g (n + 1) s =
          if r.rows + 1 < g.hOut then
            releaseRows g n (fillSlot (sendRow r (cutNext g r s).1 (cutNext g r s).2))
          else buildTrailer (sendRow r (cutNext g r s).1 (cutNext g r s).2) := by
        rw [releaseRows, hr]; exact if_pos ⟨hlt, hd⟩
      have h1 : RowsSent r [cutAt g r ring r.rows] (if missAt g r ring r.rows then 1 else 0) s
          (sendRow r (cutNext g r s).1 (cutNext g r s).2) := by
        rw [← hg]; exact rowsSent_counted hr _
      by_cases hl : r.rows + 1 < g.hOut
      · rw [if_pos hl] at hs
        have h2 := h1.slot
        obtain ⟨rows, u, hu, hle, hrows, hlast, hall⟩ :=
          ih (r := { r with rows := r.rows + 1, lastRow := some (cutAt g r ring r.rows) }) h2.record (h2.ring.trans hg) hl
            (by show g.hOut ≤ r.rows + 1 + n; omega)
        have hk : r.rows + (cutAt g r ring r.rows :: rows).length = r.rows + 1 + rows.length := by
          rw [List.length_cons]; omega
        refine ⟨cutAt g r ring r.rows :: rows, u, ?_, ?_, fun k hk => ?_, ?_, ?_⟩
        · rw [List.length_cons, countFrom_succ]; exact h2.cons hu
        · rw [hk]; exact hle
        · cases k with
          | zero => exact ⟨hd, rfl⟩
          | succ k =>
            have := hrows k (Nat.lt_of_succ_lt_succ hk)
            rw [Nat.add_comm k 1, ← Nat.add_assoc, Nat.add_comm 1 k]
            exact this
        · rw [hk, hs]; exact hlast
        · rw [hk, hs]; exact hall
      · rw [if_neg hl] at hs
        refine ⟨[cutAt g r ring r.rows], _, ?_, hlt, fun k hk => ?_, fun h => absurd h hl, fun _ => hs⟩
        · rw [List.length_singleton, countFrom_succ]; exact h1
        · obtain rfl : k = 0 := by simpa using hk
          exact ⟨hd, rfl⟩
    · refine ⟨[], s, .nil hr, hlt.le, by simp, fun _ => ⟨by simpa using hd, ?_⟩, fun h => absurd h hlt.ne⟩
      rw [releaseRows, hr]; exact if_neg fun h => hd h.2

/-- The rows not yet sent of a frame that ends short: each cut from its source line where it is due, and otherwise a copy of
the row before it, or of zeros (R57). -/
theorem finishRows_sent {n : Nat} {s : State} {r : FrameRec} (hr : s.frame.record = some r) (hg : s.frame.ring = ring)
    (hn : g.hOut ≤ r.rows + n) :
    ∃ rows u, RowsSent r rows (countFrom (fun j => dueAt g r j && missAt g r ring j) r.rows rows.length) s u ∧
      rows.length = g.hOut - r.rows ∧
      (∀ k < rows.length, (dueAt g r (r.rows + k) = true → rows[k]? = some (cutAt g r ring (r.rows + k))) ∧
        (dueAt g r (r.rows + k) = false → rows[k]? =
          if k = 0 then some (r.lastRow.getD (List.replicate g.wOut 0)) else rows[k - 1]?)) ∧
      finishRows g n s = u := by
  induction n generalizing s r with
  | zero => exact ⟨[], s, .nil hr, by simp; omega, by simp, rfl⟩
  | succ n ih =>
    by_cases hlt : r.rows < g.hOut
    · obtain ⟨px, v, hs, h1, hcut, hcopy⟩ : ∃ px v, finishRows g (n + 1) s = finishRows g n (slotAfter g r v) ∧
          RowsSent r [px] (if dueAt g r r.rows && missAt g r ring r.rows then 1 else 0) s v ∧
          (dueAt g r r.rows = true → px = cutAt g r ring r.rows) ∧
          (dueAt g r r.rows = false → px = r.lastRow.getD (List.replicate g.wOut 0)) := by
        cases hd : dueAt g r r.rows with
        | true =>
          refine ⟨cutAt g r ring r.rows, sendRow r (cutNext g r s).1 (cutNext g r s).2, ?_, ?_, fun _ => rfl, nofun⟩
          · rw [finishRows, hr]
            refine (if_pos hlt).trans ?_
            rw [show releasable g r = true from hd]; rfl
          · rw [← hg]; exact rowsSent_counted hr _
        | false =>
          refine ⟨_, sendRow r (r.lastRow.getD (List.replicate g.wOut 0)) s, ?_, rowsSent_sendRow hr _, nofun, fun _ => rfl⟩
          rw [finishRows, hr]
          refine (if_pos hlt).trans ?_
          rw [show releasable g r = false from hd]; rfl
      have h2 := h1.slotAfter (g := g) r
      obtain ⟨rows, u, hu, hle, hrows, hfin⟩ :=
        ih (r := { r with rows := r.rows + 1, lastRow := some px }) h2.record (h2.ring.trans hg)
          (by show g.hOut ≤ r.rows + 1 + n; omega)
      refine ⟨px :: rows, u, ?_, ?_, fun k hk => ?_, hs.trans hfin⟩
      · rw [List.length_cons, countFrom_succ]; exact h2.cons hu
      · rw [List.length_cons, hle]; show g.hOut - (r.rows + 1) + 1 = _; omega
      · cases k with
        | zero => exact ⟨fun h => congrArg some (hcut h), fun h => congrArg some (hcopy h)⟩
        | succ k =>
          have := hrows k (Nat.lt_of_succ_lt_succ hk)
          rw [Nat.add_comm k 1, ← Nat.add_assoc, Nat.add_comm 1 k]
          refine ⟨this.1, fun hd => (this.2 hd).trans ?_⟩
          cases k <;> rfl
    · refine ⟨[], s, .nil hr, by simp; omega, by simp, ?_⟩
      rw [finishRows, hr]; exact if_neg hlt

end

end Sys2Proof.Machine

/-! PROOF. The content of a frame's trailer handed to Record Intake, and what the building of the trailer changes. -/

namespace Sys2Proof.Machine

/-! ### Flags of records and due work -/

section
variable (F : Clip → ClipFlags) (s : State)

/-- Record `c` with the flags that `F` gives it. -/
def reflag (c : Clip) : Clip := { c with flags := F c }

/-- `s` with the flags that `F` gives its records. -/
def reflagged : State := s.mapStore fun st => { st with index := st.index.map (reflag F) }

theorem find_reflagged (n : Nat) : (reflagged F s).store.find n = (s.store.find n).map (reflag F) := List.find?_map ..

theorem headClip_reflagged : headClip (reflagged F s) = (headClip s).map (reflag F) := by
  unfold headClip
  rw [show (reflagged F s).intake = s.intake from rfl]
  cases s.intake.buffer.head? with
  | none => rfl
  | some b => exact find_reflagged F s b.clip

theorem finalDue_reflagged : finalDue (reflagged F s) = (finalDue s).map (reflag F) := List.find?_map ..

theorem openClip_reflagged : (reflagged F s).store.openClip = s.store.openClip.map (reflag F) := List.find?_map ..

theorem burstWanted_reflagged (c : Clip) : burstWanted (reflag F c) (reflagged F s) = burstWanted c s := rfl

theorem closeWork_reflagged : closeWork (reflagged F s) = closeWork s := by
  have he : emptyClosing (reflagged F s) = emptyClosing s := by
    show ((s.store.index.map (reflag F)).filter _).map Clip.number = _
    rw [List.filter_map, List.map_map]; rfl
  have hs : (reflagged F s).store.settled = s.store.settled := List.all_map ..
  unfold closeWork; rw [he, hs]; rfl

theorem allocationDue_reflagged : allocationDue (reflagged F s) = (allocationDue s).map (reflag F) := by
  unfold allocationDue
  rw [finalDue_reflagged, headClip_reflagged, Option.isSome_map, show writerFree (reflagged F s) = writerFree s from rfl,
    show (reflagged F s).store.retry = s.store.retry from rfl]
  split
  · rfl
  · cases headClip s with
    | none => rfl
    | some c =>
      show (if (c.live && (c.phase = .none || c.phase = .full || c.phase = .weak) && burstWanted c s : Bool) then
        some (reflag F c) else none) = _
      rw [apply_ite (Option.map (reflag F))]; rfl

theorem phaseWrite_reflagged (c : Clip) :
    (phaseWrite (reflag F c) (reflagged F s)).map WWrite.isBurst = (phaseWrite c s).map WWrite.isBurst := by
  unfold phaseWrite
  rw [show (reflag F c).lastExtent = c.lastExtent from rfl, show (reflag F c).phase = c.phase from rfl]
  cases c.lastExtent with
  | none => rfl
  | some e =>
    cases c.phase <;> rfl

theorem chain_reflagged (n : Nat) (i : Option Nat) : (reflagged F s).store.chain n i = s.store.chain n i := by
  induction n generalizing i with
  | zero => rfl
  | succ n ih =>
    cases i with
    | none => rfl
    | some i => exact congrArg (List.cons i) (ih _)

theorem lastWritten_reflagged (c : Clip) : (reflagged F s).store.lastWritten (reflag F c) = s.store.lastWritten c :=
  congrArg (findLast fun i => decide (0 < s.store.dataOf i)) (chain_reflagged F s c.extentCount c.firstExtent)

theorem dueWrite_reflagged : (dueWrite (reflagged F s)).map WWrite.isBurst = (dueWrite s).map WWrite.isBurst := by
  unfold dueWrite
  rw [finalDue_reflagged, headClip_reflagged, openClip_reflagged,
    show writerFree (reflagged F s) = writerFree s from rfl, show (reflagged F s).store.retry = s.store.retry from rfl]
  split
  · rfl
  · cases s.store.retry with
    | some w => rfl
    | none =>
      cases finalDue s with
      | some c =>
        show (endingWrite (reflag F c) (reflagged F s)).map _ = (endingWrite c s).map _
        unfold endingWrite
        rw [show (reflag F c).phase = c.phase from rfl]
        split
        · exact phaseWrite_reflagged F s c
        · rw [lastWritten_reflagged]; rfl
      | none =>
        cases headClip s with
        | some c => exact phaseWrite_reflagged F s c
        | none =>
          cases s.store.openClip with
          | none => rfl
          | some c => exact phaseWrite_reflagged F s c

theorem writerClass_reflagged : writerClass (reflagged F s) = writerClass s := by
  have hd := dueWrite_reflagged F s
  unfold writerClass
  rw [headClip_reflagged, Option.any_map]
  cases ht : dueWrite (reflagged F s) <;> cases hs : dueWrite s <;> simp [ht, hs] at hd ⊢
  rw [hd]; rfl

/-- The flags of the records give the store and the card no work. -/
theorem pumpStep_reflagged : pumpStep (reflagged F s) = none ↔ pumpStep s = none := by
  have hc : claimClasses (reflagged F s) = claimClasses s := by
    unfold claimClasses; rw [writerClass_reflagged]; rfl
  rw [pumpStep_eq_none_iff, pumpStep_eq_none_iff, closeWork_reflagged, allocationDue_reflagged, Option.map_eq_none_iff, hc]
  rfl

end
/-! ### The MOTION packet (R59, R69, R70) -/

/-- The bytes of the stored packet of trailer `tr`. -/
def motionStored (tr : Trailer) (r : IntakeRec) : Bytes :=
  storedHeader .motion 0#8 tr.body.length (r.lastPts.getD 0) ++ tr.body

section
variable {tr : Trailer} {s : State}

/-- With no clip OPEN, or before its first sync, nothing is made of the trailer. -/
theorem motionPacket_unmade (h : s.store.openClip = none ∨ ∃ r, s.intake.record = some r ∧ r.syncMet = false) :
    motionPacket tr s = s := by
  unfold motionPacket
  obtain h | ⟨r, hr, hs⟩ := h
  · rw [h]
  · rw [hr]
    cases s.store.openClip with
    | none => rfl
    | some c => dsimp only; rw [hs]; rfl

variable {c : Clip} {r : IntakeRec}

theorem motionPacket_made (hc : s.store.openClip = some c) (hr : s.intake.record = some r) (hs : r.syncMet = true) :
    motionPacket tr s = if s.intake.fits tr.body.length then
      judgeHold (s.mapIntake fun i => i.pack r.clip (motionStored tr r))
    else dropPacket r .motion (r.lastPts.getD 0) s := by
  unfold motionPacket; rw [hc, hr]; dsimp only; rw [if_pos hs]; rfl

/-- What Record Intake makes of a trailer: nothing, a stored packet, or a drop. -/
theorem motionPacket_cases (tr : Trailer) (s : State) :
    motionPacket tr s = s ∨
      (∃ n b, motionPacket tr s = judgeHold (s.mapIntake fun i => i.pack n b)) ∨
      ∃ q pts, motionPacket tr s = dropPacket q .motion pts s := by
  cases hc : s.store.openClip with
  | none => exact .inl (motionPacket_unmade (.inl hc))
  | some c =>
    cases hr : s.intake.record with
    | none => exact .inl (by unfold motionPacket; rw [hc, hr])
    | some r =>
      cases hs : r.syncMet with
      | false => exact .inl (motionPacket_unmade (.inr ⟨r, hr, hs⟩))
      | true =>
        rw [motionPacket_made hc hr hs]
        split
        · exact .inr (.inl ⟨_, _, rfl⟩)
        · exact .inr (.inr ⟨_, _, rfl⟩)

end

@[simp] theorem outside_dropPacket (r : IntakeRec) (st : Stream) (pts : Nat) (s : State) :
    (dropPacket r st pts s).outside = s.outside := by
  unfold dropPacket; dsimp only; split
  · rfl
  · rw [outside_report]; rfl

@[simp] theorem outside_motionPacket (tr : Trailer) (s : State) : (motionPacket tr s).outside = s.outside := by
  obtain h | ⟨n, b, h⟩ | ⟨q, pts, h⟩ := motionPacket_cases tr s
  · rw [h]
  · rw [h, outside_judgeHold]; rfl
  · rw [h, outside_dropPacket]

theorem dropPacket_counters (r : IntakeRec) (st : Stream) (pts : Nat) (s : State) :
    (dropPacket r st pts s).counters = { s.counters with packetsDropped := satAdd s.counters.packetsDropped 1 } := by
  unfold dropPacket; dsimp only; split
  · rfl
  · rw [report_counters]; rfl

theorem motionPacket_steady (tr : Trailer) (s : State) : (motionPacket tr s).counters.steady = s.counters.steady := by
  obtain h | ⟨n, b, h⟩ | ⟨q, pts, h⟩ := motionPacket_cases tr s
  · rw [h]
  · rw [h, judgeHold_counters]; rfl
  · rw [h, dropPacket_counters]; rfl

theorem SideKept.motionPacket {P : State → Prop} (h : SideKept P) {s : State} (hs : P s) (tr : Trailer) :
    P (motionPacket tr s) := by
  obtain he | ⟨n, b, he⟩ | ⟨q, pts, he⟩ := motionPacket_cases tr s
  · rw [he]; exact hs
  · rw [he]; exact h.judgeHold (h.of_eq hs rfl rfl rfl)
  · rw [he]; unfold dropPacket; dsimp only; split
    · exact h.of_eq hs rfl rfl rfl
    · refine h.report ?_ _; exact h.of_eq hs rfl rfl rfl

/-! ### Rest after the MOTION packet -/

/-- Blocks that join the buffer of a clip while a write is in flight give the store and the card no work. -/
theorem pumpStep_packed {s : State} {i : Intake} (h : pumpStep s = none) (hi : s.card.state ≠ .idle)
    (hw : s.card.writing = true) (hb : s.intake.buffer <+: i.buffer) : pumpStep (s.mapIntake fun _ => i) = none := by
  rw [pumpStep_eq_none_iff] at h ⊢
  refine ⟨?_, ?_, ?_, fun hc => hi hc.1⟩
  · obtain ⟨hc, -⟩ := h
    simp only [closeWork, Bool.or_eq_false_iff, Bool.not_eq_false', List.isEmpty_iff] at hc ⊢
    refine ⟨?_, hc.2⟩
    have he := hc.1
    simp only [emptyClosing, List.map_eq_nil_iff, List.filter_eq_nil_iff] at he ⊢
    intro c hm hcl
    refine he c hm ?_
    simp only [Bool.and_eq_true] at hcl ⊢
    refine ⟨hcl.1, ?_⟩
    have hh : i.holds c.number = false := by simpa using hcl.2
    rw [Bool.not_eq_true', Intake.holds, List.any_eq_false]
    exact fun b hbm => (List.any_eq_false.1 hh) b (hb.subset hbm)
  · simp [flushSpent, hw]
  · unfold allocationDue
    rw [if_pos]
    simp [writerFree, hw]

section
variable {b s : State} (h : Undisturbed b s)
include h

theorem Undisturbed.openClip : s.store.openClip = b.store.openClip := by rw [h.store]
theorem Undisturbed.record : s.intake.record = b.intake.record := by rw [h.intake]
theorem Undisturbed.fits (m : Nat) : s.intake.fits m = b.intake.fits m := by rw [h.intake]; rfl
theorem Undisturbed.writing : s.card.writing = b.card.writing := by rw [h.card]; rfl
theorem Undisturbed.cardState : s.card.state = b.card.state := by rw [h.card]

/-- A packet is packed while a write is in flight. -/
theorem Undisturbed.pack {n : Nat} {bytes : Bytes} (hi : b.card.state ≠ .idle) (hw : b.card.writing = true) :
    Undisturbed (b.mapIntake fun i => { i with buffer := (i.pack n bytes).buffer, packing := (i.pack n bytes).packing })
      (Machine.judgeHold (s.mapIntake fun i => i.pack n bytes)) := by
  refine Undisturbed.judgeHold ⟨h.store, ?_, h.card, ?_, h.quiet, h.waits⟩
  · show s.intake.pack n bytes = _
    rw [h.intake]; rfl
  · exact pumpStep_packed h.rest (by rw [h.cardState]; exact hi) (by rw [h.writing]; exact hw) (List.prefix_append _ _)

theorem Undisturbed.reflag (F : Clip → ClipFlags) : Undisturbed (reflagged F b) (reflagged F s) where
  store := congrArg (fun st : Store => { st with index := st.index.map (Machine.reflag F) }) h.store
  intake := h.intake
  card := h.card
  rest := (pumpStep_reflagged F s).2 h.rest
  quiet := h.quiet
  waits := h.waits

theorem Undisturbed.mapRecord (f : IntakeRec → IntakeRec) : Undisturbed (updateIntake f b) (updateIntake f s) where
  store := h.store
  intake := by
    have hi := congrArg (fun i : Intake => { i with record := i.record.map f }) h.intake
    exact hi
  card := h.card
  rest := by
    have hr := h.rest
    rw [pumpStep_eq_none_iff] at hr ⊢; exact hr
  quiet := h.quiet
  waits := h.waits

end

/-- GAP on the records of clip `n`. -/
def gapOn (n : Nat) (c : Clip) : ClipFlags := if c.number = n then { c.flags with gap := true } else c.flags

theorem reflag_gapOn (n : Nat) :
    reflag (gapOn n) = fun c => if c.number = n then { c with flags := { c.flags with gap := true } } else c := by
  funext c; unfold reflag gapOn; split <;> rfl

/-- The first drop is marked in the intake record. -/
def dropMarked (r : IntakeRec) : IntakeRec := { r with dropReported := true }

theorem dropPacket_eq (r : IntakeRec) (st : Stream) (pts : Nat) (s : State) :
    dropPacket r st pts s =
      let u := reflagged (gapOn r.clip) (s.mapCounters fun c => { c with packetsDropped := satAdd c.packetsDropped 1 })
      if r.dropReported then u else report (.bufferDrop r.clip st pts) (updateIntake dropMarked u) := by
  unfold reflagged; rw [reflag_gapOn]; rfl

/-- A dropped packet leaves GAP on its clip and the mark of the drop in the intake record. -/
theorem Undisturbed.dropPacket {b s : State} (h : Undisturbed b s) {r : IntakeRec} (hr : b.intake.record = some r)
    (st : Stream) (pts : Nat) :
    Undisturbed (updateIntake dropMarked (reflagged (gapOn r.clip) b)) (dropPacket r st pts s) := by
  have hc : Undisturbed b (s.mapCounters fun c => { c with packetsDropped := satAdd c.packetsDropped 1 }) :=
    h.congr rfl rfl rfl rfl
  have hg := hc.reflag (gapOn r.clip)
  rw [dropPacket_eq]
  dsimp only
  split
  · next hd =>
    have he : updateIntake dropMarked (reflagged (gapOn r.clip) b) = reflagged (gapOn r.clip) b := by
      have hm : dropMarked r = r := by unfold dropMarked; rw [← hd]
      have hi : { b.intake with record := b.intake.record.map dropMarked } = b.intake := by rw [hr, Option.map_some, hm, ← hr]
      show { reflagged (gapOn r.clip) b with intake := { b.intake with record := b.intake.record.map dropMarked } } = _
      rw [hi]; rfl
    rw [he]; exact hg
  · exact (hg.mapRecord dropMarked).report _

/-! ### The MOTION packet handed over -/

/-- A part that `u` has reached from `b` undisturbed hands the trailer over, and `t` follows with the outcome undisturbed:
what Record Intake has made of it by `t` is what R59 and R70 say. -/
theorem motionHanded_of {tr : Trailer} {b u t : State} (hb : Undisturbed b u)
    (hq : u.link.reports.length ≤ b.link.reports.length) (hd : u.counters.packetsDropped = b.counters.packetsDropped)
    (hm : t.counters.packetsDropped = (motionPacket tr u).counters.packetsDropped) (ht : t.partTime = u.partTime)
    (hu : ∀ {v : State}, Undisturbed v (motionPacket tr u) → Undisturbed v t)
    (hc : ∀ {r : Report}, Came r (motionPacket tr u) → Came r t) : MotionHanded tr b t := by
  refine ⟨fun h => ?_, fun c r hoc hr hcn hs => ⟨fun hf hi hw => ?_, fun hf => ?_⟩⟩
  · rw [← hb.openClip, ← hb.record] at h
    rw [motionPacket_unmade h] at hm hu
    have hbt := hu hb
    exact ⟨hbt.intake, hbt.store, hm.trans hd⟩
  · rw [motionPacket_made (hb.openClip.trans hoc) (hb.record.trans hr) hs, if_pos ((hb.fits _).trans hf)] at hm hu
    have hbt := hu (hb.pack hi hw)
    refine ⟨?_, hbt.store, ?_⟩
    · rw [← hcn]; exact hbt.intake
    · rw [hm, judgeHold_counters]; exact hd
  · have hf' : ¬u.intake.fits tr.body.length = true := by rw [hb.fits, hf]; nofun
    rw [motionPacket_made (hb.openClip.trans hoc) (hb.record.trans hr) hs, if_neg hf'] at hm hu hc
    have hbt := hu (hb.dropPacket hr .motion _)
    refine ⟨?_, ?_, ?_, fun hn hl => ?_⟩
    · have hi := hbt.intake
      rw [show (updateIntake dropMarked (reflagged (gapOn r.clip) b)).intake =
        { b.intake with record := some { r with dropReported := true } } by
          show { b.intake with record := b.intake.record.map dropMarked } = _
          rw [hr]; rfl] at hi
      exact hi
    · rw [← hcn, hbt.store]
      show { b.store with index := b.store.index.map (reflag (gapOn r.clip)) } = _
      rw [reflag_gapOn]
    · rw [hm, dropPacket_counters]; exact congrArg (fun n => satAdd n 1) hd
    · have hcame : Came ⟨t.partTime, .bufferDrop c.number .motion (r.lastPts.getD 0)⟩ t := hc (by
        rw [dropPacket_eq, hn, ht, ← hcn]
        exact came_report (s := updateIntake dropMarked _) (Nat.lt_of_le_of_lt hq hl))
      exact hcame

/-! ### The trailer built (R56, R58, R59) -/

/-- The trailer of record `r` is pending, and its content handed to Record Intake. -/
def handedOver (r : FrameRec) (s : State) : State :=
  motionPacket r.trailer (s.mapFrame fun f => { f with trailer := some r.trailer })

theorem buildTrailer_eq {s : State} {r : FrameRec} (h : s.frame.record = some r) : buildTrailer s =
    let m := handedOver r s
    let p := if r.bands.any BandRec.clamped then pulse condFrameClamped m else m
    leaveAll ((p.mapCounters fun c => { c with framesOut := satAdd c.framesOut 1 }).mapFrame fun f =>
      { f with state := .complete }) := by
  unfold buildTrailer; rw [h]; rfl

/-- From `s`, whose frame has the record `r`, the frame's trailer has been built by `t`. -/
structure TrailerBuilt (r : FrameRec) (s t : State) : Prop where
  outside : t.unsent.outside = (s.mapFrame fun f => { f with state := .complete }).unsent.outside
  counters : t.counters.steady = { s.counters with framesOut := satAdd s.counters.framesOut 1 }.steady
  dropped : t.counters.packetsDropped = (handedOver r s).counters.packetsDropped
  sides : ∀ {P : State → Prop}, SideKept P → P (handedOver r s) → P t
  undisturbed : ∀ {b : State}, Undisturbed b (handedOver r s) → Undisturbed b t

theorem trailerBuilt {s : State} {r : FrameRec} (h : s.frame.record = some r) : TrailerBuilt r s (buildTrailer s) := by
  rw [buildTrailer_eq h]
  dsimp only
  have hmp : Onward (handedOver r s)
      (if r.bands.any BandRec.clamped then pulse condFrameClamped (handedOver r s) else handedOver r s) := by
    split
    · exact onward_pulse (by decide) _
    · exact .refl _
  generalize (if r.bands.any BandRec.clamped then pulse condFrameClamped (handedOver r s) else handedOver r s) = p at hmp ⊢
  have hl := onward_leaveAll ((p.mapCounters fun c => { c with framesOut := satAdd c.framesOut 1 }).mapFrame fun f =>
      { f with state := .complete })
  have hps : p.counters.steady = s.counters.steady :=
    hmp.steady.trans (motionPacket_steady _ _)
  have hpo : p.unsent.outside = s.unsent.outside :=
    hmp.outside.trans (congrArg (fun u : State => u.unsent) (outside_motionPacket _ _))
  refine ⟨?_, ?_, ?_, fun hP hPm => ?_, fun hb => ?_⟩
  · exact hl.outside.trans (congrArg (State.mapFrame fun f => { f with state := .complete }) hpo)
  · exact hl.steady.trans
      (congrArg (fun c : Counters => { c with framesOut := satAdd c.framesOut 1 }) hps)
  · exact (hl.counter Counters.packetsDropped fun _ => rfl).trans (hmp.counter Counters.packetsDropped fun _ => rfl)
  · exact hl.sides hP (hP.of_eq (hmp.sides hP hPm) rfl rfl rfl)
  · exact hl.undisturbed ((hmp.undisturbed hb).congr rfl rfl rfl rfl)

section
variable {r : FrameRec} {s t : State} (h : TrailerBuilt r s t)
include h

theorem TrailerBuilt.keeps {α : Type} (f : State → α) (hf : ∀ s : State, f s.unsent.outside = f s) :
    f t = f (s.mapFrame fun k => { k with state := .complete }) := by rw [← hf t, h.outside, hf]

theorem TrailerBuilt.counter {α : Type} (f : Counters → α) (hf : ∀ c : Counters, f c.steady = f c) :
    f t.counters = f { s.counters with framesOut := satAdd s.counters.framesOut 1 } := by
  rw [← hf t.counters, h.counters, hf]

theorem TrailerBuilt.record : t.frame.record = s.frame.record := h.keeps (fun u => u.frame.record) fun _ => rfl
theorem TrailerBuilt.ring : t.frame.ring = s.frame.ring := h.keeps (fun u => u.frame.ring) fun _ => rfl
theorem TrailerBuilt.state : t.frame.state = .complete := h.keeps (fun u => u.frame.state) fun _ => rfl

/-- The trailer leaves behind the rows, or is pending behind them. -/
theorem TrailerBuilt.trailed {rows : List CaptureItem} (hr : RowsLeft rows s) : Trailed rows r.trailer t := by
  have hp : Trailed rows r.trailer (s.mapFrame fun f => { f with trailer := some r.trailer }) := .inl ⟨rfl, hr⟩
  exact h.sides (sideKept_trailed _ _) ((sideKept_trailed _ _).motionPacket hp _)

/-- What Record Intake has made of the trailer by a state that follows undisturbed. -/
theorem TrailerBuilt.motionHanded {b u : State} (hb : Undisturbed b s)
    (hq : s.link.reports.length ≤ b.link.reports.length) (hd : s.counters.packetsDropped = b.counters.packetsDropped)
    (hp : u.partTime = s.partTime) (hdu : u.counters.packetsDropped = t.counters.packetsDropped)
    (hs : ∀ {P : State → Prop}, SideKept P → P t → P u) (hu : ∀ {v : State}, Undisturbed v t → Undisturbed v u) :
    MotionHanded r.trailer b u :=
  motionHanded_of (u := s.mapFrame fun f => { f with trailer := some r.trailer }) (hb.congr rfl rfl rfl rfl) hq hd
    (hdu.trans h.dropped) hp (fun hv => hu (h.undisturbed hv))
    fun hc => hs (sideKept_came _) (h.sides (sideKept_came _) hc)

end

/-- A trailer that is no longer pending has left behind the rows. -/
theorem Trailed.left {rows : List CaptureItem} {tr : Trailer} {s : State} (h : Trailed rows tr s)
    (ht : s.frame.trailer = none) :
    ∃ before rest, rowsOf before = rows ∧ rowsOf rest = [] ∧ s.captureOut = before ++ .packet tr.encode :: rest := by
  obtain ⟨h, -⟩ | h := h
  · rw [ht] at h; cases h
  · exact h

end Sys2Proof.Machine

/-! PROOF. A line of the sensor: brought to width, entered into the ring, deciding a band, and the rows it releases. -/

namespace Sys2Proof.Machine

/-! ### A line brought to width (R46, R53) -/

theorem fitLine_length (w : Nat) (px : List Nat) : (fitLine w px).length = w := by
  unfold fitLine; rw [List.length_append, List.length_take, List.length_replicate]; omega

theorem fitLine_getElem? {w k : Nat} (px : List Nat) (hk : k < w) :
    (fitLine w px)[k]? = if k < px.length then px[k]? else some (px.getLast?.getD 0) := by
  unfold fitLine
  split
  · next h =>
    rw [List.getElem?_append_left (by rw [List.length_take]; omega), List.getElem?_take_of_lt hk]
  · next h =>
    rw [List.getElem?_append_right (by rw [List.length_take]; omega), List.getElem?_replicate_of_lt]
    rw [List.length_take]; omega

/-- The ring entry of the next line of the frame of record `r`. -/
def ringEntry (g : Geometry) (r : FrameRec) (px : List Nat) (time : Nat) : RingEntry := ⟨r.lines, time, fitLine g.wIn px⟩

/-- A line enters the ring and is counted in the record, and as padded where its length differs. -/
theorem enterLine_eq (g : Geometry) (r : FrameRec) (px : List Nat) (s : State) : enterLine g r px s =
    (s.mapCounters fun c =>
      { c with paddedLines := if px.length = g.wIn then c.paddedLines else satAdd c.paddedLines 1 }).mapFrame fun f =>
        { f with ring := pushRing Config.ringSize f.ring (ringEntry g r px s.partTime),
                 record := f.record.map fun r => { r with lines := r.lines + 1 } } := by
  unfold enterLine; split <;> rfl

/-! ### The band decided (R30 to R34, R52) -/

/-- `s` with everything erased that the decision of a band changes. -/
def State.unbanded (s : State) : State :=
  { s with
    frame := { s.frame with record := s.frame.record.map fun r => { r with bands := [] } }
    counters := { s.counters with bandClamps := 0, historyClamps := 0 } }

theorem bandCorrection_unbanded (g : Geometry) (r : FrameRec) (e : LensEntry) (t : Nat) (prev : Option Int) (s : State) :
    (bandCorrection g r e t prev s).2.unbanded = s.unbanded := by
  unfold bandCorrection; split <;> rfl

/-- Line `n` is the decision line of the first undecided band. -/
def Decides (g : Geometry) (r : FrameRec) (n : Nat) : Prop := r.nextBand < r.nb ∧ decisionLine g r r.nextBand = n

/-- The correction of the first undecided band at a line that arrives now, with its counts. -/
def bandNow (g : Geometry) (r : FrameRec) (s : State) : BandRec × State :=
  bandCorrection g r (s.frame.lensPage.getD r.lens ⟨256, 256, 0⟩) s.partTime (r.prevDy r.nextBand) s

section
variable {g : Geometry} {n : Nat} {s : State} {r : FrameRec} (hr : s.frame.record = some r)
include hr

theorem decideBand_decides (h : Decides g r n) : decideBand g n s =
    updateFrame (fun q => { q with bands := q.bands.set r.nextBand (bandNow g r s).1 }) (bandNow g r s).2 := by
  unfold decideBand; rw [hr]; exact if_pos h

theorem decideBand_other (h : ¬Decides g r n) : decideBand g n s = s := by
  unfold decideBand; rw [hr]; exact if_neg h

theorem unbanded_decideBand : (decideBand g n s).unbanded = s.unbanded := by
  by_cases h : Decides g r n
  · rw [decideBand_decides hr h, ← bandCorrection_unbanded g r (s.frame.lensPage.getD r.lens ⟨256, 256, 0⟩) s.partTime
      (r.prevDy r.nextBand) s]
    unfold State.unbanded updateFrame
    simp only [State.mapFrame_frame, Option.map_map]
    rfl
  · rw [decideBand_other hr h]

/-- What a line makes of the bands and of the counters of clamps. -/
theorem decideBand_bands : ∃ bands c,
    (Decides g r n → bands = r.bands.set r.nextBand (bandNow g r s).1 ∧ c = (bandNow g r s).2) ∧
    (¬Decides g r n → bands = r.bands ∧ c = s) ∧
    (decideBand g n s).frame.record = some { r with bands := bands } ∧ (decideBand g n s).counters = c.counters := by
  by_cases h : Decides g r n
  · have hb : (bandNow g r s).2.frame.record = some r := by
      unfold bandNow bandCorrection; split <;> exact hr
    refine ⟨_, _, fun _ => ⟨rfl, rfl⟩, fun hn => absurd h hn, ?_, ?_⟩
    · rw [decideBand_decides hr h]; unfold updateFrame; rw [State.mapFrame_frame, hb]; rfl
    · rw [decideBand_decides hr h]; rfl
  · exact ⟨r.bands, s, fun hd => absurd hd h, fun _ => ⟨rfl, rfl⟩, by rw [decideBand_other hr h, hr],
      by rw [decideBand_other hr h]⟩

end

/-! ### A line taken (R45 to R47, R52 to R54) -/

section
variable {g : Geometry} {r : FrameRec} {s : State} (hg : s.frame.geometry = some g) (hr : s.frame.record = some r)
include hg hr

theorem takeLine_beyond (h : g.hIn ≤ r.lines) (px : List Nat) : takeLine px s = longLine r s := by
  unfold takeLine; rw [hg, hr]; exact if_pos h

theorem takeLine_below (h : r.lines < g.hIn) (px : List Nat) : takeLine px s =
    if s.frame.state = .opened then releaseRows g g.hOut (decideBand g r.lines (enterLine g r px s))
    else enterLine g r px s := by
  unfold takeLine; rw [hg, hr]; exact if_neg (Nat.not_le.2 h)

end

/-- No row is left to release once the last one has been sent. -/
theorem releaseRows_done {g : Geometry} {n : Nat} {s : State} {r : FrameRec} (hr : s.frame.record = some r)
    (h : g.hOut ≤ r.rows) : releaseRows g n s = s := by
  cases n with
  | zero => rfl
  | succ n => rw [releaseRows, hr]; exact if_neg fun hc => absurd hc.1 (Nat.not_lt.2 h)

/-- Releasing rows leaves the ring, the count of padded lines and what the record says of its lines as they are. -/
theorem releaseRows_line {g : Geometry} {s : State} {r : FrameRec} (hr : s.frame.record = some r) :
    ∃ r', (releaseRows g g.hOut s).frame.record = some r' ∧ r'.lines = r.lines ∧ r'.number = r.number ∧
      (releaseRows g g.hOut s).frame.ring = s.frame.ring ∧
      (releaseRows g g.hOut s).counters.paddedLines = s.counters.paddedLines := by
  by_cases hlt : r.rows < g.hOut
  · obtain ⟨rows, u, hu, hle, -, hsome, hall⟩ := releaseRows_sent hr rfl hlt (Nat.le_add_left _ _)
    have hc : u.counters.paddedLines = s.counters.paddedLines :=
      show u.unrowed.counters.paddedLines = s.unrowed.counters.paddedLines by rw [hu.rest]
    by_cases he : r.rows + rows.length = g.hOut
    · have hb := trailerBuilt hu.record
      rw [hall he]
      exact ⟨_, hb.record.trans hu.record, rfl, rfl, hb.ring.trans hu.ring,
        (hb.counter Counters.paddedLines fun _ => rfl).trans hc⟩
    · rw [(hsome (Nat.lt_of_le_of_ne hle he)).2]
      exact ⟨_, hu.record, rfl, rfl, hu.ring, hc⟩
  · rw [releaseRows_done hr (Nat.le_of_not_lt hlt)]
    exact ⟨r, hr, rfl, rfl, rfl, rfl⟩

/-- A line below H_in: what it leaves of the ring, of the count of padded lines and of the record. -/
theorem takeLine_line {g : Geometry} {r : FrameRec} {s : State} (hg : s.frame.geometry = some g)
    (hr : s.frame.record = some r) (h : r.lines < g.hIn) (px : List Nat) :
    ∃ r', (takeLine px s).frame.record = some r' ∧ r'.lines = r.lines + 1 ∧ r'.number = r.number ∧
      (takeLine px s).frame.ring = pushRing Config.ringSize s.frame.ring (ringEntry g r px s.partTime) ∧
      (takeLine px s).counters.paddedLines =
        if px.length = g.wIn then s.counters.paddedLines else satAdd s.counters.paddedLines 1 := by
  have he : (enterLine g r px s).frame.record = some { r with lines := r.lines + 1 } := by
    rw [enterLine_eq, State.mapFrame_frame, State.mapCounters_frame, hr]; rfl
  rw [takeLine_below hg hr h]
  split
  · obtain ⟨bands, c, -, -, hd, -⟩ := decideBand_bands (g := g) (n := r.lines) he
    have hu := unbanded_decideBand (g := g) (n := r.lines) he
    obtain ⟨r', hr', hl, hn, hring, hpad⟩ := releaseRows_line (g := g) hd
    refine ⟨r', hr', hl, hn, hring.trans ?_, hpad.trans ?_⟩
    · refine (congrArg (fun v : State => v.frame.ring) hu).trans ?_
      rw [enterLine_eq]; rfl
    · refine (congrArg (fun v : State => v.counters.paddedLines) hu).trans ?_
      rw [enterLine_eq]; rfl
  · rw [enterLine_eq] at he ⊢
    exact ⟨_, he, rfl, rfl, rfl, rfl⟩

theorem awakeInFrame {s : State} (ha : s.link.awake = true) (hs : s.frame.state = .opened ∨ s.frame.state = .complete) :
    (s.link.awake && (s.frame.state = .opened || s.frame.state = .complete)) = true := by
  rcases hs with hs | hs <;> simp [ha, hs]

/-- Settles O23: a line in IDLE or DISCARD, beyond H_in, and below it. -/
theorem lineIsBroughtToWidth : Obligations.LineIsBroughtToWidth := by
  refine ⟨fun dt px s hp hr hs => ?_, fun dt px g r s hp ha hr hs hg hrec hl => ⟨fun hlong => ?_, fun hlong => ?_⟩,
    fun dt px g r s hp ha hs hg hrec hl => ?_⟩
  · refine (hr.tick dt).act hp (if_neg ?_)
    rcases hs with hs | hs <;> simp [hs]
  · refine (hr.tick dt).act hp ((if_pos (awakeInFrame ha hs)).trans ?_)
    rw [takeLine_beyond (s := s.tick dt) hg hrec hl]
    exact if_pos hlong
  · refine AtRest.act ?_ hp ((if_pos (awakeInFrame ha hs)).trans ?_)
    · refine (hr.tick dt).congr rfl rfl rfl rfl ?_
      unfold State.outbox roomOpen
      dsimp only [State.mapCounters, State.mapFrame, State.tick]
      rw [hrec]; rfl
    · rw [takeLine_beyond (s := s.tick dt) hg hrec hl]
      refine (if_neg (by simp [hlong])).trans ?_
      unfold updateFrame; rw [State.tick, State.mapFrame, hrec]; rfl
  · obtain ⟨r', hr', hlines, hnum, hring, hpad⟩ := takeLine_line (s := s.tick dt) hg hrec hl px
    refine ⟨finish (takeLine px (s.tick dt)), ringEntry g r px (s.partTime + dt), r', ?_, ?_, rfl, rfl, fitLine_length _ _,
      fun k hk => fitLine_getElem? px hk, ?_, ?_, hlines, hnum⟩
    · dsimp only [exec, execSensorLine]
      rw [act_powered hp, if_pos (awakeInFrame (s := s.tick dt) ha hs)]
    · rw [finish_keeps (fun t : State => t.frame.ring) (fun _ => rfl), hring]; rfl
    · exact (congrArg Counters.paddedLines (finish_counters _)).trans hpad
    · rw [finish_keeps (fun t : State => t.frame.record) (fun _ => rfl), hr']

end Sys2Proof.Machine

/-! PROOF. A line decides a band, releases rows and completes the frame. -/

namespace Sys2Proof.Machine

/-! ### The correction at the line's arrival (R30 to R34, R52) -/

/-- The correction of a band depends on the part by its history alone, and so do the clamps it counts. -/
theorem bandCorrection_congr {g : Geometry} {r : FrameRec} {e : LensEntry} {k : Nat} {prev : Option Int} {s t : State}
    (hh : t.filter.history = s.filter.history) (hb : t.counters.bandClamps = s.counters.bandClamps)
    (hc : t.counters.historyClamps = s.counters.historyClamps) :
    (bandCorrection g r e k prev t).1 = (bandCorrection g r e k prev s).1 ∧
      (bandCorrection g r e k prev t).2.counters.bandClamps = (bandCorrection g r e k prev s).2.counters.bandClamps ∧
      (bandCorrection g r e k prev t).2.counters.historyClamps =
        (bandCorrection g r e k prev s).2.counters.historyClamps := by
  by_cases hm : r.mode = .off
  · rw [bandCorrection_off hm, bandCorrection_off hm]; exact ⟨rfl, hb, hc⟩
  · rw [bandCorrection_on hm, bandCorrection_on hm, hh]
    exact ⟨rfl, congrArg (fun n => satAdd n _) hb, congrArg (fun n => satAdd n _) hc⟩

theorem decisionLine_eq (g : Geometry) (r : FrameRec) (b : Nat) :
    decisionLine g r b = ((r.prevDy b).map fun dy => (g.my : Int) + b * r.lb + dy - r.slewEff).getD 0 := by
  unfold decisionLine; cases r.prevDy b <;> rfl

/-- The record of a frame with one more line taken and the bands `bands`. -/
def FrameRec.lineTaken (r : FrameRec) (bands : List BandRec) : FrameRec := { r with lines := r.lines + 1, bands := bands }

/-- The bands after line `n` of frame record `r`, and a state with the counters of clamps that the line leaves, for a line that
arrives at `time` in `s` under the lens entry `e`. -/
def bandsAt (g : Geometry) (r : FrameRec) (e : LensEntry) (time n : Nat) (s : State) (bands : List BandRec) (c : State) : Prop :=
  let d := bandCorrection g r e time (r.prevDy r.nextBand) s
  (Decides g r n → bands = r.bands.set r.nextBand d.1 ∧ c = d.2) ∧ (¬Decides g r n → bands = r.bands ∧ c = s)

/-- Time that passes changes nothing of the bands a line leaves. -/
theorem bandsAt.of_tick {g : Geometry} {r : FrameRec} {e : LensEntry} {time n dt : Nat} {s c : State} {bands : List BandRec}
    (h : bandsAt g r e time n (s.tick dt) bands c) : ∃ c', bandsAt g r e time n s bands c' ∧
      c.counters.bandClamps = c'.counters.bandClamps ∧ c.counters.historyClamps = c'.counters.historyClamps := by
  obtain ⟨h1, h2, h3⟩ := bandCorrection_congr (g := g) (r := r) (e := e) (k := time) (prev := r.prevDy r.nextBand)
    (t := s.tick dt) (s := s) rfl rfl rfl
  by_cases hd : Decides g r n
  · obtain ⟨hb, rfl⟩ := h.1 hd
    exact ⟨_, ⟨fun _ => ⟨hb.trans (congrArg (r.bands.set _) h1), rfl⟩, fun hno => absurd hd hno⟩, h2, h3⟩
  · obtain ⟨hb, rfl⟩ := h.2 hd
    exact ⟨s, ⟨fun hyes => absurd hyes hd, fun _ => ⟨hb, rfl⟩⟩, rfl, rfl⟩

/-- The line entered and the band it decides, if any. -/
theorem lineDecided {g : Geometry} {r : FrameRec} {e : LensEntry} {s : State} (hr : s.frame.record = some r)
    (he : s.frame.lensPage[r.lens]? = some e) (px : List Nat) :
    ∃ bands c, bandsAt g r e s.partTime r.lines s bands c ∧
      (let w := decideBand g r.lines (enterLine g r px s)
       w.frame.record = some (r.lineTaken bands) ∧
       w.counters.bandClamps = c.counters.bandClamps ∧ w.counters.historyClamps = c.counters.historyClamps) := by
  have hq : (enterLine g r px s).frame.record = some { r with lines := r.lines + 1 } := by
    rw [enterLine_eq, State.mapFrame_frame, State.mapCounters_frame, hr]; rfl
  have hn : bandNow g { r with lines := r.lines + 1 } (enterLine g r px s) =
      bandCorrection g r e s.partTime (r.prevDy r.nextBand) (enterLine g r px s) := by
    have hl : (enterLine g r px s).frame.lensPage.getD r.lens ⟨256, 256, 0⟩ = e := by
      rw [enterLine_eq, List.getD_eq_getElem?_getD]
      exact congrArg (fun o => Option.getD o _) he
    have ht : (enterLine g r px s).partTime = s.partTime := by rw [enterLine_eq]; rfl
    unfold bandNow
    rw [ht]
    exact congrArg (fun e => bandCorrection g r e s.partTime (r.prevDy r.nextBand) (enterLine g r px s)) hl
  obtain ⟨h1, h2, h3⟩ := bandCorrection_congr (g := g) (r := r) (e := e) (k := s.partTime) (prev := r.prevDy r.nextBand)
    (t := enterLine g r px s) (s := s) (by rw [enterLine_eq]; rfl) (by rw [enterLine_eq]; rfl) (by rw [enterLine_eq]; rfl)
  obtain ⟨bands, c, hd, ho, hrec, hc⟩ := decideBand_bands (g := g) (n := r.lines) hq
  rw [hn] at hd
  by_cases hdec : Decides g r r.lines
  · obtain ⟨hb, rfl⟩ := hd hdec
    rw [h1] at hb
    exact ⟨bands, _, ⟨fun _ => ⟨hb, rfl⟩, fun hno => absurd hdec hno⟩, hrec, (congrArg Counters.bandClamps hc).trans h2,
      (congrArg Counters.historyClamps hc).trans h3⟩
  · obtain ⟨hb, rfl⟩ := ho hdec
    refine ⟨bands, s, ⟨fun hyes => absurd hyes hdec, fun _ => ⟨hb, rfl⟩⟩, hrec, ?_, ?_⟩
    · refine (congrArg Counters.bandClamps hc).trans ?_
      rw [enterLine_eq]; rfl
    · refine (congrArg Counters.historyClamps hc).trans ?_
      rw [enterLine_eq]; rfl

/-- What entering a line and deciding a band leave as it is. -/
structure Entered (s w : State) : Prop where
  store : w.store = s.store
  intake : w.intake = s.intake
  card : w.card = s.card
  trig : w.trig = s.trig
  link : w.link = s.link
  captureOut : w.captureOut = s.captureOut
  state : w.frame.state = s.frame.state
  ringMisses : w.counters.ringMisses = s.counters.ringMisses
  framesOut : w.counters.framesOut = s.counters.framesOut
  packetsDropped : w.counters.packetsDropped = s.counters.packetsDropped

theorem entered {g : Geometry} {r : FrameRec} {s : State} (hr : s.frame.record = some r) (px : List Nat) :
    Entered s (decideBand g r.lines (enterLine g r px s)) := by
  have hq : (enterLine g r px s).frame.record = some { r with lines := r.lines + 1 } := by
    rw [enterLine_eq, State.mapFrame_frame, State.mapCounters_frame, hr]; rfl
  have hu := (unbanded_decideBand (g := g) (n := r.lines) hq).trans (congrArg State.unbanded (enterLine_eq g r px s))
  exact ⟨(congrArg State.store hu :), (congrArg State.intake hu :), (congrArg State.card hu :), (congrArg State.trig hu :),
    (congrArg State.link hu :), (congrArg State.captureOut hu :), (congrArg (fun x : State => x.frame.state) hu :),
    (congrArg (fun x : State => x.counters.ringMisses) hu :), (congrArg (fun x : State => x.counters.framesOut) hu :),
    (congrArg (fun x : State => x.counters.packetsDropped) hu :)⟩

/-! ### The rows of one line (R54 to R56) -/

theorem cutAt_eq (g : Geometry) (r : FrameRec) (ring : List RingEntry) (j : Nat) : cutAt g r ring j =
    ((((((ring.find? fun x => x.line = sourceLine g j (r.bandOf j)).or ring.head?).map RingEntry.pixels).getD []).drop
      ((g.mx : Int) + (r.bandOf j).dx).toNat).take g.wOut) := by
  unfold cutAt; rw [ringLine_eq]; rfl

theorem missAt_eq (g : Geometry) (r : FrameRec) (ring : List RingEntry) (j : Nat) :
    missAt g r ring j = (ring.find? fun x => x.line = sourceLine g j (r.bandOf j)).isNone := by
  unfold missAt; rw [ringLine_eq]

theorem dueAt_iff (g : Geometry) (r : FrameRec) (j : Nat) :
    dueAt g r j = true ↔ (r.bandOf j).decided = true ∧ sourceLine g j (r.bandOf j) < r.lines := by
  unfold dueAt; rw [Bool.and_eq_true, decide_eq_true_eq]

/-- The rows that a line releases have left, and with the last row of the frame the trailer has been built. -/
structure Released (g : Geometry) (r : FrameRec) (rows : List (List Nat)) (s t : State) : Prop where
  le : r.rows + rows.length ≤ g.hOut
  cut : ∀ k < rows.length, dueAt g r (r.rows + k) = true ∧ rows[k]? = some (cutAt g r s.frame.ring (r.rows + k))
  stop : r.rows + rows.length < g.hOut → dueAt g r (r.rows + rows.length) = false
  record : t.frame.record = some { r with rows := r.rows + rows.length, lastRow := rows.getLast?.or r.lastRow }
  ring : t.frame.ring = s.frame.ring
  left : rowsOf t.captureOut = rowsOf s.captureOut ++ rows.map .row
  misses : t.counters.ringMisses =
    raised s.counters.ringMisses (countFrom (missAt g r s.frame.ring) r.rows rows.length)
  clamps : t.counters.bandClamps = s.counters.bandClamps ∧ t.counters.historyClamps = s.counters.historyClamps
  awake : t.link.awake = s.link.awake
  some : r.rows + rows.length < g.hOut →
    t.frame.state = s.frame.state ∧ t.counters.framesOut = s.counters.framesOut
  all : r.rows + rows.length = g.hOut → ∃ u,
    RowsSent r rows (countFrom (missAt g r s.frame.ring) r.rows rows.length) s u ∧
      TrailerBuilt { r with rows := r.rows + rows.length, lastRow := rows.getLast?.or r.lastRow } u t

theorem releaseRows_released {g : Geometry} {s : State} {r : FrameRec} (hr : s.frame.record = some r)
    (hlt : r.rows < g.hOut) : ∃ rows, Released g r rows s (releaseRows g g.hOut s) := by
  obtain ⟨rows, u, hu, hle, hcut, hsome, hall⟩ := releaseRows_sent hr rfl hlt (Nat.le_add_left _ _)
  have hk : ∀ {α : Type} (f : State → α), (∀ v : State, f v.unrowed = f v) → f u = f s := fun f h => by
    rw [← h u, hu.rest, h]
  by_cases he : r.rows + rows.length = g.hOut
  · have hb := trailerBuilt hu.record
    rw [hall he]
    exact ⟨rows, hle, hcut, fun h => absurd he h.ne, hb.record.trans hu.record, hb.ring.trans hu.ring,
      (hb.sides (sideKept_rowsLeft _) ((sideKept_rowsLeft _).motionPacket (by exact rfl) _)).trans hu.left,
      (hb.counter Counters.ringMisses fun _ => rfl).trans hu.misses,
      ⟨(hb.counter Counters.bandClamps fun _ => rfl).trans (hk (fun v => v.counters.bandClamps) fun _ => rfl),
        (hb.counter Counters.historyClamps fun _ => rfl).trans (hk (fun v => v.counters.historyClamps) fun _ => rfl)⟩,
      (hb.keeps (fun v => v.link.awake) fun _ => rfl).trans (hk (fun v => v.link.awake) fun _ => rfl),
      fun h => absurd he h.ne, fun _ => ⟨u, hu, hb⟩⟩
  · have hlt' := Nat.lt_of_le_of_ne hle he
    rw [(hsome hlt').2]
    exact ⟨rows, hle, hcut, fun h => (hsome h).1, hu.record, hu.ring, hu.left, hu.misses,
      ⟨hk (fun v => v.counters.bandClamps) fun _ => rfl, hk (fun v => v.counters.historyClamps) fun _ => rfl⟩,
      hk (fun v => v.link.awake) fun _ => rfl,
      fun _ => ⟨hk (fun v => v.frame.state) fun _ => rfl, hk (fun v => v.counters.framesOut) fun _ => rfl⟩,
      fun h => absurd h he⟩

/-- What O24 says of a frame that the line completes. -/
theorem Released.completed {g : Geometry} {r : FrameRec} {rows : List (List Nat)} {b s v : State}
    (h : Released g r rows s v) (he : r.rows + rows.length = g.hOut) (ha : s.link.awake = true) :
    let t := finish v
    t.frame.state = .complete ∧ t.counters.framesOut = satAdd s.counters.framesOut 1 ∧ t.frame.trailer = none ∧
      (∃ before rest, rowsOf rest = [] ∧ t.captureOut = before ++ .packet r.trailer.encode :: rest) ∧
      (Undisturbed b s → s.link.reports.length ≤ b.link.reports.length →
        s.counters.packetsDropped = b.counters.packetsDropped → MotionHanded r.trailer b t) := by
  intro t
  obtain ⟨u, hu, hb⟩ := h.all he
  have hf := onward_finish v
  have hk : ∀ {α : Type} (f : State → α), (∀ x : State, f x.unrowed = f x) → f u = f s := fun f h => by
    rw [← h u, hu.rest, h]
  have hn : t.frame.trailer = none :=
    (finish_empties (h.awake.trans ha) (by unfold roomOpen; rw [hb.state]; rfl)).1
  refine ⟨?_, ?_, hn, ?_, fun hbs hq hd => ?_⟩
  · exact (hf.keeps (fun x => x.frame.state) fun _ => rfl).trans hb.state
  · have h1 : t.counters.framesOut = v.counters.framesOut := hf.counter _ fun _ => rfl
    have h2 : v.counters.framesOut = satAdd u.counters.framesOut 1 := hb.counter Counters.framesOut fun _ => rfl
    rw [h1, h2, hk (fun x => x.counters.framesOut) fun _ => rfl]
  · obtain ⟨before, rest, -, hr, ho⟩ := Trailed.left (hf.sides (sideKept_trailed _ _) (hb.trailed hu.left)) hn
    exact ⟨before, rest, hr, ho⟩
  · exact hb.motionHanded (hu.undisturbed hbs) (hu.reports.trans hq)
      ((hk (fun x => x.counters.packetsDropped) fun _ => rfl).trans hd)
      ((hf.keeps State.partTime fun _ => rfl).trans (hb.keeps State.partTime fun _ => rfl)) (hf.counter _ fun _ => rfl) hf.sides
      hf.undisturbed

theorem exec_sensorLine_opened {dt : Nat} {px : List Nat} {g : Geometry} {r : FrameRec} {s : State} (hp : s.powered = true)
    (ha : s.link.awake = true) (hs : s.frame.state = .opened) (hg : s.frame.geometry = some g)
    (hr : s.frame.record = some r) (hl : r.lines < g.hIn) : exec (.sensorLine dt px) s =
      .next (finish (releaseRows g g.hOut (decideBand g r.lines (enterLine g r px (s.tick dt))))) := by
  dsimp only [exec, execSensorLine]
  rw [act_powered hp, if_pos (awakeInFrame (s := s.tick dt) ha (.inl hs)),
    takeLine_below (s := s.tick dt) hg hr hl, if_pos (show (s.tick dt).frame.state = _ from hs)]

/-- Settles O24: the band that the line decides, the rows it releases, and the frame it completes. -/
theorem lineReleasesRows : Obligations.LineReleasesRows := by
  intro dt px g r e s hp ha hs hg hrec hle hlines hlt mx my b before decision decides c bands counted band source released
  obtain ⟨bands', c₁, hbc₁, hw, hwb, hwh⟩ := lineDecided (g := g) (s := s.tick dt) hrec hle px
  obtain ⟨c₂, hbc, hcb, hch⟩ := hbc₁.of_tick
  have hdec : decides ↔ Decides g r r.lines := by
    unfold Decides; rw [decisionLine_eq]; rfl
  obtain ⟨rfl, rfl⟩ : bands' = bands ∧ c₂ = counted := by
    by_cases hd : decides
    · rw [show bands = r.bands.set b c.1 from if_pos hd, show counted = c.2 from if_pos hd]
      exact hbc.1 (hdec.1 hd)
    · rw [show bands = r.bands from if_neg hd, show counted = s from if_neg hd]
      exact hbc.2 fun h => hd (hdec.2 h)
  have hin : Entered (s.tick dt) _ := entered (g := g) (s := s.tick dt) hrec px
  have hex := exec_sensorLine_opened (dt := dt) (px := px) hp ha hs hg hrec hlines
  generalize decideBand g r.lines (enterLine g r px (s.tick dt)) = w at *
  obtain ⟨rows, hrel⟩ := releaseRows_released (g := g) hw hlt
  have hf := onward_finish (releaseRows g g.hOut w)
  have hring : (finish (releaseRows g g.hOut w)).frame.ring = w.frame.ring :=
    (hf.keeps (fun x => x.frame.ring) fun _ => rfl).trans hrel.ring
  refine ⟨_, { r.lineTaken bands with rows := r.rows + rows.length, lastRow := rows.getLast?.or r.lastRow }, rows, hex, ?_⟩
  intro held missed
  have hheld : ∀ j, held j = w.frame.ring.find? fun x => x.line = sourceLine g j ((r.lineTaken bands).bandOf j) := fun j => by
    show (finish (releaseRows g g.hOut w)).frame.ring.find? _ = _
    rw [hring]; rfl
  have hmissed : missed = countFrom (missAt g (r.lineTaken bands) w.frame.ring) r.rows rows.length := by
    unfold countFrom
    refine congrArg List.length (congrArg (fun p => List.filter p _) (funext fun k => ?_))
    rw [missAt_eq, hheld]
    cases w.frame.ring.find? fun x => x.line = sourceLine g (r.rows + k) ((r.lineTaken bands).bandOf (r.rows + k)) <;> rfl
  refine ⟨?_, hrel.le, fun k hk' => ⟨?_, ?_⟩, fun h hr => ?_, ?_, rfl, rfl, rfl, rfl, ?_, ?_, ?_, fun h => ?_, fun h => ?_⟩
  · refine (hf.sides (sideKept_rowsLeft _) hrel.left).trans ?_
    rw [hin.captureOut]; rfl
  · obtain ⟨h1, h2⟩ := (dueAt_iff ..).1 (hrel.cut k hk').1
    exact ⟨h1, Nat.le_of_lt_succ h2⟩
  · rw [(hrel.cut k hk').2, cutAt_eq, hheld, hring]; rfl
  · have hd : dueAt g (r.lineTaken bands) (r.rows + rows.length) = true :=
      (dueAt_iff ..).2 ⟨hr.1, Nat.lt_succ_of_le hr.2⟩
    exact Bool.noConfusion (hd.symm.trans (hrel.stop h))
  · exact (hf.keeps (fun x => x.frame.record) fun _ => rfl).trans hrel.record
  · exact ((hf.counter Counters.bandClamps fun _ => rfl).trans hrel.clamps.1).trans (hwb.trans hcb)
  · exact ((hf.counter Counters.historyClamps fun _ => rfl).trans hrel.clamps.2).trans (hwh.trans hch)
  · rw [hf.counter Counters.ringMisses fun _ => rfl, hrel.misses, hin.ringMisses, hmissed]; rfl
  · obtain ⟨h1, h2⟩ := hrel.some h
    exact ⟨((hf.keeps (fun x => x.frame.state) fun _ => rfl).trans h1).trans (hin.state.trans hs),
      ((hf.counter Counters.framesOut fun _ => rfl).trans h2).trans hin.framesOut⟩
  · obtain ⟨h1, h2, h3, h4, h5⟩ := hrel.completed (b := s) h ((congrArg Link.awake hin.link).trans ha)
    refine ⟨h1, h2.trans (congrArg (satAdd · 1) hin.framesOut), h3, h4, fun hrest hq => ?_⟩
    exact h5 ((hrest.undisturbed hq).congr hin.store hin.intake hin.card hin.trig)
      (by rw [hin.link]; exact Nat.le_refl _) hin.packetsDropped

end Sys2Proof.Machine

/-! PROOF. A frame that ends short: its bands filled, its rows finished, its trailer, and FRAME_END_MARKER. -/

namespace Sys2Proof.Machine

/-! ### Filled bands (R57) -/

/-- A band after the filling, where the band before it has the offsets `dx` and `dy`. -/
def filled (dx dy : Int) (b : BandRec) : BandRec := if b.decided then b else ⟨false, dx, dy, false, false, false, true⟩

theorem fillBands_cons (dx dy : Int) (b : BandRec) (bs : List BandRec) :
    fillBands dx dy (b :: bs) = filled dx dy b :: fillBands (filled dx dy b).dx (filled dx dy b).dy bs := by
  unfold filled; rw [fillBands]; split <;> rfl

theorem fillBands_length (dx dy : Int) (bs : List BandRec) : (fillBands dx dy bs).length = bs.length := by
  induction bs generalizing dx dy with
  | nil => rfl
  | cons b bs ih => rw [fillBands_cons, List.length_cons, List.length_cons, ih]

/-- Each band of a filling, by the band before it. -/
theorem fillBands_getElem? {dx dy : Int} {bs : List BandRec} {i : Nat} {b : BandRec} (h : bs[i]? = some b) :
    let before := if i = 0 then none else (fillBands dx dy bs)[i - 1]?
    (fillBands dx dy bs)[i]? =
      some (filled ((before.map BandRec.dx).getD dx) ((before.map BandRec.dy).getD dy) b) := by
  induction bs generalizing dx dy i with
  | nil => cases h
  | cons c bs ih =>
    rw [fillBands_cons]
    cases i with
    | zero => cases h; rfl
    | succ i =>
      have hi := ih (dx := (filled dx dy c).dx) (dy := (filled dx dy c).dy) (i := i) h
      cases i with
      | zero => exact hi
      | succ i =>
        have hl : i < (fillBands (filled dx dy c).dx (filled dx dy c).dy bs).length := by
          rw [fillBands_length]; exact Nat.lt_of_succ_lt (List.getElem?_eq_some_iff.1 (show bs[i + 1]? = some b from h)).1
        have hx := List.getElem?_eq_getElem hl
        dsimp only at hi ⊢
        rw [if_neg (Nat.succ_ne_zero _), Nat.add_sub_cancel, hx] at hi
        rw [if_neg (Nat.succ_ne_zero _), Nat.add_sub_cancel, List.getElem?_cons_succ, List.getElem?_cons_succ, hx]
        exact hi

theorem filledBands_fillBands (bs : List BandRec) : FilledBands bs (fillBands 0 0 bs) :=
  ⟨fillBands_length 0 0 bs, fun _ _ h => fillBands_getElem? h⟩

/-- The filling is determined by the bands. -/
theorem FilledBands.unique {old a c : List BandRec} (ha : FilledBands old a) (hc : FilledBands old c) : a = c := by
  refine List.ext_getElem? fun i => ?_
  induction i with
  | zero =>
    cases h : old[0]? with
    | none =>
      rw [List.getElem?_eq_none_iff] at h
      rw [List.getElem?_eq_none (by rw [ha.1]; exact h), List.getElem?_eq_none (by rw [hc.1]; exact h)]
    | some b => rw [ha.2 0 b h, hc.2 0 b h]; rfl
  | succ i ih =>
    cases h : old[i + 1]? with
    | none =>
      rw [List.getElem?_eq_none_iff] at h
      rw [List.getElem?_eq_none (by rw [ha.1]; exact h), List.getElem?_eq_none (by rw [hc.1]; exact h)]
    | some b =>
      rw [ha.2 (i + 1) b h, hc.2 (i + 1) b h]
      rw [if_neg (Nat.succ_ne_zero i), if_neg (Nat.succ_ne_zero i), Nat.add_sub_cancel, ih]

/-! ### The frame ended short (R57) -/

/-- The record with its bands filled. -/
def FrameRec.filled (r : FrameRec) : FrameRec := { r with bands := fillBands 0 0 r.bands }

/-- From `s`, the frame of record `r` has ended short by `t`: its rows `rows` have left by `u`, the trailer built by `v`. -/
structure EndedShort (g : Geometry) (r : FrameRec) (rows : List (List Nat)) (s u v t : State) : Prop where
  sent : RowsSent r.filled rows
    (countFrom (fun j => dueAt g r.filled j && missAt g r.filled s.frame.ring j) r.rows rows.length)
    (updateFrame (fun r => r.filled) s) u
  length : rows.length = g.hOut - r.rows
  row : ∀ k < rows.length,
    (dueAt g r.filled (r.rows + k) = true → rows[k]? = some (cutAt g r.filled s.frame.ring (r.rows + k))) ∧
      (dueAt g r.filled (r.rows + k) = false → rows[k]? =
        if k = 0 then some (r.lastRow.getD (List.replicate g.wOut 0)) else rows[k - 1]?)
  built : TrailerBuilt { r.filled with rows := r.rows + rows.length, lastRow := rows.getLast?.or r.lastRow } u v
  short : t = v.mapCounters fun c => { c with shortFrames := satAdd c.shortFrames 1 }

section
variable {g : Geometry} {r : FrameRec} {s : State} (hg : s.frame.geometry = some g) (hr : s.frame.record = some r)
include hg hr

theorem endShort_ends : ∃ rows u v, EndedShort g r rows s u v (endShort s) := by
  have hf : (updateFrame (fun r => r.filled) s).frame.record = some r.filled := by
    unfold updateFrame; rw [State.mapFrame_frame, hr]; rfl
  obtain ⟨rows, u, hu, hl, hrow, hfin⟩ := finishRows_sent (g := g) (ring := s.frame.ring) hf rfl (Nat.le_add_left _ _)
  refine ⟨rows, u, buildTrailer u, hu, hl, hrow, trailerBuilt hu.record, ?_⟩
  unfold endShort; rw [hg]; dsimp only
  rw [← hfin]; rfl

end

section
variable {g : Geometry} {r : FrameRec} {rows : List (List Nat)} {s u v t : State} (h : EndedShort g r rows s u v t)
include h

/-- What the rows of a frame that ends short leave as it is. -/
theorem EndedShort.rows_keep {α : Type} (f : State → α) (hf : ∀ s : State, f s.unrowed = f s) : f u = f s := by
  rw [← hf u, h.sent.rest, ← hf s]; rfl

/-- What the end of the frame leaves as it is but for its state and the record. -/
theorem EndedShort.keeps {α : Type} (f : State → α) (hf : ∀ s : State, f s.unsent.outside = f s)
    (hs : ∀ s : State, f (s.mapFrame fun k => { k with state := .complete }) = f s)
    (hr : ∀ s : State, f s.unrowed = f s)
    (hc : ∀ s : State, f (s.mapCounters fun c => { c with shortFrames := satAdd c.shortFrames 1 }) = f s) : f t = f s := by
  rw [h.short, hc, h.built.keeps f hf, hs, h.rows_keep f hr]

theorem EndedShort.framesOut : t.counters.framesOut = satAdd s.counters.framesOut 1 := by
  have h1 : v.counters.framesOut = satAdd u.counters.framesOut 1 := h.built.counter Counters.framesOut fun _ => rfl
  rw [h.short, State.mapCounters_counters, h1, h.rows_keep (fun x => x.counters.framesOut) fun _ => rfl]

theorem EndedShort.shortFrames : t.counters.shortFrames = satAdd s.counters.shortFrames 1 := by
  have h1 : v.counters.shortFrames = u.counters.shortFrames := h.built.counter Counters.shortFrames fun _ => rfl
  rw [h.short, State.mapCounters_counters, h1, h.rows_keep (fun x => x.counters.shortFrames) fun _ => rfl]

theorem EndedShort.ringMisses : t.counters.ringMisses = raised s.counters.ringMisses
    (countFrom (fun j => dueAt g r.filled j && missAt g r.filled s.frame.ring j) r.rows rows.length) := by
  have h1 : v.counters.ringMisses = u.counters.ringMisses := h.built.counter Counters.ringMisses fun _ => rfl
  rw [h.short, State.mapCounters_counters, h1, h.sent.misses]; rfl

theorem EndedShort.state : t.frame.state = .complete := by rw [h.short]; exact h.built.state

/-- The trailer of the filled bands follows the rows. -/
theorem EndedShort.trailed (hc : s.captureOut = []) : Trailed (rows.map .row) r.filled.trailer t := by
  have hl : RowsLeft (rows.map .row) u := h.sent.left.trans (by
    rw [show (updateFrame (fun r => r.filled) s).captureOut = [] from hc]; rfl)
  rw [h.short]
  exact (sideKept_trailed _ _).of_eq (h.built.trailed hl) rfl rfl rfl

/-- The frame has ended short in any state `x` in which the trailer is no longer pending and the counters of the frame's end
stand. -/
theorem EndedShort.frameFinished {b x : State} (hb : b.frame = s.frame)
    (hbc : b.counters = s.counters) (hx : Trailed (rows.map .row) r.filled.trailer x) (hn : x.frame.trailer = none)
    (hm : x.counters.ringMisses = t.counters.ringMisses) (hs : x.counters.shortFrames = t.counters.shortFrames)
    (ho : x.counters.framesOut = t.counters.framesOut) : FrameFinished g r b x := by
  obtain ⟨before, rest, hrows, hrest, hcap⟩ := hx.left hn
  refine ⟨r.filled.bands, rows, before, rest, ?_⟩
  rw [hb, hbc]
  intro mx my band source held cut missed misses
  have hcut : ∀ j, cut j ↔ dueAt g r.filled j = true := fun j => (dueAt_iff g r.filled j).symm
  have hmisses : misses = countFrom (fun j => dueAt g r.filled j && missAt g r.filled s.frame.ring j) r.rows rows.length :=
    congrArg (fun p => ((List.range rows.length).filter p).length) (funext fun k => by
      show _ = (dueAt g r.filled (r.rows + k) && missAt g r.filled s.frame.ring (r.rows + k))
      rw [missAt_eq]; rfl)
  refine ⟨filledBands_fillBands _, h.length, hrows, hrest, hcap, hn, fun k hk => ⟨fun hd => ?_, fun hd => ?_⟩, ?_,
    hs.trans h.shortFrames, ho.trans h.framesOut⟩
  · rw [(h.row k hk).1 ((hcut _).1 hd), cutAt_eq]; rfl
  · exact (h.row k hk).2 (Bool.not_eq_true _ ▸ mt (hcut _).2 hd)
  · rw [hm, h.ringMisses, hmisses]; rfl

/-- What Record Intake has made of the trailer of the filled bands. -/
theorem EndedShort.motionHanded {b x : State} (hb : Undisturbed b s) (hl : s.link = b.link)
    (hd : s.counters.packetsDropped = b.counters.packetsDropped) (hp : x.partTime = t.partTime)
    (hdx : x.counters.packetsDropped = t.counters.packetsDropped)
    (hs : ∀ {P : State → Prop}, SideKept P → P t → P x) (hu : ∀ {w : State}, Undisturbed w t → Undisturbed w x) :
    MotionHanded r.filled.trailer b x := by
  have hvt : v.partTime = t.partTime := by rw [h.short]; rfl
  refine h.built.motionHanded (b := b) (u := x) (h.sent.undisturbed (hb.congr rfl rfl rfl rfl)) ?_ ?_ ?_ ?_ ?_ ?_
  · rw [← hl]; exact h.sent.reports
  · rw [h.rows_keep (fun x => x.counters.packetsDropped) fun _ => rfl, hd]
  · rw [hp, ← hvt]; exact h.built.keeps State.partTime fun _ => rfl
  · rw [hdx, h.short]; rfl
  · exact fun hP hPv => hs hP (by rw [h.short]; exact hP.of_eq hPv rfl rfl rfl)
  · exact fun hw => hu (by rw [h.short]; exact hw.congr rfl rfl rfl rfl)

end

/-! ### FRAME_END_MARKER (R45, R57) -/

/-- The frame is IDLE, with no record. -/
def frameIdle (s : State) : State := s.mapFrame fun f => { f with state := .idle, record := none }

theorem exec_frameEndMarker {dt : Nat} {s : State} (hp : s.powered = true) (ha : s.link.awake = true)
    (hs : s.frame.state = .opened) :
    exec (.frameEndMarker dt) s = .next (finish (frameIdle (endShort (s.tick dt)))) := by
  dsimp only [exec, execFrameEndMarker]
  rw [act_powered hp, if_pos (show (s.tick dt).link.awake = true from ha),
    if_pos (show (s.tick dt).frame.state = .opened from hs)]
  rfl

/-- Settles O25: an OPEN frame ends short and its trailer is handed over; another becomes IDLE. -/
theorem frameEndFinishesTheFrame : Obligations.FrameEndFinishesTheFrame := by
  intro dt s hp ha
  refine ⟨fun g r hs hg hrec => ?_, fun hs hr => ?_⟩
  · obtain ⟨rows, u, v, h⟩ := endShort_ends (s := s.tick dt) hg hrec
    have hf := onward_finish (frameIdle (endShort (s.tick dt)))
    have haw : (endShort (s.tick dt)).link.awake = true :=
      (h.keeps (fun x => x.link.awake) (fun _ => rfl) (fun _ => rfl) (fun _ => rfl) fun _ => rfl).trans ha
    obtain ⟨ht, hans, hrep⟩ := finish_empties (s := frameIdle (endShort (s.tick dt))) haw rfl
    have hsides : ∀ {P : State → Prop}, SideKept P → P (endShort (s.tick dt)) →
        P (finish (frameIdle (endShort (s.tick dt)))) := fun hP hx => hf.sides hP (hP.of_eq hx rfl rfl rfl)
    refine ⟨_, exec_frameEndMarker hp ha hs, hf.keeps (fun x => x.frame.state) fun _ => rfl,
      hf.keeps (fun x => x.frame.record) fun _ => rfl, hans, hrep, ?_, fun hrest hq bands hb => ?_⟩
    · exact h.frameFinished rfl rfl (hsides (sideKept_trailed _ _) (h.trailed rfl)) ht
        (hf.counter Counters.ringMisses fun _ => rfl) (hf.counter Counters.shortFrames fun _ => rfl)
        (hf.counter Counters.framesOut fun _ => rfl)
    · obtain rfl := hb.unique (filledBands_fillBands r.bands)
      exact h.motionHanded ((hrest.undisturbed hq).congr rfl rfl rfl rfl) rfl rfl (hf.keeps State.partTime fun _ => rfl)
        (hf.counter Counters.packetsDropped fun _ => rfl) hsides fun hw => hf.undisturbed (hw.congr rfl rfl rfl rfl)
  · refine AtRest.act (t := frameIdle (s.tick dt)) ?_ hp ?_
    · refine (hr.tick dt).congr rfl rfl rfl rfl ?_
      have ho : roomOpen (s.tick dt) = true := by simp [roomOpen, hs]
      unfold State.outbox; rw [ho]; rfl
    · refine (if_pos (show (s.tick dt).link.awake = true from ha)).trans ?_
      rw [if_neg (show ¬(s.tick dt).frame.state = .opened from hs)]; rfl

end Sys2Proof.Machine

/-! PROOF. The beginning of a frame: the pending settings, the effective mode, the fresh record, and FRAME_START_MARKER. -/

namespace Sys2Proof.Machine

/-! ### The pending settings (R24, R49, R50) -/

/-- The frame settings of `s` with the pending ones and a waiting LENS page in force. -/
def settings (s : State) : Frame :=
  { s.frame with
    geometry := s.frame.pendGeometry.or s.frame.geometry, lens := s.frame.pendLens.getD s.frame.lens,
    exposure := s.frame.pendExposure.getD s.frame.exposure, pendGeometry := none, pendLens := none, pendExposure := none,
    lensPage := s.link.waitLens.getD s.frame.lensPage }

/-- The Path Filter with the margin angles of the geometry and the lens in force, if there is a geometry. -/
def Filter.margined (f : Filter) (k : Frame) : Filter :=
  let e := k.lensPage.getD k.lens ⟨256, 256, 0⟩
  { f with marginX := (k.geometry.map fun g => marginAngle g.mx e.ppdx).getD f.marginX,
           marginY := (k.geometry.map fun g => marginAngle g.my e.ppdy).getD f.marginY }

theorem applyPending_eq (s : State) : applyPending s =
    ((s.mapFrame fun _ => settings s).mapLink fun l => { l with waitLens := none }).mapFilter fun f =>
      f.margined (settings s) := by
  have hg : (settings s).geometry = s.frame.pendGeometry.or s.frame.geometry := rfl
  unfold applyPending Filter.margined
  rw [hg]
  dsimp only [State.mapLink_frame, State.mapFrame_frame]
  cases s.frame.pendGeometry.or s.frame.geometry <;> rfl

theorem margined_marginX {g : Geometry} {e : LensEntry} {k : Frame} (f : Filter) (hg : k.geometry = some g)
    (he : k.lensPage[k.lens]? = some e) : (f.margined k).marginX = (g.wIn - g.wOut) / 2 * 16777216 / e.ppdx := by
  unfold Filter.margined
  rw [hg, List.getD_eq_getElem?_getD, he]; rfl

theorem margined_marginY {g : Geometry} {e : LensEntry} {k : Frame} (f : Filter) (hg : k.geometry = some g)
    (he : k.lensPage[k.lens]? = some e) : (f.margined k).marginY = (g.hIn - g.hOut) / 2 * 16777216 / e.ppdy := by
  unfold Filter.margined
  rw [hg, List.getD_eq_getElem?_getD, he]; rfl

/-! ### The effective mode (R36 to R38) -/

/-- Resolving the mode sets the effective mode; its report and its change are side packets and changes taken. -/
theorem outside_resolveMode (s : State) :
    (resolveMode s).outside = (s.mapFilter fun f => { f with effMode := resolvedMode s }).outside := by
  unfold resolveMode
  dsimp only
  split
  · next h => rw [h]; rfl
  · unfold setLevel; rw [outside_hand, outside_report]

theorem resolveMode_counters (s : State) : (resolveMode s).counters.unworked = s.counters.unworked := by
  unfold resolveMode
  dsimp only
  split
  · rfl
  · unfold setLevel; rw [hand_counters, report_counters]; rfl

theorem SideKept.resolveMode {P : State → Prop} (h : SideKept P) {s : State} (hs : P s) : P (resolveMode s) := by
  unfold Machine.resolveMode
  dsimp only
  split
  · exact hs
  · refine h.lasts.hand (h.report ?_ _) _
    exact h.of_eq hs rfl rfl rfl

theorem openClip_isSome (st : Store) : st.openClip.isSome = true ↔ ∃ c ∈ st.index, c.state = .opened := by
  unfold Store.openClip; rw [List.find?_isSome]; simp

/-- Table 2-4. -/
theorem resolvedMode_eq (s : State) : resolvedMode s =
    (if s.motion.status = .lost ∨ s.motion.status = .absent ∨ s.thermal.tier = .cutoff then .off
     else if s.thermal.tier = .limit then (if s.filter.reqMode = .off then .off else .eco)
     else if s.filter.reqMode = .steadyWhileRecording then
       (if ∃ c ∈ s.store.index, c.state = .opened then .steady else .eco)
     else s.filter.reqMode) := by
  unfold resolvedMode
  simp only [← openClip_isSome, Bool.or_eq_true, decide_eq_true_eq, or_assoc]
  cases s.filter.reqMode <;> rfl

theorem resolvedMode_applyPending (s : State) : resolvedMode (applyPending s) = resolvedMode s := by
  rw [applyPending_eq]; rfl

/-! ### The frame begun (R50) -/

/-- `s` with the pending settings in force and the mode resolved under them. -/
def inForce (s : State) : State :=
  ((s.mapFrame fun _ => settings s).mapLink fun l => { l with waitLens := none }).mapFilter fun f =>
    { f.margined (settings s) with effMode := resolvedMode s }

theorem outside_inForce (s : State) : (resolveMode (applyPending s)).outside = (inForce s).outside := by
  rw [outside_resolveMode, resolvedMode_applyPending, applyPending_eq]; rfl

/-- `s` with a frame of geometry `g` begun. -/
def begun (g : Geometry) (count : BitVec 16) (s : State) : State :=
  s.mapFrame fun f =>
    { f with state := .opened, record := some (newFrame g count s), lastNb := (newFrame g count s).nb,
             lastSlew := (newFrame g count s).slewEff, ring := [], nextNumber := (f.nextNumber + 1) % 4294967296 }

/-- `s` with its frame discarded for want of a geometry. -/
def discarded (s : State) : State := s.mapFrame fun f => { f with state := .discard, record := none }

/-- FRAME_START_MARKER once an OPEN frame has ended. -/
def startFrame (count : BitVec 16) (s : State) : State := beginFrame count (resolveMode (applyPending s))

theorem inForce_geometry (s : State) :
    (resolveMode (applyPending s)).frame.geometry = s.frame.pendGeometry.or s.frame.geometry :=
  congrArg (fun u : State => u.frame.geometry) (outside_inForce s)

section
variable {g : Geometry} {s : State} (count : BitVec 16)

theorem startFrame_begun (hg : s.frame.pendGeometry.or s.frame.geometry = some g) :
    startFrame count s = begun g count (resolveMode (applyPending s)) := by
  unfold startFrame beginFrame
  rw [inForce_geometry, hg]; rfl

theorem outside_startFrame (hg : s.frame.pendGeometry.or s.frame.geometry = some g) :
    (startFrame count s).outside = (begun g count (inForce s)).outside := by
  rw [startFrame_begun count hg]
  calc (begun g count (resolveMode (applyPending s))).outside
      = (begun g count (resolveMode (applyPending s)).outside).outside := rfl
    _ = (begun g count (inForce s).outside).outside := by rw [outside_inForce]
    _ = (begun g count (inForce s)).outside := rfl

theorem startFrame_discarded (hg : s.frame.pendGeometry.or s.frame.geometry = none) :
    startFrame count s = (discarded (resolveMode (applyPending s))).mapCounters fun c =>
      { c with unconfigured := satAdd c.unconfigured 1 } := by
  unfold startFrame beginFrame
  rw [inForce_geometry, hg]; rfl

theorem outside_startFrame_none (hg : s.frame.pendGeometry.or s.frame.geometry = none) :
    (startFrame count s).outside = (discarded (inForce s)).outside := by
  rw [startFrame_discarded count hg]
  calc (discarded (resolveMode (applyPending s))).outside
      = (discarded (resolveMode (applyPending s)).outside).outside := rfl
    _ = (discarded (inForce s).outside).outside := by rw [outside_inForce]
    _ = (discarded (inForce s)).outside := rfl

/-- What the completed command reads in the frame begun. -/
theorem started_keeps {α : Type} (f : State → α) (hf : ∀ s : State, f s.unsent.outside = f s)
    (hg : s.frame.pendGeometry.or s.frame.geometry = some g) :
    f (finish (startFrame count s)) = f (begun g count (inForce s)) := by
  rw [finish_keeps f hf, ← hf (startFrame count s), ← hf (begun g count _)]
  exact congrArg f (congrArg State.unsent (outside_startFrame count hg))

/-- What the completed command reads in the discarded frame. -/
theorem discarded_keeps {α : Type} (f : State → α) (hf : ∀ s : State, f s.unsent.outside = f s)
    (hg : s.frame.pendGeometry.or s.frame.geometry = none) :
    f (finish (startFrame count s)) = f (discarded (inForce s)) := by
  rw [finish_keeps f hf, ← hf (startFrame count s), ← hf (discarded _)]
  exact congrArg f (congrArg State.unsent (outside_startFrame_none count hg))

/-- `s` with what tells a frame begun from one discarded erased. -/
def State.unstarted (s : State) : State :=
  s.mapFrame fun f => { f with state := .idle, record := none, lastNb := 0, lastSlew := 0, ring := [], nextNumber := 0 }

/-- The settings in force, with a geometry or without one. -/
theorem inForce_keeps {α : Type} (f : State → α) (hf : ∀ s : State, f s.unstarted.unsent.outside = f s) :
    f (finish (startFrame count s)) = f (inForce s) := by
  have hk : ∀ u : State, f u.unsent.outside = f u := fun u => (hf u.unsent.outside).symm.trans (hf u)
  cases hg : s.frame.pendGeometry.or s.frame.geometry with
  | none => rw [discarded_keeps count f hk hg, ← hf (discarded _), ← hf (inForce s)]; rfl
  | some g => rw [started_keeps count f hk hg, ← hf (begun g count _), ← hf (inForce s)]; rfl

theorem startFrame_counters (hg : s.frame.pendGeometry.or s.frame.geometry = some g) :
    (finish (startFrame count s)).counters.unworked = s.counters.unworked := by
  rw [finish_counters, startFrame_begun count hg]
  exact (resolveMode_counters _).trans (by rw [applyPending_eq]; rfl)

/-- A counter that work does not raise stays where a frame begins. -/
theorem startFrame_counter {α : Type} (f : Counters → α) (hf : ∀ c : Counters, f c.unworked = f c)
    (hg : s.frame.pendGeometry.or s.frame.geometry = some g) : f (finish (startFrame count s)).counters = f s.counters := by
  rw [← hf, startFrame_counters count hg, hf]

theorem startFrame_unconfigured (hg : s.frame.pendGeometry.or s.frame.geometry = none) :
    (finish (startFrame count s)).counters.unconfigured = satAdd s.counters.unconfigured 1 := by
  have hr := congrArg Counters.unconfigured (resolveMode_counters (applyPending s))
  have hf := congrArg Counters.unconfigured (finish_counters (startFrame count s))
  rw [startFrame_discarded count hg] at hf ⊢
  refine hf.trans (congrArg (satAdd · 1) (hr.trans ?_))
  rw [applyPending_eq]; rfl

/-- What side packets leave of a frame's rows stands after the next frame begins. -/
theorem sideKept_startFrame {P : State → Prop} (h : SideKept P)
    (hg : s.frame.pendGeometry.or s.frame.geometry = some g) (hs : P s) : P (finish (startFrame count s)) := by
  have hw : P (applyPending s) := by rw [applyPending_eq]; exact h.of_eq hs rfl rfl rfl
  rw [startFrame_begun count hg]
  exact h.finish (h.of_eq (h.resolveMode hw) rfl rfl rfl)

/-- A frame begun leaves nothing waiting. -/
theorem startFrame_empties (hg : s.frame.pendGeometry.or s.frame.geometry = some g) (ha : s.link.awake = true) :
    NothingWaits (finish (startFrame count s)) := by
  have ho := outside_startFrame count hg
  refine finish_empties ((congrArg (fun u : State => u.link.awake) ho).trans ha) ?_
  exact (congrArg roomOpen ho).trans rfl

end

/-! ### FRAME_START_MARKER (R50) -/

/-- A frame that ends short leaves what the next frame begins from. -/
theorem EndedShort.keeps_settings {g : Geometry} {r : FrameRec} {rows : List (List Nat)} {s u v t : State}
    (h : EndedShort g r rows s u v t) :
    t.frame.pendGeometry = s.frame.pendGeometry ∧ t.frame.geometry = s.frame.geometry ∧
      t.frame.lensPage = s.frame.lensPage ∧ t.link.waitLens = s.link.waitLens ∧
      t.frame.nextNumber = s.frame.nextNumber ∧ t.partTime = s.partTime ∧ t.link.awake = s.link.awake := by
  have hk := h.keeps
    (fun x => (x.frame.pendGeometry, x.frame.geometry, x.frame.lensPage, x.link.waitLens, x.frame.nextNumber, x.partTime,
      x.link.awake)) (fun _ => rfl) (fun _ => rfl) (fun _ => rfl) fun _ => rfl
  simpa only [Prod.mk.injEq] using hk

section
variable {dt : Nat} {count : BitVec 16} {s : State} (hp : s.powered = true) (ha : s.link.awake = true)
include hp ha

theorem exec_frameStartMarker_opened (hs : s.frame.state = .opened) :
    exec (.frameStartMarker dt count) s = .next (finish (startFrame count (endShort (s.tick dt)))) := by
  dsimp only [exec, execFrameStartMarker]
  rw [act_powered hp, if_pos (show (s.tick dt).link.awake = true from ha),
    if_pos (show (s.tick dt).frame.state = .opened from hs)]
  rfl

theorem exec_frameStartMarker_idle (hs : s.frame.state ≠ .opened) :
    exec (.frameStartMarker dt count) s = .next (finish (startFrame count (s.tick dt))) := by
  dsimp only [exec, execFrameStartMarker]
  rw [act_powered hp, if_pos (show (s.tick dt).link.awake = true from ha),
    if_neg (show ¬(s.tick dt).frame.state = .opened from hs)]
  rfl

end

/-- Settles O22: an OPEN frame ends short, the pending settings come into force, and a frame begins or is discarded. -/
theorem frameStartBeginsAFrame : Obligations.FrameStartBeginsAFrame := by
  refine ⟨fun dt count g r s hp ha hs hg hr => ?_, fun dt count s hp ha hs => ?_⟩
  · obtain ⟨rows, u, v, h⟩ := endShort_ends (s := s.tick dt) hg hr
    obtain ⟨hpend, hgeo, hpage, hwait, hnum, htime, haw⟩ := h.keeps_settings
    have hge : (endShort (s.tick dt)).frame.pendGeometry.or (endShort (s.tick dt)).frame.geometry =
        s.frame.pendGeometry.or s.frame.geometry := by rw [hpend, hgeo]; rfl
    obtain ⟨g', hg'⟩ : ∃ g', s.frame.pendGeometry.or s.frame.geometry = some g' :=
      Option.isSome_iff_exists.1 (by rw [hg]; cases s.frame.pendGeometry <;> rfl)
    have hn := hge.trans hg'
    have hgt := inForce_keeps (s := endShort (s.tick dt)) count (fun x => x.frame.geometry) fun _ => rfl
    refine ⟨_, newFrame g' count (inForce (endShort (s.tick dt))), exec_frameStartMarker_opened hp ha hs,
      started_keeps count (fun x => x.frame.state) (fun _ => rfl) hn,
      h.frameFinished rfl rfl (sideKept_startFrame count (sideKept_trailed _ _) hn (h.trailed rfl))
        (startFrame_empties count hn (haw.trans ha)).1 (startFrame_counter count Counters.ringMisses (fun _ => rfl) hn)
        (startFrame_counter count Counters.shortFrames (fun _ => rfl) hn)
        (startFrame_counter count Counters.framesOut (fun _ => rfl) hn),
      hgt.trans hge,
      (inForce_keeps count (fun x => x.frame.lensPage) fun _ => rfl).trans ?_,
      inForce_keeps count (fun x => x.link.waitLens) fun _ => rfl,
      started_keeps count (fun x => x.frame.record) (fun _ => rfl) hn, hnum, rfl, htime, ?_, rfl, rfl, rfl, rfl, rfl,
      started_keeps count (fun x => x.frame.ring) (fun _ => rfl) hn,
      (started_keeps count (fun x => x.frame.nextNumber) (fun _ => rfl) hn).trans ?_⟩
    · exact congr (congrArg Option.getD hwait) hpage
    · intro k hk
      obtain rfl : g' = k := Option.some.inj (hn.symm.trans (hgt.symm.trans hk))
      exact ⟨rfl, rfl⟩
    · exact congrArg (fun n => (n + 1) % 4294967296) hnum
  · refine ⟨_, exec_frameStartMarker_idle hp ha hs, inForce_keeps count (fun x => x.frame.pendGeometry) fun _ => rfl,
      inForce_keeps count (fun x => x.frame.pendLens) fun _ => rfl,
      inForce_keeps count (fun x => x.frame.pendExposure) fun _ => rfl,
      inForce_keeps count (fun x => x.frame.lens) fun _ => rfl,
      inForce_keeps count (fun x => x.frame.exposure) fun _ => rfl,
      inForce_keeps count (fun x => x.frame.geometry) fun _ => rfl,
      inForce_keeps count (fun x => x.frame.lensPage) fun _ => rfl,
      inForce_keeps count (fun x => x.link.waitLens) fun _ => rfl, ?_,
      (inForce_keeps count (fun x => x.filter.effMode) fun _ => rfl).trans (resolvedMode_eq _), ?_, ?_⟩
    · intro g e hg he
      rw [inForce_keeps count (fun x => x.frame.geometry) fun _ => rfl] at hg
      rw [inForce_keeps count (fun x => x.frame.lensPage[x.frame.lens]?) fun _ => rfl] at he
      exact ⟨(inForce_keeps count (fun x => x.filter.marginX) fun _ => rfl).trans (margined_marginX _ hg he),
        (inForce_keeps count (fun x => x.filter.marginY) fun _ => rfl).trans (margined_marginY _ hg he)⟩
    · intro hg
      exact ⟨discarded_keeps count (fun x => x.frame.state) (fun _ => rfl) hg,
        discarded_keeps count (fun x => x.frame.record) (fun _ => rfl) hg,
        discarded_keeps count (fun x => x.frame.nextNumber) (fun _ => rfl) hg, startFrame_unconfigured count hg⟩
    · intro g hg
      refine ⟨started_keeps count (fun x => x.frame.state) (fun _ => rfl) hg,
        started_keeps count (fun x => x.frame.ring) (fun _ => rfl) hg,
        started_keeps count (fun x => x.frame.nextNumber) (fun _ => rfl) hg,
        startFrame_counter count Counters.unconfigured (fun _ => rfl) hg, newFrame g count (inForce (s.tick dt)),
        started_keeps count (fun x => x.frame.record) (fun _ => rfl) hg, rfl, rfl, rfl,
        (inForce_keeps count (fun x => x.filter.effMode) fun _ => rfl).symm,
        (inForce_keeps count (fun x => x.frame.lens) fun _ => rfl).symm,
        (inForce_keeps count (fun x => x.frame.exposure) fun _ => rfl).symm,
        rfl, rfl, rfl, rfl, rfl, rfl, rfl, rfl, rfl, rfl, rfl⟩

end Sys2Proof.Machine

/-! PROOF. The Segment Buffer's blocks: how bytes are laid into them, and that packing keeps their order. -/

namespace Sys2Proof.Machine

/-! ### Blocks cut from a byte string (R68) -/

theorem splitBlocks_length (n : Nat) (b : Bytes) : (splitBlocks n b).1.length = n := by
  induction n generalizing b with
  | zero => rfl
  | succ n ih => exact congrArg Nat.succ (ih _)

/-- Every block cut is full where the string reaches that far. -/
theorem splitBlocks_full {n : Nat} {b : Bytes} (h : n * 512 ≤ b.length) : ∀ d ∈ (splitBlocks n b).1, d.length = 512 := by
  induction n generalizing b with
  | zero => nofun
  | succ n ih =>
    have hr : n * 512 ≤ (b.drop Config.blockBytes).length := by
      rw [Nat.succ_mul] at h
      exact List.length_drop ▸ Nat.le_sub_of_add_le h
    intro d hd
    obtain rfl | hd := List.mem_cons.1 hd
    · exact List.length_take_of_le (Nat.le_trans (Nat.le_mul_of_pos_left 512 n.succ_pos) h)
    · exact ih hr d hd

/-- The blocks and the rest are the string. -/
theorem splitBlocks_flatten (n : Nat) (b : Bytes) : (splitBlocks n b).1.flatten ++ (splitBlocks n b).2 = b := by
  induction n generalizing b with
  | zero => rfl
  | succ n ih =>
    show (b.take Config.blockBytes ++ (splitBlocks n _).1.flatten) ++ (splitBlocks n _).2 = b
    rw [List.append_assoc, ih, List.take_append_drop]

theorem splitBlocks_rest_length (n : Nat) (b : Bytes) : (splitBlocks n b).2.length = b.length - n * 512 := by
  induction n generalizing b with
  | zero => simp [splitBlocks]
  | succ n ih =>
    refine (ih _).trans ?_
    rw [List.length_drop]; unfold Config.blockBytes; omega

/-! ### Bytes laid behind the packing block's (R68, R72) -/

section
variable (i : Intake) (clip : Nat) (bytes : Bytes)

/-- The full blocks that laying `bytes` behind the packing block's gives. -/
def Intake.newBlocks : List Block :=
  (splitBlocks ((i.packing ++ bytes).length / 512) (i.packing ++ bytes)).1.map (Block.mk clip)

theorem lay_buffer : (i.lay clip bytes).buffer = i.buffer ++ i.newBlocks clip bytes := rfl

theorem newBlocks_full {b : Block} (h : b ∈ i.newBlocks clip bytes) : b.clip = clip ∧ b.data.length = 512 := by
  obtain ⟨d, hd, rfl⟩ := List.mem_map.1 h
  exact ⟨rfl, splitBlocks_full (Nat.div_mul_le_self _ _) d hd⟩

theorem newBlocks_data : (i.newBlocks clip bytes).flatMap Block.data ++ (i.lay clip bytes).packing = i.packing ++ bytes := by
  have h : (i.newBlocks clip bytes).flatMap Block.data =
      (splitBlocks ((i.packing ++ bytes).length / 512) (i.packing ++ bytes)).1.flatten := by
    unfold Intake.newBlocks
    rw [List.flatMap_map]; exact List.flatMap_id ..
  rw [h]; exact splitBlocks_flatten _ _

theorem lay_packing_length : (i.lay clip bytes).packing.length = (i.packing.length + bytes.length) % 512 := by
  refine (splitBlocks_rest_length _ _).trans ?_
  rw [List.length_append]; unfold Config.blockBytes; omega

/-- The occupancy is that of all the bytes, a last block begun counting as one. -/
theorem lay_occupancy : (i.lay clip bytes).occupancy =
    i.buffer.length + (i.packing.length + bytes.length) / 512 +
      (if (i.packing.length + bytes.length) % 512 = 0 then 0 else 1) := by
  have hp := lay_packing_length i clip bytes
  have hn : (i.newBlocks clip bytes).length = (i.packing.length + bytes.length) / 512 := by
    unfold Intake.newBlocks; rw [List.length_map, splitBlocks_length, List.length_append]
  have he : (i.lay clip bytes).packing.isEmpty = decide ((i.packing.length + bytes.length) % 512 = 0) := by
    rw [← hp, Bool.eq_iff_iff, List.isEmpty_iff, decide_eq_true_iff, List.length_eq_zero_iff]
  unfold Intake.occupancy
  rw [lay_buffer, List.length_append, hn, he]
  simp

end

/-! ### The zero fill (R68) -/

/-- Behind the zero fill a header lies within one block. -/
theorem zeroFill_mod {p : Nat} (h : p < 512) : (p + zeroFill p) % 512 ≤ 500 := by
  unfold zeroFill Config.blockBytes Config.headerBytes; split <;> omega

theorem zeroFill_of_room {p : Nat} (h : p ≤ 500) : zeroFill p = 0 := by
  unfold zeroFill Config.blockBytes Config.headerBytes
  rw [if_neg (by omega)]

/-- Settles O28, by the blocks that the bytes laid give. -/
theorem packingLaysBytesInOrder : Obligations.PackingLaysBytesInOrder := by
  intro i clip stored hp hs
  refine ⟨i.newBlocks clip (List.replicate (zeroFill i.packing.length) 0#8 ++ stored), zeroFill i.packing.length, rfl,
    fun b hb => newBlocks_full i clip _ hb, ?_, ?_, zeroFill_mod hp, fun h => zeroFill_of_room (by omega), ?_⟩
  · rw [List.append_assoc]; exact newBlocks_data i clip _
  · exact (lay_packing_length i clip _).trans_lt (Nat.mod_lt _ (by decide))
  · have hl : i.packing.length + (List.replicate (zeroFill i.packing.length) 0#8 ++ stored).length =
        i.packing.length + zeroFill i.packing.length + Config.headerBytes + (stored.length - 12) := by
      rw [List.length_append, List.length_replicate]; unfold Config.headerBytes; omega
    refine (lay_occupancy i clip _).trans ?_
    rw [hl]; rfl

end Sys2Proof.Machine

/-! PROOF. Packets of the record link that are malformed: counted, and answered where their tag can be read. -/

namespace Sys2Proof.Machine

/-! ### Reception (R64) -/

/-- An empty receive store is free already. -/
theorem clearReceive_of_empty {s : State} (h : s.intake.receive = []) : clearReceive s = s := by
  show { s with intake := { s.intake with receive := [] } } = s
  rw [← h]

/-- A part at rest stays at rest where counters change. -/
theorem AtRest.mapCounters {s : State} (h : AtRest s) (f : Counters → Counters) : AtRest (s.mapCounters f) :=
  h.congr rfl rfl rfl rfl rfl

/-- Sending an answer does not read the counters. -/
theorem sent_mapCounters (a : Answer) (f : Counters → Counters) (s : State) :
    sent a (s.mapCounters f) = (sent a s).mapCounters f := by
  unfold sent; rw [show atOnce (s.mapCounters f) = atOnce s from rfl]; split <;> rfl

section
variable {dt : Nat} {bytes : Bytes} {s : State}

/-- What is received of a packet is taken as its bytes, and nothing follows where that leads to rest. -/
theorem Ready.receives {t : State} (h : Ready s) (ht : AtRest t)
    (hb : receivePacket bytes (s.tick dt) = t) : exec (.malformedPacket dt bytes) s = .next t :=
  ht.act h.1.1 ((if_pos h.1.2.1).trans hb)

/-- A packet of which only the count is made. -/
theorem Ready.counts (h : Ready s) (hb : receivePacket bytes (s.tick dt) = countMalformed (s.tick dt)) :
    exec (.malformedPacket dt bytes) s =
      .next ((s.tick dt).mapCounters fun k => { k with malformed := satAdd k.malformed 1 }) :=
  h.receives ((h.2.tick dt).mapCounters _) hb

/-- A packet that is counted and answered. -/
theorem Ready.counts_and_answers {code tag : Byte} (h : Ready s)
    (hb : receivePacket bytes (s.tick dt) = enqueueAnswer ⟨tag, code, .malformed, []⟩ (countMalformed (s.tick dt))) :
    exec (.malformedPacket dt bytes) s = .next ((answered dt code.toNat tag .malformed [] s).mapCounters fun k =>
      { k with malformed := satAdd k.malformed 1 }) := by
  have hr : AtRest (countMalformed (s.tick dt)) := (h.2.tick dt).mapCounters _
  have ha : enqueueAnswer ⟨tag, code, .malformed, []⟩ (countMalformed (s.tick dt)) =
      sent ⟨tag, code, .malformed, []⟩ (countMalformed (s.tick dt)) := enqueueAnswer_of_departed hr.2.2 hr.2.1 h.1.2.2.2
  have he : sent ⟨tag, code, .malformed, []⟩ (countMalformed (s.tick dt)) =
      (answered dt code.toNat tag .malformed [] s).mapCounters fun k => { k with malformed := satAdd k.malformed 1 } := by
    unfold answered countMalformed
    rw [sent_mapCounters, BitVec.ofNat_toNat, BitVec.setWidth_eq]
  refine h.receives ?_ (hb.trans (ha.trans he))
  rw [← he]; exact hr.sent h.1.2.2.2

end

/-! ### A packet by its bytes (R64 to R66, R175) -/

section
variable {s : State}

/-- A part that is ready has room for an answer. -/
theorem Ready.queueFull (h : Ready s) : queueFull s = false := decide_eq_false (Nat.not_le.2 (Nat.lt_of_succ_lt h.1.2.2.2))

section
variable {bytes body : Bytes} {l0 l1 : Byte} (hr : s.intake.receive = [])
include hr

theorem receivePacket_short (h : bytes.length < 3) : receivePacket bytes s = countMalformed s := by
  unfold receivePacket; rw [clearReceive_of_empty hr]
  match bytes, h with
  | [], _ => rfl
  | [_], _ => rfl
  | [_, _], _ => rfl

theorem receivePacket_kind (h : bytes.head? ≠ some 1#8 ∧ bytes.head? ≠ some 2#8) :
    receivePacket bytes s = countMalformed s := by
  unfold receivePacket; rw [clearReceive_of_empty hr]
  match bytes, h with
  | [], _ => rfl
  | [_], _ => rfl
  | [_, _], _ => rfl
  | k :: _ :: _ :: _, h => exact if_pos (by simpa using h)

/-- A kind that is known and a wrong length field make the packet malformed by its header. -/
theorem receivePacket_length {k : Byte} (hk : k = 1#8 ∨ k = 2#8) (h : l0.toNat + 256 * l1.toNat ≠ body.length) :
    receivePacket (k :: l0 :: l1 :: body) s = malformedHeader (k :: l0 :: l1 :: body) s := by
  unfold receivePacket; rw [clearReceive_of_empty hr]
  exact (if_neg (by rintro ⟨h1, h2⟩; exact hk.elim h1 h2)).trans (if_pos h)

theorem receivePacket_clip (h : l0.toNat + 256 * l1.toNat = body.length) :
    receivePacket (1#8 :: l0 :: l1 :: body) s = receiveClip body s := by
  unfold receivePacket; rw [clearReceive_of_empty hr]
  exact (if_neg (by simp)).trans ((if_neg (by simpa using h)).trans (if_pos rfl))

theorem receivePacket_directive (h : l0.toNat + 256 * l1.toNat = body.length) :
    receivePacket (2#8 :: l0 :: l1 :: body) s = receiveDirective body s := by
  unfold receivePacket; rw [clearReceive_of_empty hr]
  exact (if_neg (by simp)).trans ((if_neg (by simpa using h)).trans (if_neg (by simp)))

end

/-- The two bytes of a length read back (R189). -/
theorem length_field {n : Nat} (h : n < 65536) : (BitVec.ofNat 8 n).toNat + 256 * (BitVec.ofNat 8 (n / 256)).toNat = n := by
  rw [BitVec.toNat_ofNat, BitVec.toNat_ofNat]; omega

/-- A CLIP packet's body that is short, or of no stream there is (R65). -/
theorem receiveClip_malformed {body : Bytes}
    (h : body.length < 10 ∨ (body.head? ≠ some 1#8 ∧ body.head? ≠ some 2#8)) : receiveClip body s = countMalformed s := by
  match body, h with
  | [], _ => rfl
  | [_], _ => rfl
  | st :: _ :: rest, h =>
    unfold receiveClip
    by_cases hl : rest.length < 8
    · exact if_pos hl
    · obtain ⟨h1, h2⟩ : st ≠ 1#8 ∧ st ≠ 2#8 := by
        obtain h | h := h
        · simp only [List.length_cons] at h; omega
        · simpa using h
      exact (if_neg hl).trans ((if_neg h1).trans (if_neg h2))

/-- A header that is malformed before a tag is only counted. -/
theorem malformedHeader_clip (l0 l1 : Byte) (body : Bytes) :
    malformedHeader (1#8 :: l0 :: l1 :: body) s = countMalformed s := by
  cases body with
  | nil => rfl
  | cons t r => rfl

theorem malformedHeader_directive (l0 l1 tag : Byte) (rest : Bytes) (h : queueFull s = false) :
    malformedHeader (2#8 :: l0 :: l1 :: tag :: rest) s =
      enqueueAnswer ⟨tag, rest.headD 0#8, .malformed, []⟩ (countMalformed s) := by
  have hq : ¬queueFull (countMalformed s) = true := by
    rw [show queueFull (countMalformed s) = queueFull s from rfl, h]; nofun
  unfold malformedHeader
  exact (if_pos rfl).trans (if_neg hq)

end

/-- Settles O30, by what is wrong with the packet. -/
theorem malformedPacketIsCounted : Obligations.MalformedPacketIsCounted := by
  intro dt bytes s h
  have hr : (s.tick dt).intake.receive = [] := h.1.2.2.1
  have hq : queueFull (s.tick dt) = false := h.queueFull
  refine ⟨fun hb => h.counts ?_, ?_, ?_⟩
  · obtain hb | hb | ⟨l0, l1, body, rfl, hb⟩ | ⟨body, rfl, hl, hb⟩ | ⟨l0, l1, rfl⟩ := hb
    · exact receivePacket_short hr hb
    · exact receivePacket_kind hr hb
    · rw [receivePacket_length hr (.inl rfl) hb, malformedHeader_clip]
    · exact (receivePacket_clip hr (length_field hl)).trans (receiveClip_malformed hb)
    · by_cases hl : l0.toNat + 256 * l1.toNat = 0
      · rw [receivePacket_directive hr hl]
        exact if_neg (by rw [hq]; nofun)
      · rw [receivePacket_length hr (.inr rfl) hl]; rfl
  · rintro l0 l1 tag rfl
    refine h.counts_and_answers (code := 0#8) ?_
    by_cases hl : l0.toNat + 256 * l1.toNat = 1
    · rw [receivePacket_directive hr hl]
      exact if_neg (by rw [hq]; nofun)
    · rw [receivePacket_length hr (.inr rfl) hl, malformedHeader_directive _ _ _ _ hq]; rfl
  · rintro l0 l1 tag code rest rfl hl
    refine h.counts_and_answers ?_
    rw [receivePacket_length hr (.inr rfl) hl, malformedHeader_directive _ _ _ _ hq]; rfl

end Sys2Proof.Machine

/-! PROOF. Rest while a write is in flight, and clip packets that are discarded, dropped or packed. -/

namespace Sys2Proof.Machine

/-! ### Rest while a write is in flight, and under changes of Record Intake and of the index -/

theorem emptyClosing_eq_nil_iff (s : State) : emptyClosing s = [] ↔
    ∀ c ∈ s.store.index, c.state = .closing → c.dataBlocks = 0 → s.intake.holds c.number = true := by
  simp [emptyClosing, List.filter_eq_nil_iff]

/-- Beside a write of the writer in flight, only a close can be due. -/
theorem pumpStep_beside_write {s : State} (hw : s.card.writing = true) (hi : s.card.state ≠ .idle)
    (he : emptyClosing s = []) (hc : s.store.settled = false ∨ s.store.writer = .recording) : pumpStep s = none := by
  rw [pumpStep_eq_none_iff]
  refine ⟨?_, by simp [flushSpent, hw], if_pos (by simp [writerFree, hw]), fun h => hi h.1⟩
  unfold closeWork
  rw [he]
  obtain hc | hc := hc <;> simp [hc]

/-- A part at rest stays at rest beside a write in flight, where nothing is left to close and HOLD is as judged. -/
theorem AtRest.beside_write {s t : State} (h : AtRest s) (hw : t.card.writing = true) (hi : t.card.state ≠ .idle)
    (he : emptyClosing t = []) (hc : t.store.settled = false ∨ t.store.writer = .recording) (hj : judgeHold t = t)
    (ht : t.trig.waiting = s.trig.waiting) (ho : t.outbox = s.outbox) : AtRest t :=
  ⟨(settleStep_eq_none_iff t).2 ⟨ht.trans h.waiting, pumpStep_beside_write hw hi he hc⟩, hj,
    (outbox_congr ho).2.1.trans h.2.2⟩

/-- HOLD stands where its buffer cause is judged as it is. -/
theorem judgeHold_of_bufCause {s t : State} (h : judgeHold s = s) (hb : bufCauseNow t = s.intake.bufCause)
    (ha : t.link.answers = s.link.answers)
    (hi : t.intake.bufCause = s.intake.bufCause ∧ t.intake.ansCause = s.intake.ansCause ∧ t.intake.hold = s.intake.hold) :
    judgeHold t = t := by
  rw [judgeHold_eq_self_iff] at h ⊢
  obtain ⟨h1, h2, h3⟩ := h
  rw [hi.1, hi.2.1, hi.2.2, hb, show ansCauseNow t = ansCauseNow s by unfold ansCauseNow; rw [ha]]
  exact ⟨rfl, h2, by rw [h1]; exact h3⟩

/-- The intake record and the stall timer give no work. -/
theorem AtRest.setIntake {s : State} (h : AtRest s) (r : Option IntakeRec) (n : Option Nat) :
    AtRest (s.mapIntake fun i => { i with record := r, stallEnd := n }) := by
  have hp := ((settleStep_eq_none_iff s).1 h.1).2
  refine ⟨(settleStep_eq_none_iff _).2 ⟨h.waiting, ?_⟩, ?_, h.2.2⟩
  · rw [pumpStep_eq_none_iff] at hp ⊢; exact hp
  · have hj := h.2.1
    rw [judgeHold_eq_self_iff] at hj ⊢; exact hj

/-- The stall timer restarts in a part at rest. -/
theorem AtRest.startStall {s : State} (h : AtRest s) : AtRest (startStall s) := h.setIntake s.intake.record _

/-- The flags of the records give no work. -/
theorem AtRest.reflagged {s : State} (h : AtRest s) (F : Clip → ClipFlags) : AtRest (reflagged F s) := by
  have hp := ((settleStep_eq_none_iff s).1 h.1).2
  refine ⟨(settleStep_eq_none_iff _).2 ⟨h.waiting, (pumpStep_reflagged F s).2 hp⟩, ?_, h.2.2⟩
  have hj := h.2.1
  rw [judgeHold_eq_self_iff] at hj ⊢; exact hj

/-- Changes of Record Intake and the store are told apart by what they make of these two blocks. -/
theorem mapIntake_mapStore_congr {s : State} {f f' : Intake → Intake} {g g' : Store → Store}
    (hf : f s.intake = f' s.intake) (hg : g s.store = g' s.store) :
    (s.mapIntake f).mapStore g = (s.mapIntake f').mapStore g' := by
  show { s with intake := f s.intake, store := g s.store } = _
  rw [hf, hg]; rfl

/-! ### CLIP_PACKET received (R64, R67) -/

section
variable {dt : Nat} {stream : ClipStream} {flags : Byte} {pts : BitVec 64} {payload : Bytes} {s : State}

/-- A clip packet is received on an AWAKE link, and nothing follows where that leads to rest. -/
theorem exec_clipPacket_rest {t : State} (hp : s.powered = true) (ha : s.link.awake = true) (hr : s.intake.receive = [])
    (hl : payload.length ≤ 65525) (ht : takeClipPacket stream flags pts.toNat payload (s.tick dt) = t) (h : AtRest t) :
    exec (.clipPacket dt stream flags pts payload) s = .next t := by
  refine h.act hp ((if_pos ha).trans ((if_neg ?_).trans ?_))
  · unfold Config.bodyLimit Config.clipHeaderBytes; omega
  · rw [clearReceive_of_empty (s := s.tick dt) hr]; exact ht

end

section
variable {stream : ClipStream} {flags : Byte} {pts : Nat} {payload : Bytes} {s : State}

theorem isKey_eq_false (h : stream = .audio ∨ flags.getLsbD 0 = false) : isKey stream flags = false := by
  unfold isKey isSync
  obtain rfl | h := h
  · rfl
  · rw [h, Bool.and_false]

theorem takeClipPacket_discarded (h : s.store.writer ≠ .recording ∨
      (∃ r, s.intake.record = some r ∧ r.syncMet = false ∧ isKey stream flags = false)) :
    takeClipPacket stream flags pts payload s = discardPacket s := by
  unfold takeClipPacket
  split
  · next hr =>
    refine if_neg ?_
    obtain h | ⟨r', hr', hs, hk⟩ := h
    · simp [h]
    · rw [hr'] at hr; cases hr
      simp [hs, hk]
  · rfl

variable {c : Clip} {r : IntakeRec}

theorem takeClipPacket_accepted (hc : s.store.openClip = some c) (hr : s.intake.record = some r)
    (hw : s.store.writer = .recording) (hk : r.syncMet = true ∨ isKey stream flags = true) :
    takeClipPacket stream flags pts payload s = acceptPacket c r stream flags pts payload s := by
  unfold takeClipPacket
  rw [hc, hr]
  exact if_pos (by rw [hw]; simpa using hk)

theorem acceptPacket_unsplit (h : (isKey stream flags && splitWanted c r pts (startStall s)) = false) :
    acceptPacket c r stream flags pts payload s = packOrDrop r (streamOf stream) flags pts payload (startStall s) :=
  if_neg (by rw [h]; nofun)

end

/-! ### A dropped packet (R69) -/

theorem packOrDrop_drops {r : IntakeRec} {stream : Stream} {flags : Byte} {pts : Nat} {payload : Bytes} {s : State}
    (h : s.intake.fits payload.length = false) :
    packOrDrop r stream flags pts payload s = dropPacket r stream pts s := if_neg (by rw [h]; nofun)

/-- A packet is dropped: counted, its clip takes GAP, and the drop is marked in the intake record. -/
def dropped (r : IntakeRec) (s : State) : State :=
  updateIntake dropMarked
    (reflagged (gapOn r.clip) (s.mapCounters fun k => { k with packetsDropped := satAdd k.packetsDropped 1 }))

theorem AtRest.dropped {s : State} (h : AtRest s) (r : IntakeRec) : AtRest (dropped r s) :=
  ((h.mapCounters _).reflagged _).setIntake _ _

section
variable {s : State} {r : IntakeRec} (stream : Stream) (pts : Nat)

theorem dropPacket_again (hr : s.intake.record = some r) (hd : r.dropReported = true) :
    dropPacket r stream pts s = dropped r s := by
  have hm : s.intake.record.map dropMarked = s.intake.record := by
    rw [hr]; unfold dropMarked; rw [Option.map_some, ← hd]
  rw [dropPacket_eq]
  dsimp only
  rw [if_pos hd]
  unfold dropped
  show _ = { reflagged _ _ with intake := { s.intake with record := s.intake.record.map dropMarked } }
  rw [hm]; rfl

/-- The clip's first drop is reported (R69). -/
theorem dropPacket_first (h : AtRest s) (hl : s.link.reports.length < 32) (hd : r.dropReported = false) :
    dropPacket r stream pts s = reported (.bufferDrop r.clip stream pts) (dropped r s) := by
  rw [dropPacket_eq]
  dsimp only
  rw [if_neg (by rw [hd]; nofun)]
  exact report_of_departed (h.dropped r).2.2 hl

end

/-! ### A packed packet (R68, R75) -/

/-- What a packed video packet makes of the records (R75). -/
def tracked (n pts : Nat) (c : Clip) : Clip :=
  if c.number = n then { c with firstPts := some (c.firstPts.getD pts), duration := pts - c.firstPts.getD pts } else c

theorem tracked_core (n pts : Nat) (c : Clip) :
    (tracked n pts c).number = c.number ∧ (tracked n pts c).state = c.state ∧ (tracked n pts c).dataBlocks = c.dataBlocks := by
  unfold tracked; split <;> exact ⟨rfl, rfl, rfl⟩

/-- A packet that fits is packed, and a video one tracked; HOLD is not judged yet. -/
def packed (r : IntakeRec) (stream : Stream) (flags : Byte) (pts : Nat) (payload : Bytes) (s : State) : State :=
  let u := s.mapIntake fun i => i.pack r.clip (storedHeader stream flags payload.length pts ++ payload)
  if stream = .video then trackVideo r.clip pts (isSync flags) u else u

section
variable (r : IntakeRec) (stream : Stream) (flags : Byte) (pts : Nat) (payload : Bytes) {s : State}

theorem packOrDrop_fits (h : s.intake.fits payload.length = true) :
    packOrDrop r stream flags pts payload s = judgeHold (packed r stream flags pts payload s) := if_pos h

/-- What neither packing nor tracking changes. -/
theorem packed_keeps {α : Type} (f : State → α) (h : ∀ u : State, f (u.mapIntake fun _ => s.intake) = f u)
    (hx : ∀ (u : State) (l : List Clip), f (u.mapStore fun st => { st with index := l }) = f u) :
    f (packed r stream flags pts payload s) = f s := by
  unfold packed; dsimp only; split
  · exact (h _).symm.trans (hx s _)
  · exact (h _).symm

theorem packed_intake : (packed r stream flags pts payload s).intake =
    { s.intake.pack r.clip (storedHeader stream flags payload.length pts ++ payload) with
      record := (packed r stream flags pts payload s).intake.record } := by
  unfold packed; dsimp only; split <;> rfl

theorem packed_index : (packed r stream flags pts payload s).store.index =
    s.store.index.map (if stream = .video then tracked r.clip pts else id) := by
  unfold packed; dsimp only; split
  · rfl
  · exact (List.map_id _).symm

/-- Packing leaves no record to remove. -/
theorem emptyClosing_packed (h : emptyClosing s = []) : emptyClosing (packed r stream flags pts payload s) = [] := by
  rw [emptyClosing_eq_nil_iff] at h ⊢
  rw [packed_index, packed_intake]
  intro d hd
  obtain ⟨c, hc, rfl⟩ := List.mem_map.1 hd
  have hk : ∀ F : Clip → Clip, (F c).number = c.number ∧ (F c).state = c.state ∧ (F c).dataBlocks = c.dataBlocks →
      (F c).state = .closing → (F c).dataBlocks = 0 →
      ({ s.intake.pack r.clip (storedHeader stream flags payload.length pts ++ payload) with
        record := (packed r stream flags pts payload s).intake.record } : Intake).holds (F c).number = true := by
    rintro F ⟨hn, hs, hb⟩ h1 h2
    have hh := h c hc (hs ▸ h1) (hb ▸ h2)
    rw [hn]
    exact List.any_append.trans (by rw [show s.intake.buffer.any _ = true from hh]; rfl)
  split
  · exact hk _ (tracked_core r.clip pts c)
  · exact hk id ⟨rfl, rfl, rfl⟩

end

/-- A packet that fits is packed into the RECORDING clip beside a write in flight: HOLD stands where the buffer stays above
the hold mark, and nothing follows. -/
theorem AtRest.packs {s : State} (h : AtRest s) {r : IntakeRec} {stream : Stream} {flags : Byte} {pts : Nat}
    {payload : Bytes} (hw : s.card.writing = true) (hi : s.card.state ≠ .idle) (hrec : s.store.writer = .recording)
    (hf : s.intake.fits payload.length = true) (hb : s.intake.bufCause = false)
    (hm : s.store.tab.holdMark ≤
      (s.intake.pack r.clip (storedHeader stream flags payload.length pts ++ payload)).freeBlocks) :
    packOrDrop r stream flags pts payload s = packed r stream flags pts payload s ∧
      AtRest (packed r stream flags pts payload s) := by
  have hk := fun {α : Type} (f : State → α) => packed_keeps (s := s) r stream flags pts payload f
  have hwr := (hk (fun t => t.store.writer) (fun _ => rfl) fun _ _ => rfl).trans hrec
  have hin := packed_intake (s := s) r stream flags pts payload
  have hcard := hk State.card (fun _ => rfl) fun _ _ => rfl
  have he : emptyClosing s = [] := by
    have hp := ((pumpStep_eq_none_iff s).1 ((settleStep_eq_none_iff s).1 h.1).2).1
    simp only [closeWork, Bool.or_eq_false_iff, Bool.not_eq_false', List.isEmpty_iff] at hp
    exact hp.1
  have hj : judgeHold (packed r stream flags pts payload s) = packed r stream flags pts payload s := by
    refine judgeHold_of_bufCause h.2.1 ?_ ?_ ?_
    · unfold bufCauseNow
      rw [hwr, hin, hk (fun t => t.store.tab) (fun _ => rfl) fun _ _ => rfl]
      rw [if_neg (by nofun)]
      refine (if_neg (Nat.not_lt.2 hm)).trans ?_
      split
      · exact hb.symm
      · rfl
    · exact hk (fun t => t.link.answers) (fun _ => rfl) fun _ _ => rfl
    · rw [hin]; exact ⟨rfl, rfl, rfl⟩
  refine ⟨(packOrDrop_fits r stream flags pts payload hf).trans hj, ?_⟩
  exact h.beside_write (hcard ▸ hw) (hcard ▸ hi) (emptyClosing_packed r stream flags pts payload he) (.inr hwr) hj
    (hk (fun t => t.trig.waiting) (fun _ => rfl) fun _ _ => rfl) (hk State.outbox (fun _ => rfl) fun _ _ => rfl)

end Sys2Proof.Machine

/-! PROOF. A split of the OPEN clip, and what becomes of a clip packet. -/

namespace Sys2Proof.Machine

/-! ### Clip packets that split nothing (R67 to R69, R75) -/

/-- The stall timer takes no room. -/
theorem startStall_fits (s : State) (m : Nat) : (startStall s).intake.fits m = s.intake.fits m := rfl

theorem startStall_pack_freeBlocks (s : State) (n : Nat) (b : Bytes) :
    ((startStall s).intake.pack n b).freeBlocks = (s.intake.pack n b).freeBlocks := rfl

section
variable {dt : Nat} {stream : ClipStream} {flags : Byte} {pts : BitVec 64} {payload : Bytes} {c : Clip} {r : IntakeRec}
  {s : State}

/-- An accepted packet that is packed into the OPEN clip without a split. -/
theorem clipPacket_packed (hp : s.powered = true) (ha : s.link.awake = true) (hrc : s.intake.receive = []) (h : AtRest s)
    (hc : s.store.openClip = some c) (hw : s.store.writer = .recording) (hr : s.intake.record = some r)
    (hk : r.syncMet = true ∨ isKey stream flags = true)
    (hs : (isKey stream flags && splitWanted c r pts.toNat (startStall (s.tick dt))) = false) (hl : payload.length ≤ 65525)
    (hf : s.intake.fits payload.length = true) (hi : s.card.state ≠ .idle) (hwr : s.card.writing = true)
    (hb : s.intake.bufCause = false) (hm : s.store.tab.holdMark ≤
      (s.intake.pack r.clip (storedHeader (streamOf stream) flags payload.length pts.toNat ++ payload)).freeBlocks) :
    exec (.clipPacket dt stream flags pts payload) s =
      .next (packed r (streamOf stream) flags pts.toNat payload (startStall (s.tick dt))) := by
  obtain ⟨he, hat⟩ := (h.tick dt).startStall.packs (r := r) (stream := streamOf stream) (flags := flags)
    (pts := pts.toNat) (payload := payload) hwr hi hw ((startStall_fits _ _).trans hf) hb
    (hm.trans_eq (startStall_pack_freeBlocks _ _ _).symm)
  exact exec_clipPacket_rest hp ha hrc hl
    ((takeClipPacket_accepted (s := s.tick dt) hc hr hw hk).trans ((acceptPacket_unsplit hs).trans he)) hat

/-- An accepted packet that finds no room and splits nothing. -/
theorem clipPacket_dropped (hp : s.powered = true) (ha : s.link.awake = true) (hrc : s.intake.receive = []) (h : AtRest s)
    (hc : s.store.openClip = some c) (hw : s.store.writer = .recording) (hr : s.intake.record = some r)
    (hsm : r.syncMet = true) (hk : isKey stream flags = false) (hl : payload.length ≤ 65525)
    (hf : s.intake.fits payload.length = false) (hq : s.link.reports.length < 32) :
    exec (.clipPacket dt stream flags pts payload) s = .next
      (if r.dropReported then dropped r (startStall (s.tick dt))
        else reported (.bufferDrop r.clip (streamOf stream) pts.toNat) (dropped r (startStall (s.tick dt)))) := by
  have hst := (h.tick dt).startStall
  have ht : takeClipPacket stream flags pts.toNat payload (s.tick dt) =
      dropPacket r (streamOf stream) pts.toNat (startStall (s.tick dt)) :=
    (takeClipPacket_accepted (s := s.tick dt) hc hr hw (.inl hsm)).trans
      ((acceptPacket_unsplit (by rw [hk]; rfl)).trans (packOrDrop_drops ((startStall_fits _ _).trans hf)))
  cases hd : r.dropReported with
  | true => exact exec_clipPacket_rest hp ha hrc hl (ht.trans (dropPacket_again _ _ hr hd)) (hst.dropped r)
  | false => exact exec_clipPacket_rest hp ha hrc hl (ht.trans (dropPacket_first _ _ hst hq hd)) (hst.dropped r).reported

end

/-! ### The last block completed (R71, R72) -/

/-- The packing block of clip `n`, if begun, is completed and enters the buffer. -/
def Intake.completed (n : Nat) (i : Intake) : Intake :=
  { i with buffer := if i.packing = [] then i.buffer else i.buffer ++ [⟨n, i.packing ++ padding i.packing.length⟩],
           packing := [] }

theorem completePacking_eq (n : Nat) (s : State) : completePacking n s = s.mapIntake (Intake.completed n) := by
  have he : s.intake.packing.isEmpty = true ↔ s.intake.packing = [] := List.isEmpty_iff
  unfold completePacking
  split
  · next h =>
    have hp := he.1 h
    show s = { s with intake := { s.intake with buffer := if s.intake.packing = [] then _ else _, packing := [] } }
    rw [if_pos hp, ← hp]
  · next h =>
    show _ = { s with intake := { s.intake with buffer := if s.intake.packing = [] then _ else _, packing := [] } }
    rw [if_neg (mt he.2 h)]; rfl

/-- The block that was being packed was counted already. -/
theorem completed_occupancy (n : Nat) (i : Intake) : (i.completed n).occupancy = i.occupancy := by
  unfold Intake.completed Intake.occupancy
  cases i.packing <;> simp

/-! ### The newest clip of the index -/

/-- Records that are none of number `n` are not touched. -/
theorem map_of_other {n : Nat} {f : Clip → Clip} {l : List Clip} (h : ∀ d ∈ l, d.number ≠ n) :
    (l.map fun d => if d.number = n then f d else d) = l :=
  (List.map_congr_left fun d hd => if_neg (h d hd)).trans l.map_id'

/-- The newest record changed by its number. -/
theorem map_newest {c : Clip} {f : Clip → Clip} {l : List Clip} (h : ∀ d ∈ l, d.number ≠ c.number) :
    ((l ++ [c]).map fun d => if d.number = c.number then f d else d) = l ++ [f c] := by
  rw [List.map_append, map_of_other h]
  exact congrArg (fun d => l ++ [d]) (if_pos rfl)

/-- The records behind the CLOSED ones do not change what may be reclaimed. -/
theorem find_reclaimable_append (before : List Clip) {l : List Clip} (h : ∀ d ∈ l, d.state ≠ .closed) :
    (before ++ l).find? Clip.reclaimable = before.find? Clip.reclaimable := by
  have hl : l.find? Clip.reclaimable = none := List.find?_eq_none.2 fun d hd => by simp [Clip.reclaimable, h d hd]
  rw [List.find?_append, hl, Option.or_none]

/-- The extents of the locked records of `l`. -/
def lockedOf (l : List Clip) : Nat := ((l.filter Clip.locked).map Clip.extentCount).sum

theorem lockedOf_append (l m : List Clip) : lockedOf (l ++ m) = lockedOf l + lockedOf m := by
  unfold lockedOf; rw [List.filter_append, List.map_append, List.sum_append]

theorem judgeStore_of_judged {s : State} (h : StoreJudged s) : judgeStore s = s := by
  obtain ⟨h1, h2⟩ := h
  unfold judgeStore
  dsimp only
  rw [← h1, ← h2]
  simp only [bne_self_eq_false, Bool.and_false, Bool.or_false, Bool.false_eq_true, if_false]
  rfl

/-- STORE_LOW and LOCK_NEAR stand where the records that change are not CLOSED and lock the same extents. -/
theorem StoreJudged.of_tail {s t : State} {before l m : List Clip} (h : StoreJudged s)
    (hs : { t.store with index := s.store.index, nextClip := s.store.nextClip, writer := s.store.writer } = s.store)
    (hsx : s.store.index = before ++ l) (htx : t.store.index = before ++ m) (hl : ∀ d ∈ l, d.state ≠ .closed)
    (hm : ∀ d ∈ m, d.state ≠ .closed) (hk : lockedOf m = lockedOf l) : StoreJudged t := by
  have hst : t.store.state = s.store.state := by rw [← hs]
  have hfr : t.store.free = s.store.free := by rw [← hs]
  have htb : t.store.tab = s.store.tab := by rw [← hs]
  have hqe : t.store.quotaEff = s.store.quotaEff := by rw [← hs]
  have hlo : t.store.storeLow = s.store.storeLow := by rw [← hs]
  have hln : t.store.lockNear = s.store.lockNear := by rw [← hs]
  have hor : t.store.oldestReclaimable = s.store.oldestReclaimable := by
    unfold Store.oldestReclaimable
    rw [hsx, htx, find_reclaimable_append before hl, find_reclaimable_append before hm]
  have hle : t.store.lockedExtents = s.store.lockedExtents := by
    show lockedOf t.store.index = lockedOf s.store.index
    rw [hsx, htx, lockedOf_append, lockedOf_append, hk]
  obtain ⟨h1, h2⟩ := h
  unfold StoreJudged storeLowNow lockNearNow at *
  rw [hst, hfr, htb, hqe, hlo, hln, hor, hle]
  exact ⟨h1, h2⟩

end Sys2Proof.Machine

/-! PROOF. A split of the OPEN clip: the clip closed, the next one opened or the writer stopped. -/

namespace Sys2Proof.Machine

/-! ### The opening test (R97) -/

theorem openingTest_passes {s : State} (hl : s.store.index.length < 512)
    (hf : s.store.free ≠ [] ∨ s.store.oldestReclaimable.isSome = true) (hn : s.store.nextClip < 4294967296) :
    openingTest s = (true, s) := by
  unfold openingTest Config.indexSize Config.cardBlocks
  rw [if_neg (Nat.not_le.2 hl)]
  refine Prod.ext ?_ rfl
  dsimp only
  rw [decide_eq_true hl, decide_eq_true hn]
  obtain hf | hf := hf <;> simp [hf]

/-- With nothing to reclaim, a full index or an empty Free List fails it. -/
theorem openingTest_fails {s : State} (hr : s.store.oldestReclaimable = none)
    (h : 512 ≤ s.store.index.length ∨ s.store.free = []) : openingTest s = (false, s) := by
  unfold openingTest Config.indexSize
  rw [hr]
  dsimp only
  rw [ite_self]
  refine Prod.ext ?_ rfl
  obtain h | h := h
  · simp [Nat.not_lt.2 h]
  · simp [h, hr]

/-! ### What a report leaves of the rest -/

theorem reported_mapIntake (p : Payload) (f : Intake → Intake) (s : State) :
    reported p (s.mapIntake f) = (reported p s).mapIntake f := by
  unfold reported; rw [show atOnce (s.mapIntake f) = atOnce s from rfl]; split <;> rfl

theorem reported_mapStore (p : Payload) (f : Store → Store) (s : State) :
    reported p (s.mapStore f) = (reported p s).mapStore f := by
  unfold reported; rw [show atOnce (s.mapStore f) = atOnce s from rfl]; split <;> rfl

section
variable (p : Payload) (s : State)
theorem reported_intake : (reported p s).intake = s.intake := by unfold reported; split <;> rfl
theorem reported_store : (reported p s).store = s.store := by unfold reported; split <;> rfl
theorem reported_card : (reported p s).card = s.card := by unfold reported; split <;> rfl
end

/-- A packet packed behind a report. -/
theorem packed_reported (p : Payload) (r : IntakeRec) (stream : Stream) (flags : Byte) (pts : Nat) (payload : Bytes)
    (s : State) :
    packed r stream flags pts payload (reported p s) = reported p (packed r stream flags pts payload s) := by
  unfold packed trackVideo updateClip updateIntake
  dsimp only
  split
  · rw [reported_mapStore, reported_mapIntake, reported_mapIntake]
  · rw [reported_mapIntake]

/-! ### Judgements that stand -/

/-- The buffer cause reads the occupancy, the marks and whether the writer is EMERGENCY. -/
theorem bufCauseNow_congr {s t : State} (hs : s.store.writer ≠ .emergency) (ht : t.store.writer ≠ .emergency)
    (ho : t.intake.occupancy = s.intake.occupancy) (hb : t.intake.bufCause = s.intake.bufCause)
    (hm : t.store.tab = s.store.tab) : bufCauseNow t = bufCauseNow s := by
  unfold bufCauseNow Intake.freeBlocks
  rw [if_neg hs, if_neg ht, ho, hb, hm]

/-- Where nothing is left to close, nothing follows a close. -/
theorem afterClose_of_nothing {s : State} (he : emptyClosing s = []) (hs : s.store.settled = false) (hj : judgeHold s = s)
    (hst : StoreJudged s) : afterClose s = s := by
  have hr : reapEmpty s = s := by unfold reapEmpty; rw [he]; rfl
  have hw : restWriter s = s := if_pos (by rw [hs]; rfl)
  unfold afterClose
  rw [hr, hw, hj, judgeStore_of_judged hst]

/-! ### The OPEN clip closed (R71, R76, R77) -/

/-- The OPEN clip `c` behind `before` is CLOSING with `q`, its last block completed. -/
def splitOff (q : CloseReason) (before : List Clip) (c : Clip) (s : State) : State :=
  (s.mapIntake (Intake.completed c.number)).mapStore fun st => { st with index := before ++ [setClosing q c] }

/-- The record of clip `n`, just opened at part time `time` (R97). -/
def openedRecord (n start time : Nat) : Clip :=
  { number := n, state := .opened, locked := false, flags := ClipFlags.empty, start := start, openTime := some time,
    firstPts := none, duration := 0, firstExtent := none, lastExtent := none, extentCount := 0, dataBlocks := 0,
    markers := [], reason := none, phase := .none, finalBegun := false }

/-- The clip `c` behind `before` is CLOSING with SPLIT, and the next clip OPEN with a fresh intake record. -/
def splitInto (before : List Clip) (c : Clip) (s : State) : State :=
  freshIntake s.store.nextClip ((splitOff .split before c s).mapStore fun st =>
    { st with index := st.index ++ [openedRecord st.nextClip c.start s.partTime], nextClip := st.nextClip + 1 })

/-- The clip `c` behind `before` is CLOSING with FULL, and the writer STOPPING. -/
def splitFull (before : List Clip) (c : Clip) (s : State) : State :=
  setWriter .stopping (endIntake (splitOff .full before c s))

theorem splitInto_index (before : List Clip) (c : Clip) (s : State) : (splitInto before c s).store.index =
    before ++ setClosing .split c :: [openedRecord s.store.nextClip c.start s.partTime] :=
  List.append_assoc ..

theorem splitFull_index (before : List Clip) (c : Clip) (s : State) :
    (splitFull before c s).store.index = before ++ setClosing .full c :: [] := rfl

theorem splitFull_writer (before : List Clip) (c : Clip) (s : State) :
    (splitFull before c s).store.writer = .stopping := rfl

/-- The CLOSING clip is still to be written. -/
theorem splitFull_unsettled (before : List Clip) (c : Clip) (s : State) :
    (splitFull before c s).store.settled = false := by
  unfold Store.settled; rw [splitFull_index]
  simp [Clip.live, setClosing]

section
variable {before : List Clip} {c : Clip} {s : State} (h : RecordingInto before c s)
include h

theorem RecordingInto.recording : s.store.writer = .recording := by obtain ⟨-, hw, -⟩ := h; exact hw

theorem RecordingInto.index : s.store.index = before ++ [c] := by obtain ⟨-, -, hx, -⟩ := h; exact hx

theorem RecordingInto.others : ∀ d ∈ before, d.state = .closed ∧ d.number ≠ c.number := by
  obtain ⟨-, -, -, hb, -⟩ := h; exact hb

theorem RecordingInto.card_taken : s.card.state ≠ .idle := by
  obtain ⟨-, -, -, -, -, -, -, -, hi, -⟩ := h; exact hi

theorem RecordingInto.openClip : s.store.openClip = some c := by
  obtain ⟨-, -, hx, hbe, ho, -⟩ := h
  have hb : before.find? (fun c => decide (c.state = .opened)) = none :=
    List.find?_eq_none.2 fun d hd => by simp [(hbe d hd).1]
  unfold Store.openClip
  rw [hx, List.find?_append, hb]
  simp [ho]

theorem RecordingInto.closes (q : CloseReason) :
    updateClip c.number (setClosing q) (completePacking c.number s) = splitOff q before c s := by
  rw [completePacking_eq]
  unfold updateClip splitOff
  refine congrArg (fun l => (s.mapIntake _).mapStore fun st => { st with index := l }) ?_
  show s.store.index.map _ = _
  rw [h.index]; exact map_newest fun d hd => (h.others d hd).2

theorem RecordingInto.closes_again (q : CloseReason) :
    updateClip c.number (setClosing .full) (splitOff q before c s) = splitOff .full before c s := by
  unfold updateClip splitOff
  exact congrArg (fun l => (s.mapIntake (Intake.completed c.number)).mapStore fun st => { st with index := l })
    (map_newest (c := setClosing q c) (f := setClosing .full) fun d hd => (h.others d hd).2)

/-- A record behind the CLOSED ones and the CLOSING clip leaves nothing to remove. -/
theorem RecordingInto.nothing_empty {t : State} {q : CloseReason} {l : List Clip}
    (hx : t.store.index = before ++ setClosing q c :: l) (hl : ∀ d ∈ l, d.state = .opened) : emptyClosing t = [] := by
  obtain ⟨-, -, -, hbe, -, hd, -⟩ := h
  rw [emptyClosing_eq_nil_iff, hx]
  intro d hm hs h0
  obtain hm | hm := List.mem_append.1 hm
  · rw [(hbe d hm).1] at hs; cases hs
  · obtain rfl | hm := List.mem_cons.1 hm
    · exact absurd h0 (Nat.ne_of_gt hd)
    · rw [hl d hm] at hs; cases hs

/-- The judgement of HOLD stands where the OPEN clip's last block is completed. -/
theorem RecordingInto.hold_stands {t : State} (hj : judgeHold s = s) (hw : t.store.writer ≠ .emergency)
    (hi : t.intake = { s.intake.completed c.number with record := t.intake.record, stallEnd := t.intake.stallEnd })
    (hm : t.store.tab = s.store.tab) (ha : t.link.answers = s.link.answers) : judgeHold t = t := by
  have ho : t.intake.occupancy = s.intake.occupancy := by rw [hi]; exact completed_occupancy c.number s.intake
  have hb : t.intake.bufCause = s.intake.bufCause := by rw [hi]; rfl
  refine judgeHold_of_bufCause hj ?_ ha ⟨hb, by rw [hi]; rfl, by rw [hi]; rfl⟩
  exact (bufCauseNow_congr (by rw [h.recording]; nofun) hw ho hb hm).trans ((judgeHold_eq_self_iff s).1 hj).1.symm

/-- STORE_LOW and LOCK_NEAR stand where the OPEN clip is CLOSING and what follows it is OPEN and not locked. -/
theorem RecordingInto.store_stands {t : State} {q : CloseReason} {l : List Clip}
    (hs : { t.store with index := s.store.index, nextClip := s.store.nextClip, writer := s.store.writer } = s.store)
    (hx : t.store.index = before ++ setClosing q c :: l) (hl : ∀ d ∈ l, d.state = .opened)
    (hk : lockedOf l = 0) : StoreJudged t := by
  obtain ⟨-, -, hsx, -, ho, -, -, -, -, hst⟩ := h
  refine hst.of_tail hs hsx hx (by simp [ho]) ?_ ?_
  · intro d hd
    obtain rfl | hd := List.mem_cons.1 hd
    · nofun
    · rw [hl d hd]; nofun
  · rw [show setClosing q c :: l = [setClosing q c] ++ l from rfl, lockedOf_append, hk]
    unfold lockedOf setClosing
    cases hlk : c.locked <;> simp [hlk]

/-! ### A split with room for a clip -/

/-- The part rests beside the write in flight, the next clip opened. -/
theorem RecordingInto.rest_splitInto (hr : AtRest s) (hw : s.card.writing = true) : AtRest (splitInto before c s) := by
  have hrec := h.recording
  exact hr.beside_write hw h.card_taken (h.nothing_empty (splitInto_index before c s) (by simp [openedRecord])) (.inr hrec)
    (h.hold_stands hr.2.1 (by rw [show (splitInto before c s).store.writer = _ from hrec]; nofun) rfl rfl rfl) rfl rfl

/-- A split with room: the OPEN clip is CLOSING with SPLIT, and the next one OPEN and reported (R77, R97). -/
theorem RecordingInto.splitClip_opens (hr : AtRest s) (hw : s.card.writing = true) (hl : before.length < 511)
    (hn : s.store.nextClip < 4294967296) (hf : s.store.free ≠ [] ∨ ∃ d ∈ before, d.locked = false)
    (hq : s.link.reports.length < 32) :
    splitClip c s = (true, reported (.clipOpened s.store.nextClip c.start false) (splitInto before c s)) := by
  have hro : (splitOff .split before c s).store.oldestReclaimable = before.find? Clip.reclaimable :=
    find_reclaimable_append before (by simp [setClosing])
  have ht : openingTest (splitOff .split before c s) = (true, splitOff .split before c s) := by
    refine openingTest_passes ?_ (hf.imp_right ?_) hn
    · show (before ++ [setClosing .split c]).length < 512
      rw [List.length_append]; simp only [List.length_singleton]; omega
    · rintro ⟨d, hd, hlk⟩
      rw [hro, List.find?_isSome]
      exact ⟨d, hd, by simp [Clip.reclaimable, (h.others d hd).1, hlk]⟩
  have hd := (h.rest_splitInto hr hw).2.2
  have ho : openRecord c.start .opened false none (splitOff .split before c s) =
      reported (.clipOpened s.store.nextClip c.start false) ((splitOff .split before c s).mapStore fun st =>
        { st with index := st.index ++ [openedRecord st.nextClip c.start s.partTime], nextClip := st.nextClip + 1 }) :=
    report_of_departed (p := .clipOpened s.store.nextClip c.start false) hd hq
  have hst : StoreJudged (reported (.clipOpened s.store.nextClip c.start false) (splitInto before c s)) :=
    h.store_stands (by rw [reported_store]; rfl) (by rw [reported_store]; exact splitInto_index before c s)
      (by simp [openedRecord]) rfl
  unfold splitClip
  rw [h.closes]
  dsimp only
  rw [ht]
  refine congrArg (Prod.mk true) ?_
  dsimp only
  rw [ho]
  unfold splitInto freshIntake at *
  rw [reported_mapIntake] at *
  exact judgeStore_of_judged hst

/-! ### A split with no room for a clip -/

/-- The part rests beside the write in flight, the writer STOPPING. -/
theorem RecordingInto.rest_splitFull (hr : AtRest s) (hw : s.card.writing = true) : AtRest (splitFull before c s) := by
  exact hr.beside_write (t := splitFull before c s) hw h.card_taken (h.nothing_empty (splitFull_index before c s) (by simp))
    (.inl (splitFull_unsettled before c s))
    (h.hold_stands hr.2.1 (by rw [splitFull_writer]; nofun) rfl rfl rfl) rfl rfl

/-- A split with no room: the OPEN clip is CLOSING with FULL, and the writer STOPPING (R77). -/
theorem RecordingInto.splitClip_full (hr : AtRest s) (hw : s.card.writing = true)
    (hf : 511 ≤ before.length ∨ s.store.free = []) (hlk : ∀ d ∈ before, d.locked = true) :
    splitClip c s = (false, splitFull before c s) := by
  have ht : openingTest (splitOff .split before c s) = (false, splitOff .split before c s) := by
    refine openingTest_fails ?_ (hf.imp_left fun hb => ?_)
    · refine (find_reclaimable_append before (by simp [setClosing])).trans ?_
      exact List.find?_eq_none.2 fun d hd => by simp [Clip.reclaimable, hlk d hd]
    · show 512 ≤ (before ++ [setClosing .split c]).length
      rw [List.length_append]; simp only [List.length_singleton]; omega
  have hrest := h.rest_splitFull hr hw
  have ha : afterClose (splitFull before c s) = splitFull before c s :=
    afterClose_of_nothing (h.nothing_empty (splitFull_index before c s) (by simp)) (splitFull_unsettled before c s) hrest.2.1
      (h.store_stands rfl (splitFull_index before c s) (by simp) rfl)
  unfold splitClip
  rw [h.closes]
  dsimp only
  rw [ht]
  refine congrArg (Prod.mk false) ?_
  dsimp only
  rw [h.closes_again]
  exact ha

end

end Sys2Proof.Machine

/-! PROOF. CLIP_PACKET: an accepted packet packed, dropped or split, and one that is discarded. -/

namespace Sys2Proof.Machine

/-! ### What calls for a split (R76) -/

section
variable {stream : ClipStream} {flags : Byte} {pts : Nat} {payload : Bytes} {c : Clip} {r r' : IntakeRec} {s u : State}

theorem split_wanted (hk : flags.getLsbD 0 = true) (hm : r.syncMet = true)
    (h : r.splitMark = true ∨ 1000000 * s.store.tab.maxDuration ≤ pts - c.firstPts.getD pts) :
    (isKey .video flags && splitWanted c r pts s) = true := by
  unfold isKey isSync splitWanted sec
  rw [hk, hm, Nat.mul_comm]
  simpa using h

theorem split_unwanted (h : stream = .audio ∨ flags.getLsbD 0 = false ∨ r.syncMet = false ∨
      (r.splitMark = false ∧ pts - c.firstPts.getD pts < 1000000 * s.store.tab.maxDuration)) :
    (isKey stream flags && splitWanted c r pts s) = false := by
  obtain h | h | h | ⟨hm, hd⟩ := h
  · rw [isKey_eq_false (.inl h)]; rfl
  · rw [isKey_eq_false (.inr h)]; rfl
  · unfold splitWanted; rw [h]; simp
  · unfold splitWanted sec
    rw [hm, Nat.mul_comm, decide_eq_false (Nat.not_le.2 hd)]; simp

/-- The packet that splits is the first of the clip opened (R77). -/
theorem acceptPacket_opens (hs : (isKey stream flags && splitWanted c r pts (startStall s)) = true)
    (ht : splitClip c (startStall s) = (true, u)) (hr : u.intake.record = some r') :
    acceptPacket c r stream flags pts payload s = packOrDrop r' (streamOf stream) flags pts payload u := by
  unfold acceptPacket
  dsimp only
  rw [if_pos hs, ht]
  dsimp only
  rw [if_pos rfl, hr]

/-- The packet for which no clip can be opened is discarded (R77). -/
theorem acceptPacket_full (hs : (isKey stream flags && splitWanted c r pts (startStall s)) = true)
    (ht : splitClip c (startStall s) = (false, u)) :
    acceptPacket c r stream flags pts payload s = discardPacket u := by
  unfold acceptPacket
  dsimp only
  rw [if_pos hs, ht]
  exact if_neg nofun

end

/-! ### Packets that split (R76, R77) -/

/-- The room for a packet depends on the blocks and the packing block. -/
theorem fits_congr {i j : Intake} (hb : i.buffer = j.buffer) (hp : i.packing = j.packing) (m : Nat) :
    i.fits m = j.fits m := by unfold Intake.fits Intake.occupancyAfter; rw [hb, hp]

/-- The intake record of a clip just opened (R67). -/
def freshRecord (n : Nat) : IntakeRec := ⟨n, false, none, false, false⟩

section
variable {dt : Nat} {flags : Byte} {pts : BitVec 64} {payload : Bytes} {before : List Clip} {c : Clip} {r : IntakeRec}
  {s : State} (hp : s.powered = true) (ha : s.link.awake = true) (hrc : s.intake.receive = []) (h : AtRest s)
  (hin : RecordingInto before c s) (hw : s.card.writing = true) (hr : s.intake.record = some r) (hsm : r.syncMet = true)
  (hk : flags.getLsbD 0 = true)
  (hs : r.splitMark = true ∨ 1000000 * s.store.tab.maxDuration ≤ pts.toNat - c.firstPts.getD pts.toNat)
  (hl : payload.length ≤ 65525)
include hp ha hrc h hin hw hr hsm hk hs hl

/-- A SYNC video packet that splits, with room for a clip. -/
theorem clipPacket_splits (hlen : before.length < 511) (hn : s.store.nextClip < 4294967296)
    (hf : s.store.free ≠ [] ∨ ∃ d ∈ before, d.locked = false) (hb : s.intake.bufCause = false)
    (hq : s.link.reports.length < 32) (hfit : (s.intake.completed c.number).fits payload.length = true)
    (hm : s.store.tab.holdMark ≤ ((s.intake.completed c.number).pack s.store.nextClip
      (storedHeader .video flags payload.length pts.toNat ++ payload)).freeBlocks) :
    exec (.clipPacket dt .video flags pts payload) s = .next
      (reported (.clipOpened s.store.nextClip c.start false)
        (packed (freshRecord s.store.nextClip) .video flags pts.toNat payload
          (splitInto before c (startStall (s.tick dt))))) := by
  have hst : AtRest (startStall (s.tick dt)) := (h.tick dt).startStall
  have hin' : RecordingInto before c (startStall (s.tick dt)) := hin
  have hu := hin'.splitClip_opens hst hw hlen hn hf hq
  have hru := (hin'.rest_splitInto hst hw).reported (p := .clipOpened s.store.nextClip c.start false)
  obtain ⟨he, hat⟩ := hru.packs (r := freshRecord s.store.nextClip) (stream := .video) (flags := flags) (pts := pts.toNat)
    (payload := payload) (by rw [reported_card]; exact hw) (by rw [reported_card]; exact hin.card_taken)
    (by rw [reported_store]; exact hin.recording) (by rw [reported_intake]; exact (fits_congr rfl rfl _).trans hfit)
    (by rw [reported_intake]; exact hb) (by rw [reported_intake, reported_store]; exact hm)
  rw [packed_reported] at he hat
  refine exec_clipPacket_rest hp ha hrc hl ?_ hat
  exact (takeClipPacket_accepted (s := s.tick dt) hin.openClip hr hin.recording (.inl hsm)).trans
    ((acceptPacket_opens (s := s.tick dt) (split_wanted hk hsm hs) hu (by rw [reported_intake]; rfl)).trans he)

/-- A SYNC video packet that splits, with no room for a clip. -/
theorem clipPacket_closes_full (hf : 511 ≤ before.length ∨ s.store.free = []) (hlk : ∀ d ∈ before, d.locked = true) :
    exec (.clipPacket dt .video flags pts payload) s =
      .next (discardPacket (splitFull before c (startStall (s.tick dt)))) := by
  have hst : AtRest (startStall (s.tick dt)) := (h.tick dt).startStall
  have hin' : RecordingInto before c (startStall (s.tick dt)) := hin
  refine exec_clipPacket_rest hp ha hrc hl ?_ ((hin'.rest_splitFull hst hw).mapCounters _)
  exact (takeClipPacket_accepted (s := s.tick dt) hin.openClip hr hin.recording (.inl hsm)).trans
    (acceptPacket_full (split_wanted hk hsm hs) (hin'.splitClip_full hst hw hf hlk))

end

/-! ### The states these lead to, written out -/

/-- The stall time in µs (R78). -/
theorem ms_eq (n : Nat) : ms n = 1000 * n := Nat.mul_comm n 1000

/-- A packed packet as the rules write it out (R68, R75, R78). -/
theorem packed_startStall {dt : Nat} {stream : ClipStream} {flags : Byte} {pts : Nat} {payload : Bytes} {r : IntakeRec}
    {s : State} (hr : s.intake.record = some r) :
    packed r (streamOf stream) flags pts payload (startStall (s.tick dt)) =
      ((s.tick dt).mapIntake fun _ =>
        { s.intake.pack r.clip (storedHeader (streamOf stream) flags payload.length pts ++ payload) with
          record := some (if stream = .video then
            { r with lastPts := some pts, syncMet := r.syncMet || flags.getLsbD 0 } else r)
          stallEnd := some (s.partTime + dt + 1000 * s.store.tab.stallTime) }).mapStore fun st =>
        if stream = .video then { st with index := st.index.map (tracked r.clip pts) } else st := by
  rw [← ms_eq]
  cases stream with
  | video =>
    show ((s.tick dt).mapIntake fun i =>
      { (startStall (s.tick dt)).intake.pack r.clip (storedHeader .video flags payload.length pts ++ payload) with
        record := i.record.map fun r => { r with lastPts := some pts, syncMet := r.syncMet || isSync flags } }).mapStore
      (fun st => { st with index := st.index.map (tracked r.clip pts) }) = _
    refine mapIntake_mapStore_congr ?_ rfl
    dsimp only
    rw [tick_intake, hr]; rfl
  | audio =>
    show ((s.tick dt).mapIntake fun i =>
      { (startStall (s.tick dt)).intake.pack r.clip (storedHeader .audio flags payload.length pts ++ payload) with
        record := i.record }).mapStore id = _
    refine mapIntake_mapStore_congr ?_ rfl
    dsimp only
    rw [tick_intake, hr]; rfl

/-- The first packet of a clip that a split has opened (R68, R75, R77, R97). -/
theorem packed_splitInto {dt : Nat} {flags : Byte} {pts : Nat} {payload : Bytes} {before : List Clip} {c : Clip} {s : State}
    (hx : s.store.index = before ++ [c]) (hn : ∀ d ∈ s.store.index, d.number < s.store.nextClip)
    (hk : flags.getLsbD 0 = true) :
    packed (freshRecord s.store.nextClip) .video flags pts payload (splitInto before c (startStall (s.tick dt))) =
      ((s.tick dt).mapIntake fun _ =>
        { (s.intake.completed c.number).pack s.store.nextClip (storedHeader .video flags payload.length pts ++ payload) with
          record := some ⟨s.store.nextClip, true, some pts, false, false⟩
          stallEnd := some (s.partTime + dt + 1000 * s.store.tab.stallTime) }).mapStore fun st =>
        { st with
          nextClip := s.store.nextClip + 1
          index := before ++ [setClosing .split c,
            { openedRecord s.store.nextClip c.start (s.partTime + dt) with firstPts := some pts }] } := by
  have hold : ∀ d ∈ before ++ [setClosing .split c], d.number ≠ s.store.nextClip := by
    intro d hd
    refine Nat.ne_of_lt ?_
    obtain hd | hd := List.mem_append.1 hd
    · exact hn d (hx ▸ List.mem_append_left _ hd)
    · rw [List.mem_singleton.1 hd]
      exact hn c (hx ▸ List.mem_append_right _ (List.mem_singleton_self c))
  have hnew : tracked s.store.nextClip pts (openedRecord s.store.nextClip c.start (s.partTime + dt)) =
      { openedRecord s.store.nextClip c.start (s.partTime + dt) with firstPts := some pts } := by
    refine (if_pos rfl).trans ?_
    show { openedRecord _ _ _ with firstPts := some pts, duration := pts - pts } = _
    rw [Nat.sub_self]; rfl
  have hidx : ((before ++ [setClosing .split c]) ++ [openedRecord s.store.nextClip c.start (s.partTime + dt)]).map
      (tracked s.store.nextClip pts) = before ++ [setClosing .split c,
        { openedRecord s.store.nextClip c.start (s.partTime + dt) with firstPts := some pts }] := by
    rw [← hnew, List.map_append]
    exact (congrArg (· ++ _) (map_of_other hold)).trans (List.append_assoc ..)
  rw [← ms_eq, ← hk, ← hidx]
  rfl

/-- A dropped packet (R69, R78). -/
theorem dropped_startStall {dt : Nat} {r : IntakeRec} {s : State} (hr : s.intake.record = some r) :
    dropped r (startStall (s.tick dt)) =
      ((((s.tick dt).mapCounters fun k => { k with packetsDropped := satAdd k.packetsDropped 1 }).mapStore fun st =>
        { st with index := st.index.map fun d =>
          if d.number = r.clip then { d with flags := { d.flags with gap := true } } else d }).mapIntake fun i =>
        { i with stallEnd := some (s.partTime + dt + 1000 * s.store.tab.stallTime),
                 record := some { r with dropReported := true } }) := by
  have hm : some { r with dropReported := true } = s.intake.record.map dropMarked := by rw [hr]; rfl
  rw [← ms_eq, ← reflag_gapOn, hm]
  rfl

/-- Changes of Record Intake are told apart by what they make of it. -/
theorem mapIntake_congr {s : State} {f f' : Intake → Intake} (h : f s.intake = f' s.intake) :
    s.mapIntake f = s.mapIntake f' := congrArg (fun i => { s with intake := i }) h

/-- A split that closes the clip with FULL (R71, R77). -/
theorem discardPacket_splitFull {dt : Nat} {before : List Clip} {c : Clip} {s : State} :
    discardPacket (splitFull before c (startStall (s.tick dt))) =
      ((((s.tick dt).mapCounters fun k => { k with packetsDiscarded := satAdd k.packetsDiscarded 1 }).mapStore fun st =>
        { st with writer := .stopping, index := before ++ [{ c with state := .closing, reason := some .full }] }).mapIntake
        fun i =>
        { i with record := none, stallEnd := none, packing := [],
                 buffer := i.buffer ++
                   (if i.packing = [] then [] else [⟨c.number, i.packing ++ padding i.packing.length⟩]) }) := by
  have hb : s.intake.buffer ++ (if s.intake.packing = [] then [] else
      [⟨c.number, s.intake.packing ++ padding s.intake.packing.length⟩]) = (s.intake.completed c.number).buffer := by
    unfold Intake.completed
    dsimp only
    split
    · exact List.append_nil _
    · rfl
  symm
  refine (mapIntake_congr (f' := fun i => { i.completed c.number with record := none, stallEnd := none }) ?_).trans rfl
  exact congrArg (fun b => { s.intake with record := none, stallEnd := none, packing := [], buffer := b }) hb

/-! ### O27 and O29 -/

/-- Settles O27: a packet without a split by its stream, and one that splits where a clip can be opened. -/
theorem acceptedPacketIsPacked : Obligations.AcceptedPacketIsPacked := by
  constructor
  · intro dt stream flags pts payload c r s hp ha hrc h hc hw hr hcn hk hs hl hf hi hwr hb stored fill laid hm
    have hkey : r.syncMet = true ∨ isKey stream flags = true :=
      hk.imp_right fun ⟨hv, hf⟩ => by unfold isKey isSync; rw [hv, hf]; rfl
    rw [clipPacket_packed hp ha hrc h hc hw hr hkey (split_unwanted hs) hl hf hi hwr hb (by rw [hcn]; exact hm),
      packed_startStall hr, hcn]
    rfl
  · intro dt flags pts payload before c r s hp ha hrc h hin hw hr hcn hsm hk hs hlen hn hnum hf hl hb hq n whole emptied
      laid hfit hm
    rw [clipPacket_splits hp ha hrc h hin hw hr hsm hk hs hl hlen hn hf hb hq hfit hm, packed_splitInto hin.index hnum hk]
    rfl

/-- Settles O29: no room in the buffer, no room for a clip, and no recording or no first sync. -/
theorem unacceptedPacketIsDiscarded : Obligations.UnacceptedPacketIsDiscarded := by
  refine ⟨?_, ?_, ?_⟩
  · intro dt stream flags pts payload c r s hp ha hrc h hc hw hr hcn hsm hk hl hf hi hq
    have he := clipPacket_dropped (dt := dt) (pts := pts) hp ha hrc h hc hw hr hsm (isKey_eq_false hk) hl hf hq
    rw [dropped_startStall hr] at he
    dsimp only
    rw [← hcn]
    exact ⟨fun hd => by rw [he, if_pos hd], fun hd => by rw [he, if_neg (by rw [hd]; nofun)]⟩
  · intro dt flags pts payload before c r s hp ha hrc h hin hw hr hcn hsm hk hs hf hlk hl
    rw [clipPacket_closes_full hp ha hrc h hin hw hr hsm hk hs hl hf hlk, discardPacket_splitFull]
  · intro dt stream flags pts payload s hp ha hrc h hl hno
    have hno' : s.store.writer ≠ .recording ∨
        ∃ r, s.intake.record = some r ∧ r.syncMet = false ∧ isKey stream flags = false :=
      hno.imp_right fun ⟨r, hr, hsm, hk⟩ => ⟨r, hr, hsm, isKey_eq_false hk⟩
    exact exec_clipPacket_rest hp ha hrc hl (takeClipPacket_discarded (s := s.tick dt) hno') ((h.tick dt).mapCounters _)

end Sys2Proof.Machine

/-! PROOF. The ledger of the Clip Store: the records bounded, in order and in states that fit the writer's, and the locked
extents within the quota. What each primitive change of the store needs to keep it. -/

namespace Sys2Proof.Machine

/-! ### What the invariants of the store look at -/

/-- `s` with everything erased that the invariants of the Clip Store do not look at. -/
def State.stock (s : State) : State :=
  { State.reset with
    store := { coldStore with
      state := s.store.state, writer := s.store.writer, count := s.store.count, extents := s.store.extents,
      free := s.store.free, index := s.store.index, nextClip := s.store.nextClip, quotaEff := s.store.quotaEff,
      scan := s.store.scan, retry := s.store.retry }
    card := { coldCard false with op := s.card.op, updates := s.card.updates }
    intake := { coldIntake with buffer := s.intake.buffer, record := s.intake.record }
    thermal := { coldThermal with tier := s.thermal.tier, supply := s.thermal.supply } }

/-- What does not depend on the rest is the same where the stocks are. -/
theorem State.stock_keeps {α : Type} (f : State → α) (hf : ∀ s : State, f s.stock = f s) {s t : State}
    (h : t.stock = s.stock) : f t = f s := by rw [← hf t, h, hf]

section
variable (s : State)
@[simp] theorem stock_report (p : Payload) : (report p s).stock = s.stock := report_keeps State.stock (fun _ => rfl) p s
@[simp] theorem stock_enqueueAnswer (x : Answer) : (enqueueAnswer x s).stock = s.stock :=
  enqueueAnswer_keeps State.stock (fun _ => rfl) x s
@[simp] theorem stock_answer (d : Nat) (t : Byte) (c : AnswerCode) (b : Bytes) : (answer d t c b s).stock = s.stock :=
  stock_enqueueAnswer s _
@[simp] theorem stock_judgeHold : (judgeHold s).stock = s.stock := by
  unfold judgeHold; dsimp only; split <;> rfl
@[simp] theorem stock_judgeStore : (judgeStore s).stock = s.stock := by
  have hr (p : Payload) (a b : Bool) :
      (report p (s.mapStore fun st => { st with storeLow := a, lockNear := b })).stock = s.stock := stock_report _ p
  unfold judgeStore; dsimp only
  split <;> split <;> first | exact hr _ _ _ | rfl
@[simp] theorem stock_fillSlot : (fillSlot s).stock = s.stock := by
  have h : (fillSlot s).unsent.stock = s.unsent.stock := by rw [unsent_fillSlot]
  exact h
@[simp] theorem stock_drainRoom : (drainRoom s).stock = s.stock := by
  have h : (drainRoom s).unsent.stock = s.unsent.stock := by rw [unsent_drainRoom]
  exact h
@[simp] theorem stock_leaveAll : (leaveAll s).stock = s.stock := by
  have h : (leaveAll s).unsent.stock = s.unsent.stock := by rw [unsent_leaveAll]
  exact h
@[simp] theorem stock_depart : (depart s).stock = s.stock := depart_keeps State.stock (fun _ => rfl) s
end

/-! ### The ledger -/

/-- The records are bounded and in order; where `n` holds, none is OPEN under EMERGENCY and CUTOFF, and where `l` holds, L is
within Q_eff. -/
structure Ledger (n l : Prop) (s : State) : Prop where
  bounded : StoreBounded s
  ordered : ClipsOrdered s
  quiet : n → NoneOpenUnderEmergency s
  locks : l → LocksWithinQuota s

section
variable {n l : Prop} {s t : State}

theorem Ledger.congr (h : Ledger n l s) (ht : t.stock = s.stock) : Ledger n l t where
  bounded := show StoreBounded t.stock by rw [ht]; exact h.bounded
  ordered := show ClipsOrdered t.stock by rw [ht]; exact h.ordered
  quiet hn := show NoneOpenUnderEmergency t.stock by rw [ht]; exact h.quiet hn
  locks hl := show LocksWithinQuota t.stock by rw [ht]; exact h.locks hl

section
variable (h : Ledger n l s)
include h

theorem Ledger.ascending : (s.store.index.map Clip.number).Pairwise (· < ·) := h.ordered.1
theorem Ledger.below {c : Clip} (hc : c ∈ s.store.index) : c.number < s.store.nextClip := h.ordered.2.1 c hc
theorem Ledger.opened_unique {c d : Clip} (hc : c ∈ s.store.index) (hd : d ∈ s.store.index) (co : c.state = .opened)
    (d_o : d.state = .opened) : c.number = d.number := h.ordered.2.2.1 c hc d hd co d_o
theorem Ledger.recording {c : Clip} (hc : c ∈ s.store.index) (co : c.state = .opened) : s.store.writer = .recording :=
  h.ordered.2.2.2.1 c hc co
theorem Ledger.running {c : Clip} (hc : c ∈ s.store.index) (hl : c.state ≠ .closed) : s.store.writer ≠ .idle := by
  obtain ⟨-, -, -, ho, hk, -⟩ := h.ordered
  cases hs : c.state with
  | opened => rw [ho c hc hs]; decide
  | closing => exact hk c hc hs
  | closed => exact absurd hs hl
theorem Ledger.ready (hw : s.store.writer ≠ .idle) : s.store.state = .ready := h.ordered.2.2.2.2.2.1 hw
theorem Ledger.scanning (hk : s.store.scan ≠ none) : s.store.state = .scanning := h.ordered.2.2.2.2.2.2 hk

theorem Ledger.numbers_nodup : (s.store.index.map Clip.number).Nodup := h.ascending.imp Nat.ne_of_lt

/-- A number names one record. -/
theorem Ledger.unique {c d : Clip} (hc : c ∈ s.store.index) (hd : d ∈ s.store.index) (hn : c.number = d.number) : c = d :=
  List.inj_on_of_nodup_map h.numbers_nodup hc hd hn

/-- No record is live where the writer is IDLE. -/
theorem Ledger.closed_of_idle (hw : s.store.writer = .idle) {c : Clip} (hc : c ∈ s.store.index) : c.state = .closed := by
  by_contra hl; exact h.running hc hl hw

/-- The record that a number finds is in the index, and any record of the number is that one. -/
theorem Ledger.find_eq {c : Clip} (hc : c ∈ s.store.index) : s.store.find c.number = some c := by
  cases hf : s.store.find c.number with
  | none => exact absurd (List.find?_eq_none.1 hf c hc) (by simp)
  | some d =>
    have hd := List.mem_of_find?_eq_some hf
    have hn : d.number = c.number := by simpa using List.find?_some hf
    rw [h.unique hd hc hn]

end

theorem find_mem {st : Store} {m : Nat} {c : Clip} (h : st.find m = some c) : c ∈ st.index ∧ c.number = m :=
  ⟨List.mem_of_find?_eq_some h, by simpa using List.find?_some h⟩

theorem openClip_mem {st : Store} {c : Clip} (h : st.openClip = some c) : c ∈ st.index ∧ c.state = .opened :=
  ⟨List.mem_of_find?_eq_some h, by simpa using List.find?_some h⟩

theorem openClip_none {st : Store} (h : st.openClip = none) {c : Clip} (hc : c ∈ st.index) : c.state ≠ .opened := by
  simpa using List.find?_eq_none.1 h c hc

/-- NONE OPEN needs only that the writer does not record: an OPEN record has a recording writer. -/
theorem noneOpen_of_writer (ho : ClipsOrdered s) (hw : s.store.writer ≠ .recording) : NoneOpenUnderEmergency s :=
  fun _ => ⟨hw, fun c hc hs => hw (ho.2.2.2.1 c hc hs)⟩

end
end Sys2Proof.Machine

/-! PROOF. The ledger of the Clip Store when records change, leave and join, and when the writer moves. -/

namespace Sys2Proof.Machine

/-! ### The locked extents -/

/-- What a record adds to L. -/
def Clip.heldExtents (c : Clip) : Nat := if c.locked then c.extentCount else 0

theorem lockedOf_eq_sum (m : List Clip) : lockedOf m = (m.map Clip.heldExtents).sum := by
  induction m with
  | nil => rfl
  | cons c m ih =>
    rw [show c :: m = [c] ++ m from rfl, lockedOf_append, ih, List.map_append, List.sum_append]
    congr 1
    unfold lockedOf Clip.heldExtents
    cases hc : c.locked <;> simp [hc]

theorem lockedExtents_eq_sum (st : Store) : st.lockedExtents = (st.index.map Clip.heldExtents).sum := lockedOf_eq_sum st.index

theorem lockedOf_map_le {m : List Clip} {f : Clip → Clip} (h : ∀ c ∈ m, (f c).heldExtents ≤ c.heldExtents) :
    lockedOf (m.map f) ≤ lockedOf m := by
  rw [lockedOf_eq_sum, lockedOf_eq_sum, List.map_map]
  exact List.sum_le_sum h

theorem lockedOf_sublist {k m : List Clip} (h : k.Sublist m) : lockedOf k ≤ lockedOf m := by
  rw [lockedOf_eq_sum, lockedOf_eq_sum]
  exact (h.map _).sum_le_sum fun _ _ => Nat.zero_le _

/-! ### Records changed, removed and added -/

/-- A record only goes on towards CLOSED. -/
def Aged (c d : Clip) : Prop :=
  d.number = c.number ∧ (d.state = c.state ∨ d.state = .closed ∨ (c.state = .opened ∧ d.state = .closing))

theorem Aged.refl (c : Clip) : Aged c c := ⟨rfl, .inl rfl⟩

/-- A record that is live was live before, and OPEN where it is OPEN. -/
theorem Aged.opened {c d : Clip} (h : Aged c d) (hd : d.state = .opened) : c.state = .opened := by
  obtain ⟨-, hs | hs | ⟨hc, -⟩⟩ := h
  · rw [← hs, hd]
  · rw [hs] at hd; cases hd
  · exact hc

theorem Aged.closing {c d : Clip} (h : Aged c d) (hd : d.state = .closing) : c.state ≠ .closed := by
  obtain ⟨-, hs | hs | ⟨hc, -⟩⟩ := h
  · rw [← hs, hd]; nofun
  · rw [hs] at hd; cases hd
  · rw [hc]; nofun

section
variable {n l : Prop} {s : State} (h : Ledger n l s)
include h

/-- The records grow older one by one. -/
theorem Ledger.reindex (f : Clip → Clip) (hf : ∀ c ∈ s.store.index, Aged c (f c))
    (hq : l → lockedOf (s.store.index.map f) ≤ s.store.quotaEff) :
    Ledger n l (s.mapStore fun st => { st with index := st.index.map f }) where
  bounded := ⟨(List.length_map f).trans_le h.bounded.1, h.bounded.2⟩
  ordered := by
    have hm : (s.store.index.map f).map Clip.number = s.store.index.map Clip.number := by
      rw [List.map_map]; exact List.map_congr_left fun c hc => (hf c hc).1
    refine ⟨?_, ?_, ?_, ?_, ?_, fun hw => h.ready hw, fun hk => h.scanning hk⟩
    · show ((s.store.index.map f).map Clip.number).Pairwise (· < ·)
      rw [hm]; exact h.ascending
    · intro d hd
      obtain ⟨c, hc, rfl⟩ := List.mem_map.1 hd
      rw [(hf c hc).1]; exact h.below hc
    · intro d hd e he ho po
      obtain ⟨c, hc, rfl⟩ := List.mem_map.1 hd
      obtain ⟨b, hb, rfl⟩ := List.mem_map.1 he
      rw [(hf c hc).1, (hf b hb).1]
      exact h.opened_unique hc hb ((hf c hc).opened ho) ((hf b hb).opened po)
    · intro d hd ho
      obtain ⟨c, hc, rfl⟩ := List.mem_map.1 hd
      exact h.recording hc ((hf c hc).opened ho)
    · intro d hd hk
      obtain ⟨c, hc, rfl⟩ := List.mem_map.1 hd
      exact h.running hc ((hf c hc).closing hk)
  quiet hn he := ⟨(h.quiet hn he).1, fun d hd ho => by
    obtain ⟨c, hc, rfl⟩ := List.mem_map.1 hd
    exact (h.quiet hn he).2 c hc ((hf c hc).opened ho)⟩
  locks := hq

/-- The records of one number grow older and lock no more extents. -/
theorem Ledger.changeClip {m : Nat} {f : Clip → Clip}
    (hf : ∀ c ∈ s.store.index, c.number = m → Aged c (f c) ∧ (f c).heldExtents ≤ c.heldExtents) :
    Ledger n l (updateClip m f s) := by
  refine h.reindex _ (fun c hc => ?_) fun hl => (lockedOf_map_le fun c hc => ?_).trans (h.locks hl)
  · split
    · next hn => exact (hf c hc hn).1
    · exact .refl c
  · split
    · next hn => exact (hf c hc hn).2
    · exact Nat.le_refl _

/-- Records leave the index. -/
theorem Ledger.remove (p : Clip → Bool) : Ledger n l (s.mapStore fun st => { st with index := st.index.filter p }) where
  bounded := ⟨List.length_filter_le .. |>.trans h.bounded.1, h.bounded.2⟩
  ordered := by
    have hs : (s.store.index.filter p).Sublist s.store.index := List.filter_sublist
    refine ⟨h.ascending.sublist (hs.map _), fun c hc => h.below (hs.subset hc),
      fun c hc d hd => h.opened_unique (hs.subset hc) (hs.subset hd), fun c hc => h.recording (hs.subset hc),
      fun c hc hk => h.running (hs.subset hc) (by rw [hk]; nofun), fun hw => h.ready hw, fun hk => h.scanning hk⟩
  quiet hn he := ⟨(h.quiet hn he).1, fun d hd => (h.quiet hn he).2 d (List.filter_sublist.subset hd)⟩
  locks hl := (lockedOf_sublist List.filter_sublist).trans (h.locks hl)

/-- A record of the next number, live while the writer runs and OPEN where no other is, joins the index. -/
theorem Ledger.open {c : Clip} (hlen : s.store.index.length < Config.indexSize) (hnum : c.number = s.store.nextClip)
    (ho : c.state = .opened → s.store.writer = .recording ∧ ∀ d ∈ s.store.index, d.state ≠ .opened)
    (hw : s.store.writer ≠ .idle) (hk : c.locked = false)
    (hq : n → (s.thermal.supply = .emergency ∨ s.thermal.tier = .cutoff) → c.state ≠ .opened) :
    Ledger n l (s.mapStore fun st => { st with index := st.index ++ [c], nextClip := st.nextClip + 1 }) where
  bounded := ⟨by
    show (s.store.index ++ [c]).length ≤ _
    rw [List.length_append, List.length_singleton]; exact hlen, h.bounded.2⟩
  ordered := by
    have hmem : ∀ d ∈ s.store.index ++ [c], d ∈ s.store.index ∨ d = c := fun d hd => by simpa using hd
    refine ⟨?_, ?_, ?_, ?_, fun _ _ _ => hw, fun hw => h.ready hw, fun hk => h.scanning hk⟩
    · show ((s.store.index ++ [c]).map Clip.number).Pairwise (· < ·)
      rw [List.map_append, List.pairwise_append]
      refine ⟨h.ascending, by simp, ?_⟩
      intro a ha b hb
      obtain ⟨d, hd, rfl⟩ := List.mem_map.1 ha
      obtain rfl : b = c.number := by simpa using hb
      rw [hnum]; exact h.below hd
    · intro d hd
      show d.number < s.store.nextClip + 1
      obtain hd | rfl := hmem d hd
      · exact Nat.lt_succ_of_lt (h.below hd)
      · rw [hnum]; exact Nat.lt_succ_self _
    · intro d hd e he hdo heo
      obtain hd' | rfl := hmem d hd <;> obtain he' | rfl := hmem e he
      · exact h.opened_unique hd' he' hdo heo
      · exact absurd hdo ((ho heo).2 d hd')
      · exact absurd heo ((ho hdo).2 e he')
      · rfl
    · intro d hd hdo
      obtain hd | rfl := hmem d hd
      · exact h.recording hd hdo
      · exact (ho hdo).1
  quiet hn he := ⟨(h.quiet hn he).1, fun d hd hdo => by
    have hd : d ∈ s.store.index ++ [c] := hd
    obtain hd | rfl := List.mem_append.1 hd |>.imp_right List.mem_singleton.1
    · exact (h.quiet hn he).2 d hd hdo
    · exact hq hn he hdo⟩
  locks hl := by
    show lockedOf (s.store.index ++ [c]) ≤ _
    rw [lockedOf_append, show lockedOf [c] = 0 by simp [lockedOf, hk]]
    exact h.locks hl

/-! ### The writer -/

/-- A running writer goes on to another running state but RECORDING, where no record is OPEN. -/
theorem Ledger.moveWriter {w : WriterState} (ho : ∀ c ∈ s.store.index, c.state ≠ .opened) (hr : s.store.writer ≠ .idle)
    (hi : w ≠ .idle) (hw : w ≠ .recording) : Ledger n l (setWriter w s) where
  bounded := h.bounded
  ordered := ⟨h.ascending, fun _ hc => h.below hc, fun _ hc _ hd => h.opened_unique hc hd,
    fun c hc hs => absurd hs (ho c hc), fun _ _ _ => hi, fun _ => h.ready hr, fun hk => h.scanning hk⟩
  quiet _ _ := ⟨hw, ho⟩
  locks := h.locks

/-- The writer rests where every record is CLOSED. -/
theorem Ledger.rest (hc : ∀ c ∈ s.store.index, c.state = .closed) (f : Store → Store)
    (hf : f s.store = { s.store with writer := .idle, flush := (f s.store).flush }) : Ledger n l (s.mapStore f) := by
  have hb : ∀ c ∈ s.store.index, c.state ≠ .opened ∧ c.state ≠ .closing := fun c hm => by rw [hc c hm]; exact ⟨nofun, nofun⟩
  have key : Ledger n l (s.mapStore fun st => { st with writer := .idle }) :=
    { bounded := h.bounded
      ordered := ⟨h.ascending, fun _ hc => h.below hc, fun _ hc _ hd => h.opened_unique hc hd,
        fun c hm hs => absurd hs (hb c hm).1, fun c hm hs => absurd hs (hb c hm).2, fun hw => absurd rfl hw,
        fun hk => h.scanning hk⟩
      quiet := fun _ _ => ⟨nofun, fun c hm => (hb c hm).1⟩
      locks := h.locks }
  refine key.congr ?_
  show State.stock { s with store := f s.store } = _
  rw [hf]; rfl

end
end Sys2Proof.Machine

/-! PROOF. The releases of a chain as one change of the store, and what the removal of a record leaves as it is. -/

namespace Sys2Proof.Machine

/-! ### Releases -/

/-- The store after the release of extent `i`. -/
def Store.release (st : Store) (i : Nat) : Store :=
  match st.owned i with
  | some o =>
    if o.weak then { st with extents := st.extents.set i .bad }
    else { st with extents := st.extents.set i .free, free := st.free ++ [i] }
  | none => st

/-- The store after the release of the extents `m` in their order. -/
def Store.releaseAll (st : Store) (m : List Nat) : Store := m.foldl Store.release st

theorem releaseExtent_eq (s : State) (i : Nat) : releaseExtent s i = s.mapStore fun st => st.release i := by
  show releaseExtent s i = { s with store := s.store.release i }
  unfold releaseExtent Store.release
  cases s.store.owned i with
  | none => rfl
  | some o => dsimp only; split <;> rfl

theorem foldl_releaseExtent (m : List Nat) (s : State) : m.foldl releaseExtent s = s.mapStore fun st => st.releaseAll m := by
  induction m generalizing s with
  | nil => rfl
  | cons i m ih => rw [List.foldl_cons, ih, releaseExtent_eq]; rfl

/-- `st` with the Extent Map and the Free List erased, all that a release changes. -/
def Store.unmapped (st : Store) : Store := { st with extents := [], free := [] }

theorem unmapped_release (st : Store) (i : Nat) : (st.release i).unmapped = st.unmapped := by
  unfold Store.release
  split
  · split <;> rfl
  · rfl

theorem unmapped_releaseAll (st : Store) (m : List Nat) : (st.releaseAll m).unmapped = st.unmapped := by
  induction m generalizing st with
  | nil => rfl
  | cons i m ih => exact (ih _).trans (unmapped_release st i)

/-- What `Store.unmapped` keeps, releases keep. -/
theorem releaseAll_keeps {α : Type} (f : Store → α) (hf : ∀ st : Store, f st.unmapped = f st) (st : Store) (m : List Nat) :
    f (st.releaseAll m) = f st := by rw [← hf (st.releaseAll m), unmapped_releaseAll, hf]

section
variable (st : Store) (m : List Nat)
@[simp] theorem releaseAll_state : (st.releaseAll m).state = st.state := releaseAll_keeps Store.state (fun _ => rfl) st m
@[simp] theorem releaseAll_writer : (st.releaseAll m).writer = st.writer := releaseAll_keeps Store.writer (fun _ => rfl) st m
@[simp] theorem releaseAll_index : (st.releaseAll m).index = st.index := releaseAll_keeps Store.index (fun _ => rfl) st m
@[simp] theorem releaseAll_nextClip : (st.releaseAll m).nextClip = st.nextClip := releaseAll_keeps Store.nextClip (fun _ => rfl) st m
@[simp] theorem releaseAll_quotaEff : (st.releaseAll m).quotaEff = st.quotaEff := releaseAll_keeps Store.quotaEff (fun _ => rfl) st m
@[simp] theorem releaseAll_scan : (st.releaseAll m).scan = st.scan := releaseAll_keeps Store.scan (fun _ => rfl) st m
@[simp] theorem releaseAll_retry : (st.releaseAll m).retry = st.retry := releaseAll_keeps Store.retry (fun _ => rfl) st m
@[simp] theorem releaseAll_count : (st.releaseAll m).count = st.count := releaseAll_keeps Store.count (fun _ => rfl) st m
end

/-! ### A record leaves the store -/

/-- The store after the removal of record `c`: its chain released, the record gone. -/
def Store.dropped (c : Clip) (st : Store) : Store :=
  let t := st.releaseAll (st.chainOf c)
  { t with index := t.index.filter fun d => d.number ≠ c.number }

theorem dropped_index (c : Clip) (st : Store) : (st.dropped c).index = st.index.filter fun d => d.number ≠ c.number := by
  unfold Store.dropped; dsimp only; rw [releaseAll_index]

theorem dropClip_eq (c : Clip) (s : State) :
    dropClip c s = judgeStore (withdrawUpdates c.number (s.mapStore (Store.dropped c))) := by
  unfold dropClip; dsimp only
  rw [foldl_releaseExtent]; rfl

/-- What `State.stock` looks at in the removal of a record. -/
theorem stock_dropClip (c : Clip) (s : State) :
    (dropClip c s).stock = (withdrawUpdates c.number (s.mapStore (Store.dropped c))).stock := by
  rw [dropClip_eq, stock_judgeStore]

/-- A function of the state that `State.stock` and the lists that a removal changes do not matter to, a removal keeps. -/
theorem dropClip_keeps {α : Type} (f : State → α) (hf : ∀ s : State, f s.stock = f s) (c : Clip)
    (hd : ∀ s, f (withdrawUpdates c.number (s.mapStore (Store.dropped c))) = f s) (s : State) :
    f (dropClip c s) = f s := by
  rw [← hf, stock_dropClip, hf, hd]

section
variable (c : Clip) (s : State)
theorem dropClip_index : (dropClip c s).store.index = s.store.index.filter fun d => d.number ≠ c.number :=
  (State.stock_keeps (fun t : State => t.store.index) (fun _ => rfl) (stock_dropClip c s)).trans (dropped_index c s.store)
@[simp] theorem dropClip_writer : (dropClip c s).store.writer = s.store.writer :=
  dropClip_keeps (fun t : State => t.store.writer) (fun _ => rfl) c (fun s => releaseAll_writer s.store _) s
@[simp] theorem dropClip_state : (dropClip c s).store.state = s.store.state :=
  dropClip_keeps (fun t : State => t.store.state) (fun _ => rfl) c (fun s => releaseAll_state s.store _) s
@[simp] theorem dropClip_nextClip : (dropClip c s).store.nextClip = s.store.nextClip :=
  dropClip_keeps (fun t : State => t.store.nextClip) (fun _ => rfl) c (fun s => releaseAll_nextClip s.store _) s
@[simp] theorem dropClip_supply : (dropClip c s).thermal.supply = s.thermal.supply :=
  dropClip_keeps (fun t : State => t.thermal.supply) (fun _ => rfl) c (fun _ => rfl) s
@[simp] theorem dropClip_tier : (dropClip c s).thermal.tier = s.thermal.tier :=
  dropClip_keeps (fun t : State => t.thermal.tier) (fun _ => rfl) c (fun _ => rfl) s
end
end Sys2Proof.Machine

/-! PROOF. Records that leave the index: what stands through removals and reclaims. -/

namespace Sys2Proof.Machine

/-- What `State.stock` looks at, but for the lists that the removal of records changes. -/
def State.shelved (s : State) : State :=
  { s.stock with
    store := { s.stock.store with extents := [], free := [], index := [] }
    card := { s.stock.card with updates := [] } }

/-- Records of which `p` holds have left the index, and nothing else has happened but for their releases. -/
structure Shed (p : Clip → Prop) (s t : State) : Prop where
  rest : t.shelved = s.shelved
  sublist : t.store.index.Sublist s.store.index
  stays : ∀ c ∈ s.store.index, ¬p c → c ∈ t.store.index

theorem Shed.refl (p : Clip → Prop) (s : State) : Shed p s s := ⟨rfl, .refl _, fun _ hc _ => hc⟩

section
variable {p : Clip → Prop} {s t u : State}

theorem Shed.trans (h : Shed p s t) (k : Shed p t u) : Shed p s u :=
  ⟨k.rest.trans h.rest, k.sublist.trans h.sublist, fun c hc hp => k.stays c (h.stays c hc hp) hp⟩

/-- What does not change what `State.stock` looks at may follow. -/
theorem Shed.congr (h : Shed p s t) (hu : u.stock = t.stock) : Shed p s u := by
  have hi : u.store.index = t.store.index := State.stock_keeps (fun x => x.store.index) (fun _ => rfl) hu
  exact ⟨(State.stock_keeps State.shelved (fun _ => rfl) hu).trans h.rest, hi ▸ h.sublist, fun c hc hp => hi ▸ h.stays c hc hp⟩

section
variable (h : Shed p s t)
include h

theorem Shed.keeps {α : Type} (f : State → α) (hf : ∀ s : State, f s.shelved = f s) : f t = f s := by
  rw [← hf t, h.rest, hf]
theorem Shed.writer : t.store.writer = s.store.writer := h.keeps (fun t => t.store.writer) fun _ => rfl
theorem Shed.state : t.store.state = s.store.state := h.keeps (fun t => t.store.state) fun _ => rfl
theorem Shed.nextClip : t.store.nextClip = s.store.nextClip := h.keeps (fun t => t.store.nextClip) fun _ => rfl
theorem Shed.retry : t.store.retry = s.store.retry := h.keeps (fun t => t.store.retry) fun _ => rfl
theorem Shed.scan : t.store.scan = s.store.scan := h.keeps (fun t => t.store.scan) fun _ => rfl
theorem Shed.count : t.store.count = s.store.count := h.keeps (fun t => t.store.count) fun _ => rfl
theorem Shed.op : t.card.op = s.card.op := h.keeps (fun t => t.card.op) fun _ => rfl
theorem Shed.buffer : t.intake.buffer = s.intake.buffer := h.keeps (fun t => t.intake.buffer) fun _ => rfl
theorem Shed.record : t.intake.record = s.intake.record := h.keeps (fun t => t.intake.record) fun _ => rfl
theorem Shed.supply : t.thermal.supply = s.thermal.supply := h.keeps (fun t => t.thermal.supply) fun _ => rfl
theorem Shed.tier : t.thermal.tier = s.thermal.tier := h.keeps (fun t => t.thermal.tier) fun _ => rfl
theorem Shed.writes : t.writes = s.writes := h.keeps State.writes fun _ => rfl
theorem Shed.mem {c : Clip} (hc : c ∈ t.store.index) : c ∈ s.store.index := h.sublist.subset hc
end
end

/-- `s` with the extents of record `c` released and its updates withdrawn, and the record gone. -/
theorem shed_dropClip (c : Clip) (s : State) : Shed (fun d => d.number = c.number) s (dropClip c s) where
  rest := dropClip_keeps State.shelved (fun _ => rfl) c (fun s =>
    congrArg (fun st : Store => State.shelved { s with store := st }) (unmapped_releaseAll s.store _) |>.trans rfl) s
  sublist := by rw [dropClip_index]; exact List.filter_sublist
  stays d hd hn := by rw [dropClip_index]; exact List.mem_filter.2 ⟨hd, by simpa using hn⟩
end Sys2Proof.Machine

/-! PROOF. The ledger of the Clip Store through removals, closes and openings. -/

namespace Sys2Proof.Machine

/-- No record is OPEN. -/
def Store.noneOpen (st : Store) : Prop := ∀ c ∈ st.index, c.state ≠ .opened

theorem Shed.noneOpen {p : Clip → Prop} {s t : State} (h : Shed p s t) (ho : s.store.noneOpen) : t.store.noneOpen :=
  fun c hc => ho c (h.mem hc)

theorem Shed.report {p : Clip → Prop} {s t : State} (h : Shed p s t) (x : Payload) : Shed p s (report x t) :=
  h.congr (stock_report t x)

theorem shed_removeClip (m : Nat) (s : State) : Shed (fun d => d.number = m) s (removeClip m s) := by
  unfold removeClip; split
  · next c hc =>
    obtain ⟨-, rfl⟩ := find_mem hc
    exact (((Shed.refl _ s).report _).trans (shed_dropClip c (reportClosed c true s))).congr rfl
  · exact .refl _ s

theorem oldestReclaimable_mem {st : Store} {c : Clip} (h : st.oldestReclaimable = some c) :
    c ∈ st.index ∧ c.state = .closed ∧ c.locked = false := by
  have hr := List.find?_some h
  unfold Clip.reclaimable at hr
  simp only [Bool.and_eq_true, decide_eq_true_eq, Bool.not_eq_true'] at hr
  exact ⟨List.mem_of_find?_eq_some h, hr⟩

section
variable {n l : Prop} {s : State} (h : Ledger n l s)
include h

/-! ### What the ledger does not look at -/

theorem ledger_report (p : Payload) : Ledger n l (report p s) := h.congr (stock_report s p)
theorem ledger_judgeHold : Ledger n l (judgeHold s) := h.congr (stock_judgeHold s)
theorem ledger_judgeStore : Ledger n l (judgeStore s) := h.congr (stock_judgeStore s)
theorem ledger_mapIntake (f : Intake → Intake) : Ledger n l (s.mapIntake f) := ⟨h.bounded, h.ordered, h.quiet, h.locks⟩
theorem ledger_mapCounters (f : Counters → Counters) : Ledger n l (s.mapCounters f) :=
  ⟨h.bounded, h.ordered, h.quiet, h.locks⟩
theorem ledger_mapCard {f : Card → Card} (hf : (f s.card).updates.length ≤ Config.updateLimit) : Ledger n l (s.mapCard f) :=
  ⟨⟨h.bounded.1, hf⟩, h.ordered, h.quiet, h.locks⟩
theorem ledger_mapStore {f : Store → Store} (hi : (f s.store).index = s.store.index := by rfl)
    (hs : (f s.store).state = s.store.state := by rfl) (hw : (f s.store).writer = s.store.writer := by rfl)
    (hn : (f s.store).nextClip = s.store.nextClip := by rfl) (hq : (f s.store).quotaEff = s.store.quotaEff := by rfl)
    (hk : (f s.store).scan = s.store.scan := by rfl) : Ledger n l (s.mapStore f) := by
  obtain ⟨⟨hb, hu⟩, ho, hquiet, hl⟩ := h
  refine ⟨⟨?_, hu⟩, ?_, fun hn => ?_, fun hl' => ?_⟩
  · rw [State.mapStore_store, hi]; exact hb
  · unfold ClipsOrdered; rw [State.mapStore_store, hi, hs, hw, hn, hk]; exact ho
  · intro he; rw [State.mapStore_store, hi, hw]; exact hquiet hn he
  · show lockedOf (f s.store).index ≤ (f s.store).quotaEff
    rw [hi, hq]; exact hl hl'
theorem ledger_ite {t : State} {c : Prop} [Decidable c] (ht : Ledger n l t) : Ledger n l (if c then s else t) := by
  split
  · exact h
  · exact ht
theorem Ledger.mono {m k : Prop} (hm : m → n) (hk : k → l) : Ledger m k s :=
  ⟨h.bounded, h.ordered, fun x => h.quiet (hm x), fun x => h.locks (hk x)⟩
/-- A writer that does not record is quiet under any supply. -/
theorem Ledger.quieted {m : Prop} (hw : s.store.writer ≠ .recording) : Ledger m l s :=
  ⟨h.bounded, h.ordered, fun _ => noneOpen_of_writer h.ordered hw, h.locks⟩
theorem Ledger.noneOpen (hw : s.store.writer ≠ .recording) : s.store.noneOpen := fun _ hc hs => hw (h.recording hc hs)

/-! ### Removals -/

theorem ledger_dropClip (c : Clip) : Ledger n l (dropClip c s) := by
  have hr : Ledger n l (s.mapStore fun st => st.releaseAll (st.chainOf c)) := ledger_mapStore h (by simp) (by simp) (by simp)
    (by simp) (by simp) (by simp)
  have hd : Ledger n l (s.mapStore (Store.dropped c)) := hr.remove fun d => d.number ≠ c.number
  have hw : Ledger n l (withdrawUpdates c.number (s.mapStore (Store.dropped c))) := by
    unfold withdrawUpdates
    exact ledger_mapCard hd ((List.length_filter_le _ _).trans hd.bounded.2)
  rw [dropClip_eq]
  exact ledger_judgeStore hw
theorem ledger_reclaim (c : Clip) : Ledger n l (reclaim c s) := (ledger_dropClip h c).congr rfl
theorem ledger_countFlush (f : Flush → Flush) : Ledger n l (countFlush f s) := ledger_mapStore h
theorem ledger_removeClip (m : Nat) : Ledger n l (removeClip m s) := by
  unfold removeClip; split
  · exact ledger_countFlush (ledger_dropClip (ledger_report h _) _) _
  · exact h
/-- The record that is reclaimed is CLOSED. -/
theorem Ledger.shed_reclaim {c : Clip} (hc : s.store.oldestReclaimable = some c) :
    Shed (fun d => d.state = .closed) s (reclaim c s) := by
  obtain ⟨hm, hr, -⟩ := oldestReclaimable_mem hc
  have hd := shed_dropClip c s
  exact Shed.congr (t := dropClip c s) ⟨hd.rest, hd.sublist, fun d hdm hne =>
    hd.stays d hdm fun heq => hne (by rw [h.unique hdm hm heq]; exact hr)⟩ rfl
theorem ledger_reclaimUntil (w k : Nat) : Ledger n l (reclaimUntil w k s) := by
  induction k generalizing s with
  | zero => exact h
  | succ k ih =>
    unfold reclaimUntil; split
    · split
      · exact ih (ledger_reclaim h _)
      · exact h
    · exact h
theorem Ledger.shed_reclaimUntil (w k : Nat) : Shed (fun d => d.state = .closed) s (reclaimUntil w k s) := by
  induction k generalizing s with
  | zero => exact .refl _ _
  | succ k ih =>
    unfold reclaimUntil; split
    · split
      · next c hc => exact (h.shed_reclaim hc).trans (ih (ledger_reclaim h c))
      · exact .refl _ _
    · exact .refl _ _

/-! ### Closes -/

/-- The records of one number become CLOSING or CLOSED, or keep their state, and keep number, lock and extents. -/
theorem ledger_updateClip {m : Nat} {f : Clip → Clip} (hf : ∀ c ∈ s.store.index, c.number = m → Aged c (f c))
    (hl : ∀ c, (f c).locked = c.locked := by intro _; rfl)
    (he : ∀ c, (f c).extentCount = c.extentCount := by intro _; rfl) : Ledger n l (updateClip m f s) :=
  h.changeClip fun c hc hn => ⟨hf c hc hn, by unfold Clip.heldExtents; rw [hl, he]⟩
/-- The records of one number change in what the ledger does not look at. -/
theorem ledger_amend {m : Nat} {f : Clip → Clip} (hn : ∀ c, (f c).number = c.number := by intro _; rfl)
    (hs : ∀ c, (f c).state = c.state := by intro _; rfl) (hl : ∀ c, (f c).locked = c.locked := by intro _; rfl)
    (he : ∀ c, (f c).extentCount = c.extentCount := by intro _; rfl) : Ledger n l (updateClip m f s) :=
  ledger_updateClip h (fun c _ _ => ⟨hn c, .inl (hs c)⟩) hl he
theorem ledger_closeClip (m : Nat) : Ledger n l (closeClip m s) := by
  have hu := ledger_updateClip h (m := m) (f := fun c => { c with state := .closed }) fun c _ _ => ⟨rfl, .inr (.inl rfl)⟩
  unfold closeClip; dsimp only; split
  · exact ledger_countFlush (ledger_report hu _) _
  · exact hu
theorem ledger_reapEmpty : Ledger n l (reapEmpty s) := by
  unfold reapEmpty
  generalize emptyClosing s = ms
  induction ms generalizing s with
  | nil => exact h
  | cons m ms ih => exact ih (ledger_removeClip h m)
omit h in
theorem shed_reapEmpty (s : State) : Shed (fun d => d.number ∈ emptyClosing s) s (reapEmpty s) := by
  unfold reapEmpty
  generalize emptyClosing s = ms
  induction ms generalizing s with
  | nil => exact .refl _ _
  | cons m ms ih =>
    have h1 := shed_removeClip m s
    have h2 := ih (removeClip m s)
    exact Shed.trans ⟨h1.rest, h1.sublist, fun c hc hn => h1.stays c hc fun he => hn (by simp [he])⟩
      ⟨h2.rest, h2.sublist, fun c hc hn => h2.stays c hc fun he => hn (by simp [he])⟩
omit h in
theorem closed_of_settled {st : Store} (h : st.settled = true) {c : Clip} (hc : c ∈ st.index) : c.state = .closed := by
  have hl := List.all_eq_true.1 h c hc
  unfold Clip.live at hl
  cases hs : c.state <;> simp [hs] at hl; rfl
theorem ledger_restWriter : Ledger n l (restWriter s) := by
  unfold restWriter; split
  · exact h
  · next hs =>
    have hc : ∀ c ∈ s.store.index, c.state = .closed := fun c hc => closed_of_settled (by simpa using hs) hc
    split
    · exact h.rest hc _ rfl
    · have ht := h.rest hc (fun st => { st with writer := .idle, flush := none }) rfl
      dsimp only; split
      · exact ledger_judgeHold (ledger_report ht _)
      · exact ledger_judgeHold ht
    · exact h
theorem ledger_afterClose : Ledger n l (afterClose s) :=
  ledger_judgeStore (ledger_judgeHold (ledger_restWriter (ledger_reapEmpty h)))
omit h in
/-- After a close the writer is as before, or IDLE. -/
theorem afterClose_writer (s : State) : (afterClose s).store.writer = s.store.writer ∨ (afterClose s).store.writer = .idle := by
  have hr : ∀ t : State, (restWriter t).store.writer = t.store.writer ∨ (restWriter t).store.writer = .idle := fun t => by
    have hj : ∀ u : State, (judgeHold u).store.writer = u.store.writer := fun u =>
      State.stock_keeps (fun x => x.store.writer) (fun _ => rfl) (stock_judgeHold u)
    unfold restWriter; split
    · exact .inl rfl
    · split
      · exact .inr rfl
      · refine .inr ?_
        rw [hj]; split
        · exact State.stock_keeps (fun x => x.store.writer) (fun _ => rfl) (stock_report _ _)
        · rfl
      · exact .inl rfl
  have hj : (afterClose s).store.writer = (restWriter (reapEmpty s)).store.writer :=
    State.stock_keeps (fun x => x.store.writer) (fun _ => rfl) (by simp [afterClose])
  rw [hj, ← (shed_reapEmpty s).writer]
  exact hr _
end
end Sys2Proof.Machine

/-! PROOF. The ledger of the Clip Store through the opening of clips, locks and allocation. -/

namespace Sys2Proof.Machine

/-! ### One record changed -/

/-- One record changed is a record of the index put in the place of another. -/
theorem updateClip_index_split {m : List Clip} (hn : (m.map Clip.number).Nodup) {c : Clip} (hc : c ∈ m) (f : Clip → Clip) :
    ∃ a b, m = a ++ c :: b ∧ (m.map fun d => if d.number = c.number then f d else d) = a ++ f c :: b := by
  obtain ⟨a, b, rfl⟩ := List.append_of_mem hc
  refine ⟨a, b, rfl, ?_⟩
  rw [List.map_append, List.map_cons, List.nodup_append] at hn
  obtain ⟨-, hcb, hd⟩ := hn
  have ha : ∀ d ∈ a, d.number ≠ c.number := fun d hd' he =>
    hd _ (List.mem_map_of_mem hd') _ (List.mem_cons_self ..) he
  have hb : ∀ d ∈ b, d.number ≠ c.number := fun d hd' he =>
    (List.nodup_cons.1 hcb).1 (he ▸ List.mem_map_of_mem hd')
  rw [List.map_append, List.map_cons, map_of_other ha, map_of_other hb, if_pos rfl]

theorem lockedOf_updateClip {m : List Clip} (hn : (m.map Clip.number).Nodup) {c : Clip} (hc : c ∈ m) (f : Clip → Clip) :
    lockedOf (m.map fun d => if d.number = c.number then f d else d) + c.heldExtents = lockedOf m + (f c).heldExtents := by
  obtain ⟨a, b, rfl, h⟩ := updateClip_index_split hn hc f
  rw [h]
  simp only [lockedOf_eq_sum, List.map_append, List.map_cons, List.sum_append, List.sum_cons]
  omega

/-! ### A view of the whole of the store changed by one record -/

theorem updateClip_index (n : Nat) (f : Clip → Clip) (s : State) :
    (updateClip n f s).store.index = s.store.index.map fun c => if c.number = n then f c else c := rfl

/-- A record after a change by number. -/
theorem mem_updateClip {n : Nat} {f : Clip → Clip} {s : State} {d : Clip} (h : d ∈ (updateClip n f s).store.index) :
    (d ∈ s.store.index ∧ d.number ≠ n) ∨ ∃ c ∈ s.store.index, c.number = n ∧ d = f c := by
  obtain ⟨c, hc, rfl⟩ := List.mem_map.1 h
  by_cases hn : c.number = n
  · exact .inr ⟨c, hc, hn, if_pos hn⟩
  · rw [if_neg hn]; exact .inl ⟨hc, hn⟩

/-- What `State.stock` keeps, the move of the writer keeps. -/
theorem stock_setWriter_congr {w : WriterState} {s t : State} (h : t.stock = s.stock) :
    (setWriter w t).stock = (setWriter w s).stock :=
  State.stock_keeps (fun x => (setWriter w x).stock) (fun _ => rfl) h

section
variable {n l : Prop} {s : State} (h : Ledger n l s)
include h

/-! ### Leaving RECORDING -/

theorem ledger_endIntake : Ledger n l (endIntake s) := ledger_mapIntake h _
theorem ledger_discardPacking : Ledger n l (discardPacking s) := ledger_mapIntake h _
theorem ledger_discardBlocks (m : Nat) : Ledger n l (discardBlocks m s) := ledger_mapIntake h _
theorem ledger_completePacking (c : Nat) : Ledger n l (completePacking c s) := by
  unfold completePacking; split
  · exact h
  · exact ledger_mapIntake h _
theorem ledger_setClosing {c : Clip} (hc : c ∈ s.store.index) (hs : c.state ≠ .closed) (r : CloseReason) :
    Ledger n l (updateClip c.number (setClosing r) s) := by
  refine ledger_updateClip h fun d hd hn => ⟨rfl, ?_⟩
  obtain rfl := h.unique hd hc hn
  cases hd' : d.state with
  | opened => exact .inr (.inr ⟨rfl, rfl⟩)
  | closing => exact .inl rfl
  | closed => exact absurd hd' hs
/-- With the OPEN record CLOSING none is OPEN. -/
theorem Ledger.noneOpen_setClosing {c : Clip} (hc : c ∈ s.store.index) (hs : c.state = .opened) (r : CloseReason) :
    (updateClip c.number (setClosing r) s).store.noneOpen := by
  intro d hd
  obtain ⟨hd, hn⟩ | ⟨b, -, -, rfl⟩ := mem_updateClip hd
  · exact fun ho => hn (h.opened_unique hd hc ho hs)
  · nofun
theorem ledger_closeOpen (r : CloseReason) : Ledger n l (closeOpen r s) := by
  unfold closeOpen; split
  · next c hc =>
    obtain ⟨hm, hs⟩ := openClip_mem hc
    exact ledger_endIntake (ledger_completePacking (ledger_setClosing h hm (by rw [hs]; nofun) r) _)
  · exact ledger_endIntake h
omit h in
theorem completePacking_store (m : Nat) (s : State) : (completePacking m s).store = s.store := by
  unfold completePacking; split <;> rfl
theorem Ledger.noneOpen_closeOpen (r : CloseReason) : (closeOpen r s).store.noneOpen := by
  unfold closeOpen; split
  · next c hc =>
    obtain ⟨hm, hs⟩ := openClip_mem hc
    show (completePacking c.number _).store.noneOpen
    rw [completePacking_store]; exact h.noneOpen_setClosing hm hs r
  · next hc => exact fun c hm => openClip_none hc hm
omit h in
theorem closeOpen_writer (r : CloseReason) (s : State) : (closeOpen r s).store.writer = s.store.writer := by
  unfold closeOpen; split
  · show (completePacking _ _).store.writer = _
    rw [completePacking_store]; rfl
  · rfl
theorem ledger_stopRecording (r : CloseReason) : Ledger n l (stopRecording r s) := by
  unfold stopRecording; split
  · next hw =>
    refine ledger_afterClose ((ledger_closeOpen h r).moveWriter (h.noneOpen_closeOpen r) ?_ nofun nofun)
    rw [closeOpen_writer, hw]; nofun
  · exact h
/-- The writer's entry to EMERGENCY leaves it quiet, whatever the supply has become. -/
theorem ledger_enterEmergency {m : Prop} (r : CloseReason) : Ledger m l (enterEmergency r s) := by
  unfold enterEmergency; split
  · next hw =>
    have hc := ledger_closeOpen (s := s.mapCounters fun c => { c with emergencyCloses := satAdd c.emergencyCloses 1 })
      ⟨h.bounded, h.ordered, h.quiet, h.locks⟩ r
    have hw' := closeOpen_writer r (s.mapCounters fun c => { c with emergencyCloses := satAdd c.emergencyCloses 1 })
    have ho := Ledger.noneOpen_closeOpen (s := s.mapCounters fun c => { c with emergencyCloses := satAdd c.emergencyCloses 1 })
      ⟨h.bounded, h.ordered, h.quiet, h.locks⟩ r
    have hs := hc.moveWriter (w := .emergency) ho (by
      rw [hw']; obtain hw | hw := hw
      · show s.store.writer ≠ .idle; rw [hw]; nofun
      · show s.store.writer ≠ .idle; rw [hw]; nofun) nofun nofun
    refine Ledger.quieted (ledger_afterClose (ledger_judgeHold (ledger_mapStore hs))) fun hr => ?_
    obtain h1 | h1 := afterClose_writer (judgeHold ((setWriter .emergency (closeOpen r (s.mapCounters fun c =>
      { c with emergencyCloses := satAdd c.emergencyCloses 1 }))).mapStore
        fun st => { st with flush := some ⟨st.tab.flushLimit, r, 0, 0, 0, 0, 0⟩ }))
    · have h2 := h1.symm.trans hr
      rw [State.stock_keeps (fun x => x.store.writer) (fun _ => rfl) (stock_judgeHold _)] at h2
      cases h2
    · exact absurd (h1.symm.trans hr) nofun
  · next hw => exact h.quieted fun hr => hw (.inl hr)

/-! ### Opening -/

theorem ledger_openingTest : Ledger n l (openingTest s).2 ∧ Shed (fun d => d.state = .closed) s (openingTest s).2 := by
  unfold openingTest; dsimp only; split
  · split
    · next c hc => exact ⟨ledger_reclaim h c, h.shed_reclaim hc⟩
    · exact ⟨h, .refl _ _⟩
  · exact ⟨h, .refl _ _⟩
omit h in
/-- A passed test leaves room in the index. -/
theorem openingTest_room (ht : (openingTest s).1 = true) : (openingTest s).2.store.index.length < Config.indexSize := by
  have hr : (openingTest s).1 = (decide ((openingTest s).2.store.index.length < Config.indexSize) && _ && _) := rfl
  rw [hr, Bool.and_eq_true, Bool.and_eq_true, decide_eq_true_eq] at ht
  exact ht.1.1
theorem ledger_openRecord {t : Nat} {w : ClipState} {k : Bool} {r : Option CloseReason}
    (hlen : s.store.index.length < Config.indexSize) (hw : s.store.writer ≠ .idle)
    (ho : w = .opened → s.store.writer = .recording ∧ s.store.noneOpen)
    (hq : n → s.thermal.supply = .emergency ∨ s.thermal.tier = .cutoff → w ≠ .opened) :
    Ledger n l (openRecord t w k r s) := ledger_report (h.open hlen rfl ho hw rfl hq) _
/-- An IDLE writer of a READY store begins to record where the supply and the tier allow it. -/
theorem Ledger.begin (hs : s.store.state = .ready)
    (hq : ¬(s.thermal.supply = .emergency ∨ s.thermal.tier = .cutoff)) : Ledger n l (setWriter .recording s) where
  bounded := h.bounded
  ordered := ⟨h.ascending, fun _ hc => h.below hc, fun _ hc _ hd => h.opened_unique hc hd, fun _ _ _ => rfl,
    fun _ _ _ => nofun, fun _ => hs, fun hk => h.scanning hk⟩
  quiet _ hu := absurd hu hq
  locks := h.locks
theorem ledger_startRecording (t : Nat) : Ledger n l (startRecording t s).2 := by
  unfold startRecording
  split
  · exact h
  · next hs =>
    split
    · exact h
    · next hu =>
      split
      · exact h
      · next hb =>
        obtain ⟨hl, hd⟩ := ledger_openingTest h
        dsimp only; split
        · next ht =>
          have hr := openingTest_room ht
          generalize (openingTest s).2 = u at hl hd hr
          have hidle : u.store.writer = .idle := by
            rw [hd.writer]; cases hw : s.store.writer <;> simp_all
          have hb := hl.begin (by rw [hd.state]; simpa using hs) (by rw [hd.supply, hd.tier]; tauto)
          have ho := ledger_openRecord (t := t) (w := .opened) (k := false) (r := none) hb hr nofun
            (fun _ => ⟨rfl, fun c hc => by rw [hl.closed_of_idle hidle hc]; nofun⟩) (by
              rw [show (setWriter .recording u).thermal = u.thermal from rfl, hd.supply, hd.tier]; tauto)
          refine ledger_judgeStore (ledger_mapIntake (ledger_mapIntake (ho.congr ?_) _) _)
          unfold openRecord
          rw [stock_setWriter_congr (stock_report _ _), stock_report]; rfl
        · exact ledger_judgeStore hl
theorem ledger_addMarker (k : Nat) : Ledger n l (addMarker k s).2.2 := by
  unfold addMarker; split
  · exact h
  · dsimp only; split
    · exact h
    · exact ledger_amend h

/-! ### Locks -/

theorem ledger_enqueueUpdate {m : Nat} (ht : s.card.takes m = true) : Ledger n l (enqueueUpdate m s) := by
  unfold enqueueUpdate; split
  · exact h
  · next hw =>
    refine ledger_mapCard h ?_
    rw [List.length_append, List.length_singleton]
    unfold Card.takes at ht
    rw [Bool.or_eq_true, decide_eq_true_eq] at ht
    exact ht.resolve_right hw
theorem ledger_setLock {c : Clip} (hc : c ∈ s.store.index) {v : Bool}
    (hq : v = true → s.store.lockedExtents + c.extentCount ≤ s.store.quotaEff)
    (ht : (c.needsRewrite && !s.card.takes c.number) = false) : Ledger n l (setLock c v s) := by
  have hu : Ledger n l (updateClip c.number (fun d => { d with locked := v }) s) := by
    refine h.reindex _ (fun d _ => ?_) fun hl => ?_
    · split <;> exact ⟨rfl, .inl rfl⟩
    · have hs := lockedOf_updateClip h.numbers_nodup hc (fun d => { d with locked := v })
      have hl' : lockedOf s.store.index ≤ s.store.quotaEff := h.locks hl
      show lockedOf (s.store.index.map fun d => if d.number = c.number then { d with locked := v } else d) ≤ _
      cases v with
      | false => simp only [Clip.heldExtents, Bool.false_eq_true, if_false] at hs; omega
      | true =>
        have hq' : lockedOf s.store.index + c.extentCount ≤ s.store.quotaEff := hq rfl
        simp only [Clip.heldExtents, if_true] at hs; omega
  unfold setLock; dsimp only
  by_cases hn : c.needsRewrite = true
  · rw [if_pos hn]
    rw [hn, Bool.true_and, Bool.not_eq_false'] at ht
    exact ledger_judgeStore (ledger_enqueueUpdate hu ht)
  · rw [if_neg hn]; exact ledger_judgeStore hu
theorem ledger_lockRecord {c : Clip} (hc : c ∈ s.store.index) : Ledger n l (lockRecord c s).2 := by
  unfold lockRecord; split
  · exact h
  · split
    · exact ledger_report h _
    · next hq =>
      split
      · exact h
      · next ht => exact ledger_setLock h hc (fun _ => Nat.not_lt.1 hq) (by simpa using ht)
theorem ledger_unlockRecord {c : Clip} (hc : c ∈ s.store.index) : Ledger n l (unlockRecord c s).2 := by
  unfold unlockRecord; split
  · exact h
  · split
    · exact h
    · next ht => exact ledger_setLock h hc nofun (by simpa using ht)
end
end Sys2Proof.Machine

/-! PROOF. The ledger of the Clip Store through the writer's work and the card's claims. -/

namespace Sys2Proof.Machine

theorem live_iff {c : Clip} : c.live = true ↔ c.state ≠ .closed := by
  unfold Clip.live; cases c.state <;> simp

theorem headClip_mem {s : State} {c : Clip} (h : headClip s = some c) :
    c ∈ s.store.index ∧ ∃ b, s.intake.buffer.head? = some b ∧ b.clip = c.number := by
  obtain ⟨b, hb, hc⟩ := Option.bind_eq_some_iff.1 h
  obtain ⟨hm, hn⟩ := find_mem hc
  exact ⟨hm, b, hb, hn.symm⟩

/-- An allocation is due for a live record. -/
theorem allocationDue_some {s : State} {c : Clip} (h : allocationDue s = some c) :
    writerFree s = true ∧ s.store.retry = none ∧ finalDue s = none ∧ headClip s = some c ∧ c.state ≠ .closed ∧
      (c.phase = .none ∨ c.phase = .full ∨ c.phase = .weak) := by
  unfold allocationDue at h
  split at h
  · cases h
  · next hf =>
    simp only [Bool.or_eq_true, Bool.not_eq_true', not_or, Bool.not_eq_false, Option.isSome_iff_ne_none, ne_eq,
      Decidable.not_not] at hf
    obtain ⟨⟨hw, hr⟩, hd⟩ := hf
    split at h
    · next d hh =>
      split at h
      · next hb =>
        cases h
        simp only [Bool.and_eq_true, Bool.or_eq_true, decide_eq_true_eq] at hb
        exact ⟨hw, hr, hd, hh, live_iff.1 hb.1.1, or_assoc.1 hb.1.2⟩
      · cases h
    · cases h

section
variable {n l : Prop} {s : State} (h : Ledger n l s)
include h

/-! ### Closes the writer makes -/

theorem ledger_updateIntake (f : IntakeRec → IntakeRec) : Ledger n l (updateIntake f s) := ledger_mapIntake h _
theorem ledger_retag (a b : Nat) : Ledger n l (retag a b s) := ledger_mapIntake h _
theorem ledger_continueIntake (m : Nat) : Ledger n l (continueIntake m s) := by
  unfold continueIntake; dsimp only
  exact ledger_amend (ledger_mapIntake h _)

theorem ledger_closeBehind : Ledger n l (closeBehind s) := by
  unfold closeBehind; split
  · next c hc =>
    obtain ⟨hm, hs⟩ := openClip_mem hc
    exact ledger_mapIntake (ledger_mapIntake (ledger_mapIntake (ledger_setClosing h hm (by rw [hs]; nofun) _) _) _) _
  · exact h
theorem Ledger.noneOpen_closeBehind : (closeBehind s).store.noneOpen := by
  unfold closeBehind; split
  · next c hc =>
    obtain ⟨hm, hs⟩ := openClip_mem hc
    exact h.noneOpen_setClosing hm hs _
  · next hc => exact fun c hm => openClip_none hc hm
theorem ledger_stopWriter (ho : s.store.noneOpen) : Ledger n l (stopWriter s) := by
  unfold stopWriter; split
  · next hw => exact h.moveWriter ho (by rw [hw]; nofun) nofun nofun
  · exact h
/-- The intake of a clip that closes for want of room ends, or a clip OPEN behind it closes, and the writer stops. -/
theorem ledger_closeFor (c : Clip) (ho : c.state = .opened → s.store.noneOpen) : Ledger n l
    (afterClose (stopWriter (if c.state = .opened then endIntake (discardPacking s) else closeBehind s))) := by
  split
  · next hc => exact ledger_afterClose (ledger_stopWriter (ledger_mapIntake (ledger_mapIntake h _) _) (ho hc))
  · exact ledger_afterClose (ledger_stopWriter (ledger_closeBehind h) h.noneOpen_closeBehind)
theorem ledger_fullClose {c : Clip} (hc : c ∈ s.store.index) (hs : c.state ≠ .closed) : Ledger n l (fullClose c s) := by
  have hd := ledger_discardBlocks h c.number
  exact ledger_closeFor (ledger_setClosing hd hc hs .full) c fun ho => hd.noneOpen_setClosing hc ho .full
theorem ledger_quotaClose {c : Clip} (hc : c ∈ s.store.index) (hs : c.state ≠ .closed) : Ledger n l (quotaClose c s) := by
  have hu := ledger_setClosing h hc hs .lockQuota
  have hv : Ledger n l (if c.extentCount = 0 then removeClip c.number (updateClip c.number (setClosing .lockQuota) s)
      else updateClip c.number (setClosing .lockQuota) s) := by
    split
    · exact ledger_removeClip hu _
    · exact hu
  have hd : ∃ p, Shed p (updateClip c.number (setClosing .lockQuota) s)
      (if c.extentCount = 0 then removeClip c.number (updateClip c.number (setClosing .lockQuota) s)
        else updateClip c.number (setClosing .lockQuota) s) := by
    split
    · exact ⟨_, shed_removeClip _ _⟩
    · exact ⟨fun _ => False, .refl _ _⟩
  unfold quotaClose; dsimp only
  generalize (if c.extentCount = 0 then removeClip c.number (updateClip c.number (setClosing .lockQuota) s)
    else updateClip c.number (setClosing .lockQuota) s) = v at hv hd
  obtain ⟨p, hd⟩ := hd
  obtain ⟨ht, ho⟩ := ledger_openingTest hv
  have hroom := openingTest_room (s := v)
  generalize openingTest v = test at ht ho hroom
  obtain ⟨pass, t⟩ := test
  dsimp only at ht ho hroom ⊢
  have hnone : c.state = .opened → t.store.noneOpen := fun hco =>
    ho.noneOpen (hd.noneOpen (h.noneOpen_setClosing hc hco .lockQuota))
  have hw : t.store.writer = s.store.writer := ho.writer.trans hd.writer
  cases pass with
  | true =>
    rw [if_pos rfl]
    have hr := ledger_openRecord (t := c.start) (w := c.state) (k := true) (r := c.reason) ht (hroom rfl)
      (by rw [hw]; exact h.running hc hs) (fun hco => ⟨by rw [hw]; exact h.recording hc hco, hnone hco⟩)
      (fun hn hu => by
        rw [ho.supply, hd.supply, ho.tier, hd.tier] at hu
        exact (h.quiet hn hu).2 c hc)
    have hr := ledger_retag hr c.number t.store.nextClip
    split
    · exact ledger_afterClose (ledger_continueIntake hr _)
    · exact ledger_afterClose hr
  | false =>
    rw [if_neg Bool.false_ne_true]
    have hf : Ledger n l (updateClip c.number (fun c => { c with flags := { c.flags with truncated := true } })
      (discardBlocks c.number t)) := ledger_amend (ledger_discardBlocks ht _)
    refine ledger_closeFor hf c fun hco d hd' => ?_
    obtain ⟨hd', -⟩ | ⟨b, hb, -, rfl⟩ := mem_updateClip hd'
    · exact hnone hco d hd'
    · exact hnone hco b hb
theorem ledger_cutFlush : Ledger n l (cutFlush s) := by
  unfold cutFlush; dsimp only; split
  · exact h
  · exact ledger_mapStore (ledger_afterClose (ledger_mapIntake (ledger_mapStore (ledger_countFlush
      (ledger_amend h) _)) _))

/-! ### Allocation -/

theorem ledger_chainExtent {c : Clip} (hc : c ∈ s.store.index)
    (hq : l → c.locked = true → s.store.lockedExtents + 1 ≤ s.store.quotaEff) (e : Nat) : Ledger n l (chainExtent c e s) := by
  have key : ∀ t : State, Ledger n l t → c ∈ t.store.index →
      (l → c.locked = true → t.store.lockedExtents + 1 ≤ t.store.quotaEff) → Ledger n l (updateClip c.number (fun c =>
        { c with extentCount := c.extentCount + 1, firstExtent := some (c.firstExtent.getD e), lastExtent := some e,
                 phase := .opening }) t) := fun t h hc hq => by
    refine h.reindex _ (fun d _ => ?_) fun hl => ?_
    · split <;> exact ⟨rfl, .inl rfl⟩
    · have hs := lockedOf_updateClip h.numbers_nodup hc (fun c =>
        { c with extentCount := c.extentCount + 1, firstExtent := some (c.firstExtent.getD e), lastExtent := some e,
                 phase := .opening })
      have hl' : lockedOf t.store.index ≤ t.store.quotaEff := h.locks hl
      show lockedOf (t.store.index.map fun d => if d.number = c.number then
        { d with extentCount := d.extentCount + 1, firstExtent := some (d.firstExtent.getD e), lastExtent := some e,
                 phase := .opening } else d) ≤ _
      simp only [Clip.heldExtents] at hs
      by_cases hk : c.locked = true
      · have hq' : lockedOf t.store.index + 1 ≤ t.store.quotaEff := hq hl hk
        rw [if_pos hk, if_pos hk] at hs; omega
      · rw [if_neg hk, if_neg hk] at hs; omega
  unfold chainExtent; dsimp only; split
  · exact key _ (ledger_mapStore (ledger_mapStore h)) hc hq
  · exact key _ (ledger_mapStore h) hc hq
theorem ledger_allocate {c : Clip} (hc : c ∈ s.store.index) (hs : c.state ≠ .closed) : Ledger n l (allocate c s) := by
  have hr := ledger_reclaimUntil h 1 s.store.index.length
  have hd := h.shed_reclaimUntil 1 s.store.index.length
  have hcr : c ∈ (reclaimUntil 1 s.store.index.length s).store.index := hd.stays c hc hs
  unfold allocate; split
  · split
    · exact ledger_cutFlush h
    · exact ledger_quotaClose h hc hs
  · next hq =>
    have hquota : l → c.locked = true → (reclaimUntil 1 s.store.index.length s).store.lockedExtents + 1 ≤
        (reclaimUntil 1 s.store.index.length s).store.quotaEff := fun _ hk => by
      have hsum : lockedOf (reclaimUntil 1 s.store.index.length s).store.index ≤ lockedOf s.store.index :=
        lockedOf_sublist hd.sublist
      have hqe : (reclaimUntil 1 s.store.index.length s).store.quotaEff = s.store.quotaEff :=
        hd.keeps (fun t => t.store.quotaEff) fun _ => rfl
      rw [hqe]
      have : ¬ s.store.quotaEff < lockedOf s.store.index + 1 := fun hlt => hq (by rw [hk]; exact decide_eq_true hlt)
      show lockedOf _ + 1 ≤ _
      omega
    dsimp only; split
    · split
      · exact ledger_cutFlush hr
      · exact ledger_fullClose hr hcr hs
    · exact ledger_reclaimUntil (ledger_judgeStore (ledger_chainExtent hr hcr hquota _)) _ _

/-! ### The card's claims -/

theorem ledger_clearRetry : Ledger n l (clearRetry s) := ledger_mapStore h
theorem ledger_startOp (o : OpSource) (c : Nat) (k : OpKind) (x m : Nat) (d : Bytes) : Ledger n l (startOp o c k x m d s) :=
  ledger_mapCard h h.bounded.2
theorem ledger_countRetry (b : Bool) : Ledger n l (countRetry b s) := by
  unfold countRetry; split
  · exact h.congr rfl
  · exact h
theorem ledger_startTrailer (w : WWrite) (c m e d : Nat) (f : Bool) : Ledger n l (startTrailer w c m e d f s) := by
  unfold startTrailer; split
  · exact ledger_clearRetry h
  · exact ledger_startOp h _ _ _ _ _ _
theorem ledger_startWriter (c : Nat) (w : WWrite) : Ledger n l (startWriter c w s) := by
  have hc := ledger_countRetry h s.store.retry.isSome
  unfold startWriter; dsimp only; split
  · exact ledger_startTrailer hc _ _ _ _ _ _
  · exact ledger_startTrailer hc _ _ _ _ _ _
  · exact ledger_startTrailer hc _ _ _ _ _ _
  · exact ledger_startTrailer (ledger_amend hc) _ _ _ _ _ _
  · exact ledger_startOp hc _ _ _ _ _ _
theorem ledger_popUpdate : Ledger n l (popUpdate s) :=
  ledger_mapCard h (by rw [List.length_drop]; have := h.bounded.2; omega)
theorem ledger_startUpdate : Ledger n l (startUpdate s) := by
  unfold startUpdate; split
  · exact h
  · next u us hu =>
    split
    · exact ledger_popUpdate h
    · split
      · exact ledger_popUpdate h
      · have hb := h.bounded.2
        rw [hu] at hb
        exact ledger_startOp (ledger_countRetry (ledger_mapCard h hb) _) _ _ _ _ _ _
theorem ledger_startScan : Ledger n l (startScan s) := by
  unfold startScan; split
  · exact h
  · exact ledger_startOp (ledger_countRetry h _) _ _ _ _ _ _
theorem ledger_passAnswer (c : AnswerCode) (d : Bytes) : Ledger n l (passAnswer c d s) := by
  unfold passAnswer; split
  · exact h
  · dsimp only; split
    · exact h.congr rfl
    · exact h.congr (stock_enqueueAnswer _ _)
theorem ledger_startPass : Ledger n l (startPass s) := by
  unfold startPass; split
  · exact h
  · split
    · exact ledger_passAnswer h _ _
    · exact ledger_startOp (ledger_mapCard h h.bounded.2) _ _ _ _ _ _
theorem ledger_startClaim : Ledger n l (startClaim s) := by
  unfold startClaim; split
  · exact h
  · exact ledger_startUpdate h
  · exact ledger_startScan h
  · exact ledger_startPass h
  · split
    · exact ledger_startWriter h _ _
    · exact h
theorem ledger_pumpStep {t : State} (ht : pumpStep s = some t) : Ledger n l t := by
  unfold pumpStep at ht
  split at ht
  · cases ht; exact ledger_afterClose h
  · split at ht
    · cases ht; exact ledger_cutFlush h
    · split at ht
      · next c hc =>
        obtain ⟨-, -, -, hh, hs, -⟩ := allocationDue_some hc
        cases ht; exact ledger_allocate h (headClip_mem hh).1 hs
      · split at ht
        · cases ht; exact ledger_startClaim h
        · cases ht

/-! ### The Trigger Unit's actions -/

theorem ledger_lockPart {c : Clip} (hc : c ∈ s.store.index) : Ledger n l (lockPart c s).2 := by
  unfold lockPart; split
  · exact h
  · exact ledger_lockRecord h hc
theorem ledger_fire (i : Nat) (e : TrigEntry) : Ledger n l (fire i e s) := by
  unfold fire reportFiring
  split
  · refine ledger_report ?_ _
    unfold actMark; split
    · exact h
    · exact ledger_addMarker h _
  · refine ledger_report ?_ _
    unfold actLock; dsimp only; split
    · exact h
    · next c hc =>
      have ha := ledger_lockPart h (openClip_mem hc).1
      split
      · split
        · exact ha
        · next d hd =>
          exact ledger_lockPart ha (List.mem_reverse.1 (List.mem_of_find?_eq_some hd))
      · exact ha
  · refine ledger_report ?_ _
    unfold actSplit; split
    · exact h
    · split
      · exact h
      · split
        · exact h
        · exact ledger_updateIntake h _
  · refine ledger_report ?_ _
    unfold actStop; split
    · exact ledger_stopRecording h _
    · exact h
  · refine ledger_report ?_ _
    unfold actStart; split
    · exact h
    · exact ledger_startRecording h _
end
end Sys2Proof.Machine

/-! PROOF. The rebuild of a scan, by cases: what a kept chain holds, and the records that come of it (R87, R88). -/

namespace Sys2Proof.Machine

/-! ### Kept chains -/

theorem soleCandidate_mem {cs : List Candidate} {n q : Nat} {k : Candidate} (h : soleCandidate cs n q = some k) :
    k ∈ cs ∧ k.2.clip = n ∧ k.2.seq = q := by
  unfold soleCandidate at h
  split at h
  · next x hx =>
    cases h
    have hm : k ∈ cs.filter fun k => k.2.clip = n && k.2.seq = q := by rw [hx]; exact List.mem_singleton_self k
    simpa using hm
  · cases h

/-- A kept chain: empty, or the sole candidate of its sequence and, unless that is final, the chain after it. -/
theorem keptChain_succ (cs : List Candidate) (n f q : Nat) (prev : Option Nat) :
    keptChain cs n (f + 1) q prev = [] ∨ ∃ k, soleCandidate cs n q = some k ∧ (q = 0 ∨ k.2.prev = prev) ∧
      keptChain cs n (f + 1) q prev = k :: if k.2.final then [] else keptChain cs n f (q + 1) (some k.1) := by
  rw [keptChain]
  split
  · exact .inl rfl
  · next k hk =>
    split
    · next hp => exact .inr ⟨k, hk, hp, rfl⟩
    · exact .inl rfl

/-- Every extent of a kept chain is a candidate of its clip. -/
theorem keptChain_mem {cs : List Candidate} {n f q : Nat} {prev : Option Nat} {k : Candidate}
    (h : k ∈ keptChain cs n f q prev) : k ∈ cs ∧ k.2.clip = n := by
  induction f generalizing q prev with
  | zero => cases h
  | succ f ih =>
    obtain he | ⟨x, hx, -, he⟩ := keptChain_succ cs n f q prev
    · rw [he] at h; cases h
    · rw [he] at h
      obtain ⟨hm, hc, -⟩ := soleCandidate_mem hx
      obtain rfl | h := List.mem_cons.1 h
      · exact ⟨hm, hc⟩
      · split at h
        · cases h
        · exact ih h

/-! ### Clip numbers -/

theorem mem_insertAscending {n m : Nat} {l : List Nat} : m ∈ insertAscending n l ↔ m = n ∨ m ∈ l := by
  induction l with
  | nil => simp [insertAscending]
  | cons a l ih =>
    unfold insertAscending
    split
    · simp
    · split
      · next h => subst h; simp
      · simp only [List.mem_cons, ih]; tauto

theorem pairwise_insertAscending {n : Nat} {l : List Nat} (h : l.Pairwise (· < ·)) :
    (insertAscending n l).Pairwise (· < ·) := by
  induction l with
  | nil => simp [insertAscending]
  | cons a l ih =>
    obtain ⟨ha, hl⟩ := List.pairwise_cons.1 h
    unfold insertAscending
    split
    · next hn => exact List.pairwise_cons.2 ⟨fun b hb => by
        obtain rfl | hb := List.mem_cons.1 hb
        · exact hn
        · exact hn.trans (ha b hb), h⟩
    · split
      · exact h
      · next hn hne => exact List.pairwise_cons.2 ⟨fun b hb => by
          obtain rfl | hb := mem_insertAscending.1 hb
          · omega
          · exact ha b hb, ih hl⟩

theorem pairwise_clipNumbers (cs : List Candidate) : (clipNumbers cs).Pairwise (· < ·) := by
  induction cs with
  | nil => exact .nil
  | cons k cs ih => exact pairwise_insertAscending ih

theorem mem_clipNumbers {n : Nat} {cs : List Candidate} : n ∈ clipNumbers cs ↔ ∃ k ∈ cs, k.2.clip = n := by
  induction cs with
  | nil => simp [clipNumbers]
  | cons k cs ih =>
    show n ∈ insertAscending k.2.clip (clipNumbers cs) ↔ _
    rw [mem_insertAscending, ih]
    constructor
    · rintro (rfl | ⟨x, hx, rfl⟩)
      · exact ⟨k, by simp, rfl⟩
      · exact ⟨x, by simp [hx], rfl⟩
    · rintro ⟨x, hx, rfl⟩
      obtain rfl | hx := List.mem_cons.1 hx
      · exact .inl rfl
      · exact .inr ⟨x, hx, rfl⟩

/-! ### Records -/

/-- The record of a chain has the number of its last extent and is CLOSED. -/
theorem rebuiltClip_some {ch : List Candidate} {c : Clip} (h : rebuiltClip ch = some c) :
    ∃ first last, ch.head? = some first ∧ ch.getLast? = some last ∧ c =
      { number := last.2.clip, state := .closed, locked := last.2.locked,
        flags := { last.2.flags with unfinished := last.2.flags.unfinished || !(ch.any fun k => k.2.final) },
        start := last.2.start, openTime := none, firstPts := none, duration := last.2.duration,
        firstExtent := some first.1, lastExtent := some last.1, extentCount := ch.length,
        dataBlocks := (ch.map fun k => k.2.data).sum - 1, markers := [], reason := none, phase := .none,
        finalBegun := false } := by
  unfold rebuiltClip at h
  split at h
  · next first rest last hl => exact ⟨first, last, rfl, hl, (Option.some.inj h).symm⟩
  · cases h

theorem rebuiltClip_isSome {ch : List Candidate} (h : ch ≠ []) : ∃ c, rebuiltClip ch = some c := by
  cases ch with
  | nil => exact absurd rfl h
  | cons k ch =>
    unfold rebuiltClip
    cases hl : (k :: ch).getLast? with
    | none => simp at hl
    | some last => exact ⟨_, rfl⟩

/-! ### The kept chains of the findings -/

/-- The candidates of the findings: the valid trailers with data (R87). -/
def candidatesOf (found : List Finding) : List Candidate := (validFrom 0 found).filter fun k => 0 < k.2.data

/-- The chain kept of clip `n`. -/
def keptOf (found : List Finding) (n : Nat) : List Candidate := keptChain (candidatesOf found) n found.length 0 none

/-- The chains kept, those of the 512 highest numbers of them (R88). -/
@[irreducible] def keptChains (found : List Finding) : List (List Candidate) :=
  let chains := ((clipNumbers (candidatesOf found)).map (keptOf found)).filter fun c => !c.isEmpty
  chains.drop (chains.length - Config.indexSize)

/-- The Clip Index of the findings. -/
@[irreducible] def rebuiltIndex (found : List Finding) : List Clip := (keptChains found).filterMap rebuiltClip

/-- The largest clip number that a valid trailer names, or 0. -/
def topNumber (found : List Finding) : Nat := ((validFrom 0 found).map fun k => k.2.clip).foldl max 0

theorem keptChains_sublist (found : List Finding) :
    (keptChains found).Sublist ((clipNumbers (candidatesOf found)).map (keptOf found)) := by
  unfold keptChains
  exact (List.drop_sublist ..).trans List.filter_sublist

/-- A chain kept is a nonempty chain of a number. -/
theorem mem_keptChains {found : List Finding} {ch : List Candidate} (h : ch ∈ keptChains found) :
    ch ≠ [] ∧ ∃ n, ch = keptOf found n := by
  unfold keptChains at h
  have hf := List.mem_of_mem_drop h
  obtain ⟨hm, hne⟩ := List.mem_filter.1 hf
  obtain ⟨n, -, rfl⟩ := List.mem_map.1 hm
  exact ⟨by simpa using hne, n, rfl⟩

/-- The record of a kept chain has the chain's number. -/
theorem rebuiltClip_number {found : List Finding} {n : Nat} {c : Clip} (h : rebuiltClip (keptOf found n) = some c) :
    c.number = n := by
  obtain ⟨first, last, -, hl, rfl⟩ := rebuiltClip_some h
  exact (keptChain_mem (List.mem_of_getLast? hl)).2

theorem rebuiltIndex_length (found : List Finding) : (rebuiltIndex found).length ≤ Config.indexSize := by
  unfold rebuiltIndex
  refine (List.length_filterMap_le ..).trans ?_
  unfold keptChains; dsimp only
  rw [List.length_drop]; omega

theorem rebuiltIndex_ascending (found : List Finding) : ((rebuiltIndex found).map Clip.number).Pairwise (· < ·) := by
  rw [List.pairwise_map, rebuiltIndex, List.pairwise_filterMap]
  refine List.Pairwise.sublist (keptChains_sublist found) (List.pairwise_map.2 ?_)
  refine (pairwise_clipNumbers _).imp fun {m n} hmn c hc d hd => ?_
  rw [rebuiltClip_number hc, rebuiltClip_number hd]; exact hmn

/-- A record of the rebuilt index comes of a kept chain of its number. -/
theorem mem_rebuiltIndex {found : List Finding} {c : Clip} (h : c ∈ rebuiltIndex found) :
    keptOf found c.number ∈ keptChains found ∧ rebuiltClip (keptOf found c.number) = some c := by
  unfold rebuiltIndex at h
  obtain ⟨ch, hch, hc⟩ := List.mem_filterMap.1 h
  obtain ⟨-, n, rfl⟩ := mem_keptChains hch
  rw [rebuiltClip_number hc]; exact ⟨hch, hc⟩

theorem rebuiltIndex_closed {found : List Finding} {c : Clip} (h : c ∈ rebuiltIndex found) : c.state = .closed := by
  obtain ⟨first, last, -, -, hc⟩ := rebuiltClip_some (mem_rebuiltIndex h).2
  rw [hc]

theorem le_foldl_max {l : List Nat} {x a : Nat} (h : x = a ∨ x ∈ l) : x ≤ l.foldl max a := by
  induction l generalizing a x with
  | nil => exact (h.resolve_right List.not_mem_nil).le
  | cons b l ih =>
    have hi : max a b ≤ l.foldl max (max a b) := ih (.inl rfl)
    obtain h | h := h
    · subst h; exact (Nat.le_max_left ..).trans hi
    · obtain h | h := List.mem_cons.1 h
      · subst h; exact (Nat.le_max_right ..).trans hi
      · exact ih (.inr h)

theorem rebuiltIndex_below {found : List Finding} {c : Clip} (h : c ∈ rebuiltIndex found) : c.number < topNumber found + 1 := by
  obtain ⟨hch, -⟩ := mem_rebuiltIndex h
  obtain ⟨hne, -⟩ := mem_keptChains hch
  obtain ⟨k, ch, hk⟩ := List.exists_cons_of_ne_nil hne
  obtain ⟨hm, hn⟩ := keptChain_mem (show k ∈ keptOf found c.number by rw [hk]; exact List.mem_cons_self ..)
  rw [← hn]
  exact Nat.lt_succ_of_le (le_foldl_max (.inr (List.mem_map_of_mem (List.mem_filter.1 hm).1)))

/-! ### The rebuilt store -/

/-- The Extent Map of the findings. -/
def rebuiltMap (found : List Finding) : List Extent := rebuiltExtents ((keptChains found).flatMap chainEntries) 0 found

/-- The store rebuilt from the findings. -/
def Store.rebuilt (found : List Finding) (st : Store) : Store :=
  { st with state := .ready, extents := rebuiltMap found, free := freeFrom 0 (rebuiltMap found), index := rebuiltIndex found,
            nextClip := topNumber found + 1, scan := none,
            quotaEff := max st.quota (lockedOf (rebuiltIndex found)) }

@[simp] theorem rebuilt_index (found : List Finding) (st : Store) : (st.rebuilt found).index = rebuiltIndex found := rfl
@[simp] theorem rebuilt_nextClip (found : List Finding) (st : Store) : (st.rebuilt found).nextClip = topNumber found + 1 := rfl
@[simp] theorem rebuilt_quotaEff (found : List Finding) (st : Store) :
    (st.rebuilt found).quotaEff = max st.quota (lockedOf (rebuiltIndex found)) := rfl

theorem rebuild_eq (found : List Finding) (s : State) :
    rebuild found s = judgeStore (report (.mountDone (rebuiltIndex found).length (freeFrom 0 (rebuiltMap found)).length
      (s.store.rebuilt found).badCount (s.store.rebuilt found).lockedExtents
      ((rebuiltIndex found).countP fun c => c.flags.unfinished)) (s.mapStore (Store.rebuilt found))) := by
  have hk : (((clipNumbers (candidatesOf found)).map fun n => keptChain (candidatesOf found) n found.length 0 none).filter
      fun c => !c.isEmpty).drop ((((clipNumbers (candidatesOf found)).map fun n =>
        keptChain (candidatesOf found) n found.length 0 none).filter fun c => !c.isEmpty).length - Config.indexSize) =
      keptChains found := by unfold keptChains keptOf; rfl
  unfold rebuild
  dsimp only
  rw [show (validFrom 0 found).filter (fun k => 0 < k.2.data) = candidatesOf found from rfl, hk]
  unfold State.mapStore Store.rebuilt rebuiltMap rebuiltIndex topNumber Store.lockedExtents lockedOf
  dsimp only
end Sys2Proof.Machine

/-! PROOF. The ledger of the Clip Store through the endings of operations, the scan, MOUNT, UNMOUNT and FAULT. -/

namespace Sys2Proof.Machine

section
variable {n l : Prop} {s : State} (h : Ledger n l s)
include h

/-! ### Endings of writer writes -/

theorem ledger_setPhase (m : Nat) (p : Phase) : Ledger n l (setPhase m p s) := ledger_amend h
theorem ledger_setCardFlag (m : Nat) : Ledger n l (setCardFlag m s) := ledger_amend h
theorem ledger_updateOwned (i : Nat) (f : Owned → Owned) : Ledger n l (updateOwned i f s) := ledger_mapStore h
theorem ledger_burstDone (m e b : Nat) (hd k : Bool) : Ledger n l (burstDone m e b hd k s) := by
  have h1 : Ledger n l (updateClip m (fun c => { c with dataBlocks := c.dataBlocks + b })
      (updateOwned e (fun o => { o with data := o.data + b + (if hd then 1 else 0) })
        (s.mapIntake fun i => { i with buffer := i.buffer.drop b }))) :=
    ledger_amend (ledger_updateOwned (ledger_mapIntake h _) _ _)
  exact ledger_judgeHold (ledger_ite (ledger_countFlush (ledger_ite (ledger_setPhase h1 _ _) h1) _)
    (ledger_ite (ledger_setPhase h1 _ _) h1))
theorem ledger_writerOk (w : WWrite) : Ledger n l (writerOk w s) := by
  have hc := ledger_clearRetry h
  cases w with
  | openTrailer c e => exact ledger_setPhase hc _ _
  | burst c e p k hd x d => exact ledger_burstDone hc _ _ _ _ _
  | fullTrailer c e => exact ledger_setPhase hc _ _
  | weakTrailer c e => exact ledger_setPhase hc _ _
  | finalTrailer c e => exact ledger_afterClose (ledger_closeClip hc _)
theorem ledger_leaveChain (m e : Nat) : Ledger n l (leaveChain m e s) := by
  unfold leaveChain; split
  · exact h
  · next c hc =>
    have key : ∀ (t : State) (p : Option Nat) (ph : Phase), Ledger n l t → Ledger n l (updateClip m (fun c =>
        { c with extentCount := c.extentCount - 1, lastExtent := p, phase := ph,
                 firstExtent := if p.isSome then c.firstExtent else none }) t) := fun t p ph h =>
      h.changeClip fun d _ _ => ⟨⟨rfl, .inl rfl⟩, by unfold Clip.heldExtents; dsimp only; split <;> omega⟩
    refine ledger_judgeStore (key _ _ _ ?_)
    split
    · exact ledger_updateOwned (ledger_mapStore h) _ _
    · exact ledger_mapStore h
theorem ledger_giveUp (w : WWrite) : Ledger n l (giveUp w s) := by
  have hc := ledger_clearRetry h
  cases w with
  | openTrailer c e => exact ledger_leaveChain hc _ _
  | burst c e p k hd x d =>
    show Ledger n l (if (clearRetry s).store.dataOf e = 0 then leaveChain c e (clearRetry s)
      else setPhase c .weakDue (updateOwned e (fun o => { o with weak := true }) (clearRetry s)))
    split
    · exact ledger_leaveChain hc _ _
    · exact ledger_setPhase (ledger_updateOwned hc _ _) _ _
  | fullTrailer c e => exact ledger_setPhase (ledger_setCardFlag hc _) _ _
  | weakTrailer c e => exact ledger_setPhase (ledger_setCardFlag hc _) _ _
  | finalTrailer c e => exact ledger_afterClose (ledger_closeClip (ledger_setCardFlag hc _) _)
theorem ledger_writerError (w : WWrite) : Ledger n l (writerError w s) := by
  unfold writerError; split
  · exact ledger_giveUp h w
  · exact ledger_mapStore h

/-! ### Stores without live records -/

/-- The writer is IDLE where the store is not READY. -/
theorem Ledger.idle_of_notReady (hs : s.store.state ≠ .ready) : s.store.writer = .idle := by
  by_contra hw; exact hs (h.ready hw)

/-- A store whose records are CLOSED and within their bounds, with the writer IDLE, keeps the ledger. -/
theorem Ledger.replace {f : Store → Store} (hlen : (f s.store).index.length ≤ Config.indexSize)
    (hasc : ((f s.store).index.map Clip.number).Pairwise (· < ·))
    (hbelow : ∀ c ∈ (f s.store).index, c.number < (f s.store).nextClip)
    (hcl : ∀ c ∈ (f s.store).index, c.state = .closed) (hw : (f s.store).writer = .idle)
    (hk : (f s.store).scan ≠ none → (f s.store).state = .scanning)
    (hq : l → lockedOf (f s.store).index ≤ (f s.store).quotaEff) : Ledger n l (s.mapStore f) where
  bounded := ⟨hlen, h.bounded.2⟩
  ordered := by
    refine ⟨hasc, hbelow, fun c hc d hd ho => ?_, fun c hc ho => ?_, fun c hc ho => ?_, fun hi => absurd hw hi, hk⟩
    · rw [hcl c hc] at ho; cases ho
    · rw [hcl c hc] at ho; cases ho
    · rw [hcl c hc] at ho; cases ho
  quiet _ _ := ⟨fun hr => absurd (hw.symm.trans hr) nofun, fun c hc => by rw [hcl c hc]; nofun⟩
  locks := hq

/-- A store without records, with the writer IDLE, keeps the ledger. -/
theorem Ledger.emptied {f : Store → Store} (hi : (f s.store).index = []) (hw : (f s.store).writer = .idle)
    (hk : (f s.store).scan ≠ none → (f s.store).state = .scanning) : Ledger n l (s.mapStore f) := by
  have hm : ∀ c, c ∉ (f s.store).index := by rw [hi]; exact fun _ => List.not_mem_nil
  refine h.replace (by rw [hi]; exact Nat.zero_le _) (by rw [hi]; exact .nil) (fun c hc => absurd hc (hm c))
    (fun c hc => absurd hc (hm c)) hw hk fun _ => ?_
  rw [hi]; exact Nat.zero_le _

theorem ledger_toUnmounted (hw : s.store.writer = .idle) : Ledger n l (toUnmounted s) :=
  ledger_judgeStore (h.emptied rfl hw fun hk => absurd rfl hk)
theorem ledger_mountBlank (hs : s.store.state = .unmounted) (a m g : Nat) : Ledger n l (s.mapStore (mountBlank a m g)) :=
  h.emptied rfl (h.idle_of_notReady (by rw [hs]; nofun)) fun hk => absurd rfl hk
theorem ledger_mountScan (hs : s.store.state = .unmounted) (a m g : Nat) : Ledger n l (s.mapStore (mountScan a m g)) :=
  h.emptied rfl (h.idle_of_notReady (by rw [hs]; nofun)) fun _ => rfl

/-! ### The scan -/

theorem ledger_rebuild (hw : s.store.writer = .idle) (found : List Finding) : Ledger n l (rebuild found s) := by
  have hr : Ledger n l (s.mapStore (Store.rebuilt found)) :=
    h.replace (by simpa using rebuiltIndex_length found) (by simpa using rebuiltIndex_ascending found)
      (fun c hc => by rw [rebuilt_index] at hc; simpa using rebuiltIndex_below hc)
      (fun c hc => by rw [rebuilt_index] at hc; exact rebuiltIndex_closed hc) hw (fun hk => absurd rfl hk)
      fun _ => by rw [rebuilt_quotaEff, rebuilt_index]; exact le_max_right _ _
  rw [rebuild_eq]
  exact ledger_judgeStore (ledger_report hr _)
/-- A scan that goes on keeps the ledger. -/
theorem ledger_scanNext (hs : s.store.scan ≠ none) (k : Scan) :
    Ledger n l (s.mapStore fun st => { st with scan := some k }) := by
  refine ⟨h.bounded, ?_, h.quiet, h.locks⟩
  exact ⟨h.ascending, fun c hc => h.below hc, fun c hc d hd => h.opened_unique hc hd, fun c hc => h.recording hc,
    fun c hc hk => h.running hc (by rw [hk]; nofun), fun hw => h.ready hw, fun _ => h.scanning hs⟩
theorem Ledger.idle_of_scan {k : Scan} (hk : s.store.scan = some k) : s.store.writer = .idle :=
  h.idle_of_notReady (by rw [h.scanning (by rw [hk]; nofun)]; nofun)
theorem ledger_scanFound (f : Finding) : Ledger n l (scanFound f s) := by
  unfold scanFound; split
  · exact h
  · next k hk =>
    dsimp only; split
    · exact ledger_rebuild h (h.idle_of_scan hk) _
    · exact ledger_scanNext h (by rw [hk]; nofun) _
theorem ledger_scanOk (d : Bytes) : Ledger n l (scanOk d s) := by
  unfold scanOk; split
  · exact h
  · next k hk =>
    split
    · exact ledger_toUnmounted h (h.idle_of_scan hk)
    · exact ledger_scanFound h _
theorem ledger_scanError : Ledger n l (scanError s) := by
  unfold scanError; split
  · exact h
  · next k hk =>
    split
    · exact ledger_toUnmounted h (h.idle_of_scan hk)
    · split
      · exact ledger_scanFound h _
      · exact ledger_scanNext h (by rw [hk]; nofun) _
theorem ledger_stopScan (hw : s.store.writer = .idle) : Ledger n l (stopScan s) := by
  unfold stopScan; split
  · cases hk : s.store.scan with
    | none => exact (ledger_mapStore (f := id) h).congr (by simp [State.stock, hk])
    | some k =>
      exact (ledger_scanNext h (by rw [hk]; nofun) { k with abandoned := true }).congr (by simp [State.stock, hk])
  · exact ledger_toUnmounted h hw

/-! ### FAULT -/

theorem ledger_faultClip (m : Nat) : Ledger n l (updateClip m faultClip s) :=
  ledger_updateClip h fun c _ _ => ⟨rfl, .inr (.inl rfl)⟩
theorem ledger_faultRecord (m : Nat) : Ledger n l (faultRecord s m) := by
  have hu := ledger_faultClip h m
  unfold faultRecord; dsimp only; split
  · split
    · exact ledger_removeClip hu _
    · exact ledger_report hu _
  · exact hu
omit h in
/-- A record that stands after one record has met FAULT is CLOSED, or stood before and is another. -/
theorem faultRecord_mem {s : State} {m : Nat} {c : Clip} (hc : c ∈ (faultRecord s m).store.index) :
    c.state = .closed ∨ (c ∈ s.store.index ∧ c.number ≠ m) := by
  have hs : ∃ p, Shed p (updateClip m faultClip s) (faultRecord s m) := by
    unfold faultRecord; dsimp only; split
    · split
      · exact ⟨_, shed_removeClip _ _⟩
      · exact ⟨fun _ => False, (Shed.refl _ _).report _⟩
    · exact ⟨fun _ => False, .refl _ _⟩
  obtain ⟨p, hs⟩ := hs
  obtain h | ⟨b, -, -, rfl⟩ := mem_updateClip (hs.mem hc)
  · exact .inr h
  · exact .inl rfl
omit h in
theorem faultRecord_writer (s : State) (m : Nat) : (faultRecord s m).store.writer = s.store.writer := by
  unfold faultRecord; dsimp only; split
  · split
    · exact (shed_removeClip _ _).writer
    · exact ((Shed.refl (fun _ => False) _).report _).writer
  · rfl
theorem ledger_foldl_faultRecord (ms : List Nat) (hms : ∀ c ∈ s.store.index, c.state ≠ .closed → c.number ∈ ms) :
    Ledger n l (ms.foldl faultRecord s) ∧ ∀ c ∈ (ms.foldl faultRecord s).store.index, c.state = .closed := by
  induction ms generalizing s with
  | nil => exact ⟨h, fun c hc => by by_contra hs; exact List.not_mem_nil (hms c hc hs)⟩
  | cons m ms ih =>
    refine ih (ledger_faultRecord h m) fun c hc hs => ?_
    obtain hc | ⟨hc, hn⟩ := faultRecord_mem hc
    · exact absurd hc hs
    · exact (List.mem_cons.1 (hms c hc hs)).resolve_left hn
theorem ledger_enterFault (c : FaultCause) : Ledger n l (enterFault c s) := by
  unfold enterFault; split
  · dsimp only
    have hf : Ledger n l (s.mapStore fun st => { st with flush := none }) := ledger_mapStore h
    obtain ⟨hl, hcl⟩ := ledger_foldl_faultRecord hf ((s.store.index.filter Clip.live).map Clip.number) fun c hc hs =>
      List.mem_map.2 ⟨c, List.mem_filter.2 ⟨hc, live_iff.2 hs⟩, rfl⟩
    have he := ledger_endIntake (ledger_mapIntake hl fun i => { i with buffer := [], packing := [] })
    have hx := he.replace (f := fun st => { st with state := .fault, writer := .idle, scan := none, retry := none })
      hl.bounded.1 hl.ascending (fun _ hc => hl.below hc) hcl rfl (fun hk => absurd rfl hk) hl.locks
    exact ledger_judgeStore (ledger_judgeHold (ledger_report (ledger_mapCard hx (Nat.zero_le _)) _))
  · exact h

/-! ### The card -/

theorem ledger_updateError : Ledger n l (updateError s) := by
  unfold updateError; split
  · exact h
  · next u us hu =>
    split
    · exact ledger_popUpdate h
    · split
      · exact ledger_setCardFlag (ledger_popUpdate h) _
      · have hb := h.bounded.2
        rw [hu] at hb
        exact ledger_mapCard h hb
theorem ledger_failPass : Ledger n l (failPass s) := by
  unfold failPass; split
  · exact ledger_passAnswer h _ _
  · exact h
theorem ledger_endPass (c : AnswerCode) (d : Bytes) : Ledger n l (endPass c d s) := by
  unfold endPass; split
  · exact ledger_passAnswer h _ _
  · exact h
theorem ledger_tellOk (o : CardOp) (d : Bytes) : Ledger n l (tellOk o d s) := by
  unfold tellOk; split
  · exact ledger_writerOk h _
  · exact ledger_popUpdate h
  · exact ledger_scanOk h _
  · exact ledger_endPass h _ _
theorem ledger_tellError (o : CardOp) : Ledger n l (tellError o s) := by
  unfold tellError; split
  · exact ledger_writerError h _
  · exact ledger_updateError h
  · exact ledger_scanError h
  · exact ledger_endPass h _ _
theorem ledger_cardIdle : Ledger n l (cardIdle s) := ledger_mapCard h h.bounded.2
theorem ledger_cardFail : Ledger n l (cardFail s) :=
  ledger_failPass (ledger_mapCard (ledger_enterFault (ledger_report (ledger_mapCard h h.bounded.2) _) _) (Nat.zero_le _))
theorem ledger_selectStore (t : StoreTab) : Ledger n l (selectStore t s) := by
  refine ledger_judgeStore (ledger_judgeHold ?_)
  exact ⟨h.bounded, h.ordered, h.quiet, fun _ => Nat.le_max_right _ _⟩

/-! ### Clip packets -/

theorem ledger_dropPacket (r : IntakeRec) (st : Stream) (pts : Nat) : Ledger n l (dropPacket r st pts s) := by
  have hc : Ledger n l (updateClip r.clip (fun c => { c with flags := { c.flags with gap := true } })
      (s.mapCounters fun c => { c with packetsDropped := satAdd c.packetsDropped 1 })) :=
    ledger_amend (ledger_mapCounters h _)
  unfold dropPacket; dsimp only; split
  · exact hc
  · exact ledger_report (ledger_updateIntake hc _) _
theorem ledger_packOrDrop (r : IntakeRec) (st : Stream) (f : Byte) (pts : Nat) (p : Bytes) :
    Ledger n l (packOrDrop r st f pts p s) := by
  unfold packOrDrop; dsimp only; split
  · refine ledger_judgeHold ?_
    split
    · unfold trackVideo; dsimp only
      exact ledger_amend (ledger_updateIntake (ledger_mapIntake h _) _)
    · exact ledger_mapIntake h _
  · exact ledger_dropPacket h _ _ _
theorem ledger_splitClip {c : Clip} (hc : s.store.openClip = some c) : Ledger n l (splitClip c s).2 := by
  obtain ⟨hm, hs⟩ := openClip_mem hc
  have hp := ledger_completePacking h c.number
  have hm' : c ∈ (completePacking c.number s).store.index := by rw [completePacking_store]; exact hm
  have hu := ledger_setClosing hp hm' (by rw [hs]; nofun) .split
  have hno := hp.noneOpen_setClosing hm' hs .split
  have hwr : (updateClip c.number (setClosing .split) (completePacking c.number s)).store.writer = .recording := by
    show (completePacking c.number s).store.writer = _
    rw [completePacking_store]; exact h.recording hm hs
  obtain ⟨ht, ho⟩ := ledger_openingTest hu
  have hroom := openingTest_room (s := updateClip c.number (setClosing .split) (completePacking c.number s))
  have hth : (updateClip c.number (setClosing .split) (completePacking c.number s)).thermal = s.thermal := by
    unfold completePacking; split <;> rfl
  unfold splitClip; dsimp only
  generalize openingTest (updateClip c.number (setClosing .split) (completePacking c.number s)) = test at ht ho hroom
  obtain ⟨pass, t⟩ := test
  dsimp only at ht ho hroom ⊢
  have hw : t.store.writer = .recording := ho.writer.trans hwr
  cases pass with
  | true =>
    refine ledger_judgeStore (ledger_mapIntake (ledger_openRecord ht (hroom rfl) (by rw [hw]; nofun)
      (fun _ => ⟨hw, ho.noneOpen hno⟩) fun hn hu => ?_) _)
    rw [ho.supply, ho.tier, hth] at hu
    exact absurd hs ((h.quiet hn hu).2 c hm)
  | false =>
    have hd : ∀ d ∈ t.store.index, d.number = c.number → d.state = .closing := fun d hd hn => by
      obtain ⟨-, hne⟩ | ⟨b, -, -, rfl⟩ := mem_updateClip (ho.mem hd)
      · exact absurd hn hne
      · rfl
    have hf : Ledger n l (updateClip c.number (setClosing .full) t) :=
      ledger_updateClip ht fun d hd' hn => ⟨rfl, .inl (hd d hd' hn).symm⟩
    refine ledger_afterClose ((ledger_endIntake hf).moveWriter (fun d hd' => ?_) ?_ nofun nofun)
    · obtain ⟨hd', -⟩ | ⟨b, -, -, rfl⟩ := mem_updateClip hd'
      · exact ho.noneOpen hno d hd'
      · nofun
    · show t.store.writer ≠ _
      rw [hw]; nofun
theorem ledger_takeClipPacket (st : ClipStream) (f : Byte) (pts : Nat) (p : Bytes) :
    Ledger n l (takeClipPacket st f pts p s) := by
  unfold takeClipPacket; split
  · next c r hc hr =>
    split
    · have hs : Ledger n l (startStall s) := ledger_mapIntake h _
      have ht := ledger_splitClip (c := c) hs hc
      unfold acceptPacket; dsimp only
      generalize splitClip c (startStall s) = t at ht
      split
      · split
        · split
          · exact ledger_packOrDrop ht _ _ _ _ _
          · exact ht
        · exact ht.congr rfl
      · exact ledger_packOrDrop hs _ _ _ _ _
    · exact h.congr rfl
  · exact h.congr rfl
theorem ledger_motionPacket (t : Trailer) : Ledger n l (motionPacket t s) := by
  unfold motionPacket; split
  · split
    · exact ledger_packOrDrop h _ _ _ _ _
    · exact h
  · exact h
end
end Sys2Proof.Machine

/-! PROOF. What the operations of the other blocks leave of the Clip Store, and what a firing leaves of the operation in
flight. -/

namespace Sys2Proof.Machine

/-! ### What looks at the rest of the part only -/

section
variable (s : State)
@[simp] theorem stock_mapMotion (f : Motion → Motion) : (s.mapMotion f).stock = s.stock := rfl
@[simp] theorem stock_mapFilter (f : Filter → Filter) : (s.mapFilter f).stock = s.stock := rfl
@[simp] theorem stock_mapFrame (f : Frame → Frame) : (s.mapFrame f).stock = s.stock := rfl
@[simp] theorem stock_mapTrig (f : Trig → Trig) : (s.mapTrig f).stock = s.stock := rfl
@[simp] theorem stock_mapCharge (f : Charge → Charge) : (s.mapCharge f).stock = s.stock := rfl
@[simp] theorem stock_mapLink (f : Link → Link) : (s.mapLink f).stock = s.stock := rfl
@[simp] theorem stock_mapCounters (f : Counters → Counters) : (s.mapCounters f).stock = s.stock := rfl
@[simp] theorem stock_emit (i : CaptureItem) : (s.emit i).stock = s.stock := rfl
@[simp] theorem stock_tick (dt : Nat) : (s.tick dt).stock = s.stock := rfl
@[simp] theorem stock_notify (c : Change) : (notify c s).stock = s.stock := rfl
@[simp] theorem stock_clearReceive : (clearReceive s).stock = s.stock := rfl
@[simp] theorem stock_ite {c : Prop} [Decidable c] {t : State} : (if c then s else t).stock = if c then s.stock else t.stock :=
  apply_ite State.stock c s t
@[simp] theorem stock_abortCal (r : CalReason) (n : MotionStatus) : (abortCal r n s).stock = s.stock := by
  unfold abortCal; split <;> simp
@[simp] theorem stock_recenterNow : (recenterNow s).stock = s.stock := rfl
@[simp] theorem stock_configureSensor (t : ImuSetup) : (configureSensor t s).stock = s.stock := rfl
@[simp] theorem stock_finishCal (c : CalRun) : (finishCal c s).stock = s.stock := by
  unfold finishCal; dsimp only; split <;> simp
@[simp] theorem stock_calSample (r : Axes) : (calSample r s).stock = s.stock := by
  unfold calSample; split
  · rfl
  · dsimp only; split
    · simp
    · split <;> simp
@[simp] theorem stock_countLost (g : Nat) : (countLost g s).stock = s.stock := rfl
@[simp] theorem stock_applySmoothing : (applySmoothing s).stock = s.stock := by
  unfold applySmoothing; split <;> simp
@[simp] theorem stock_filterSample (r : Axes) (time : Nat) : (filterSample r time s).stock = s.stock := by
  unfold filterSample; simp
@[simp] theorem stock_fillSamples (time n : Nat) : (fillSamples time n s).stock = s.stock := by
  induction n generalizing s with
  | zero => rfl
  | succ n ih => exact (ih _).trans (stock_filterSample s _ _)
@[simp] theorem stock_handOver (r : Axes) (seq time : Nat) : (handOver r seq time s).stock = s.stock :=
  stock_filterSample s r time
@[simp] theorem stock_takeRunning (r : Axes) (seq time : Nat) : (takeRunning r seq time s).stock = s.stock := by
  unfold takeRunning; dsimp only; split
  · simp
  · split <;> simp
@[simp] theorem stock_countShock : (countShock s).stock = s.stock := by
  unfold countShock; split <;> rfl
@[simp] theorem stock_clearRuns : (clearRuns s).stock = s.stock := rfl
@[simp] theorem stock_selectImu (t : ImuSetup) : (selectImu t s).stock = s.stock := by
  unfold selectImu; dsimp only; split_ifs <;> simp
@[simp] theorem stock_applyImu : (applyImu s).stock = s.stock := by
  unfold applyImu; split <;> simp
@[simp] theorem stock_updateFrame (f : FrameRec → FrameRec) : (updateFrame f s).stock = s.stock := rfl
@[simp] theorem stock_longLine (r : FrameRec) : (longLine r s).stock = s.stock := by
  unfold longLine; split <;> rfl
@[simp] theorem stock_enterLine (g : Geometry) (r : FrameRec) (px : List Nat) : (enterLine g r px s).stock = s.stock := by
  unfold enterLine; dsimp only; split <;> simp
@[simp] theorem stock_countBand (b : BandRec) (k : Bool) : (countBand b k s).stock = s.stock := rfl
@[simp] theorem stock_bandCorrection (g : Geometry) (r : FrameRec) (e : LensEntry) (t : Nat) (q : Option Int) :
    (bandCorrection g r e t q s).2.stock = s.stock := by
  unfold bandCorrection; split <;> simp
@[simp] theorem stock_decideBand (g : Geometry) (n : Nat) : (decideBand g n s).stock = s.stock := by
  unfold decideBand; split
  · rfl
  · dsimp only; split <;> simp
@[simp] theorem stock_cutNext (g : Geometry) (r : FrameRec) : (cutNext g r s).2.stock = s.stock := by
  unfold cutNext; dsimp only; split <;> rfl
@[simp] theorem stock_sendRow (r : FrameRec) (px : List Nat) : (sendRow r px s).stock = s.stock := by
  unfold sendRow; dsimp only; split <;> simp
@[simp] theorem stock_slotAfter (g : Geometry) (r : FrameRec) : (slotAfter g r s).stock = s.stock := by
  unfold slotAfter; split <;> simp
@[simp] theorem stock_finishRows (g : Geometry) (n : Nat) : (finishRows g n s).stock = s.stock := by
  induction n generalizing s with
  | zero => rfl
  | succ n ih =>
    unfold finishRows; split
    · rfl
    · dsimp only; split
      · split
        · exact (ih _).trans (by simp)
        · exact (ih _).trans (by simp)
      · rfl
@[simp] theorem stock_applyPending : (applyPending s).stock = s.stock := by
  unfold applyPending; dsimp only; split <;> rfl
@[simp] theorem stock_beginFrame (n : BitVec 16) : (beginFrame n s).stock = s.stock := by
  unfold beginFrame; split <;> simp
@[simp] theorem stock_frameReset : (frameReset s).stock = s.stock := rfl
@[simp] theorem stock_rePrime : (rePrime s).stock = s.stock := rfl
@[simp] theorem stock_countMalformed : (countMalformed s).stock = s.stock := rfl
@[simp] theorem stock_countDiscarded : (countDiscarded s).stock = s.stock := rfl
@[simp] theorem stock_answerMalformedPacket (t c : Byte) : (answerMalformedPacket t c s).stock = s.stock := by
  unfold answerMalformedPacket; split <;> simp
@[simp] theorem stock_discardPacket : (discardPacket s).stock = s.stock := rfl
@[simp] theorem stock_reportCharge (o c : Charge) : (reportCharge o c s).stock = s.stock := stock_report s _
@[simp] theorem stock_passAnswer (c : AnswerCode) (d : Bytes) : (passAnswer c d s).stock = s.stock := by
  unfold passAnswer; split
  · rfl
  · dsimp only; split
    · rfl
    · rw [stock_enqueueAnswer]; rfl
@[simp] theorem stock_failPass : (failPass s).stock = s.stock := by unfold failPass; split <;> simp
@[simp] theorem stock_endPass (c : AnswerCode) (d : Bytes) : (endPass c d s).stock = s.stock := by
  unfold endPass; split <;> simp
@[simp] theorem stock_takePass (d : Nat) (tag : Byte) (k : OpKind) (x n : Nat) (b : Bytes) :
    (takePass d tag k x n b s).stock = s.stock := by
  unfold takePass; split_ifs
  · simp
  · simp
  · rfl
end

/-! ### The operation in flight -/

section
variable (s : State)
@[simp] theorem report_op (p : Payload) : (report p s).card.op = s.card.op :=
  State.stock_keeps (fun t => t.card.op) (fun _ => rfl) (stock_report s p)
@[simp] theorem judgeStore_op : (judgeStore s).card.op = s.card.op :=
  State.stock_keeps (fun t => t.card.op) (fun _ => rfl) (stock_judgeStore s)
@[simp] theorem judgeHold_op : (judgeHold s).card.op = s.card.op :=
  State.stock_keeps (fun t => t.card.op) (fun _ => rfl) (stock_judgeHold s)
@[simp] theorem dropClip_op (c : Clip) : (dropClip c s).card.op = s.card.op := (shed_dropClip c s).op
@[simp] theorem completePacking_op (m : Nat) : (completePacking m s).card.op = s.card.op := by
  unfold completePacking; split <;> rfl
@[simp] theorem restWriter_op : (restWriter s).card.op = s.card.op := by
  unfold restWriter; split
  · rfl
  · split
    · rfl
    · rw [judgeHold_op]; split
      · exact report_op _ _
      · rfl
    · rfl
@[simp] theorem afterClose_op : (afterClose s).card.op = s.card.op := by
  unfold afterClose
  rw [judgeStore_op, judgeHold_op, restWriter_op, (shed_reapEmpty s).op]
@[simp] theorem closeOpen_op (r : CloseReason) : (closeOpen r s).card.op = s.card.op := by
  unfold closeOpen; split
  · exact completePacking_op _ _
  · rfl
@[simp] theorem stopRecording_op (r : CloseReason) : (stopRecording r s).card.op = s.card.op := by
  unfold stopRecording; split
  · exact (afterClose_op _).trans (closeOpen_op s r)
  · rfl
@[simp] theorem openingTest_op : (openingTest s).2.card.op = s.card.op := by
  unfold openingTest; dsimp only; split
  · split
    · exact dropClip_op s _
    · rfl
  · rfl
@[simp] theorem startRecording_op (t : Nat) : (startRecording t s).2.card.op = s.card.op := by
  unfold startRecording openRecord
  split_ifs
  · rfl
  · rfl
  · rfl
  · dsimp only; split
    · exact (judgeStore_op _).trans ((report_op _ _).trans (openingTest_op s))
    · exact (judgeStore_op _).trans (openingTest_op s)
@[simp] theorem lockRecord_op (c : Clip) : (lockRecord c s).2.card.op = s.card.op := by
  have hs : ∀ t : State, (enqueueUpdate c.number t).card.op = t.card.op := fun t => by unfold enqueueUpdate; split <;> rfl
  unfold lockRecord setLock; split_ifs
  · rfl
  · exact report_op s _
  · rfl
  · exact (judgeStore_op _).trans (hs _)
  · exact judgeStore_op _
@[simp] theorem lockPart_op (c : Clip) : (lockPart c s).2.card.op = s.card.op := by
  unfold lockPart; split
  · rfl
  · exact lockRecord_op s c
/-- A firing leaves the operation in flight. -/
theorem fire_op (i : Nat) (e : TrigEntry) : (fire i e s).card.op = s.card.op := by
  unfold fire reportFiring
  split <;> rw [report_op]
  · unfold actMark addMarker; split
    · rfl
    · split
      · rfl
      · dsimp only; split <;> rfl
  · unfold actLock; dsimp only; split
    · rfl
    · split
      · split <;> simp
      · simp
  · unfold actSplit; split
    · rfl
    · split_ifs <;> rfl
  · unfold actStop; split
    · exact stopRecording_op s _
    · rfl
  · unfold actStart; split
    · rfl
    · exact startRecording_op s _
theorem takeChange_op (c : Change) : (takeChange c s).card.op = s.card.op := by
  have hf : ∀ (fs : List (Nat × TrigEntry)) (t : State), (fs.foldl (fun s f => fire f.1 f.2 s) t).card.op = t.card.op := by
    intro fs
    induction fs with
    | nil => exact fun _ => rfl
    | cons f fs ih => exact fun t => (ih _).trans (fire_op t f.1 f.2)
  rw [takeChange_eq, hf]; rfl
/-- Changes that are taken leave the operation in flight. -/
theorem hand_op (cs : List Change) : (hand cs s).card.op = s.card.op := by
  have hw : ∀ (n : Nat) (t : State), (takeWaiting n t).card.op = t.card.op := by
    intro n
    induction n with
    | zero => exact fun _ => rfl
    | succ n ih =>
      intro t
      unfold takeWaiting; split
      · exact (ih _).trans (takeChange_op _ _)
      · rfl
  exact hw _ _
end
end Sys2Proof.Machine

/-! PROOF. A predicate that the operations of the store keep, through the blocks' operations and the directives. -/

namespace Sys2Proof.Machine

/-- A predicate of the Clip Store that the operations of the store, the writer and the card keep. -/
structure Tended (P : State → Prop) : Prop where
  congr : ∀ {s t : State}, P s → t.stock = s.stock → P t
  reset : P State.reset
  idle : ∀ {s : State}, P s → s.store.state ≠ .ready → s.store.writer = .idle
  fire : ∀ {s : State} (i : Nat) (e : TrigEntry), P s → P (fire i e s)
  pump : ∀ {s t : State}, P s → pumpStep s = some t → P t
  packet : ∀ {s : State} (st : ClipStream) (f : Byte) (pts : Nat) (p : Bytes), P s → P (takeClipPacket st f pts p s)
  motion : ∀ {s : State} (t : Trailer), P s → P (motionPacket t s)
  stop : ∀ {s : State} (r : CloseReason), P s → P (stopRecording r s)
  start : ∀ {s : State} (t : Nat), P s → P (startRecording t s).2
  mark : ∀ {s : State} (k : Nat), P s → P (addMarker k s).2.2
  lock : ∀ {s : State} {c : Clip}, P s → c ∈ s.store.index → P (lockRecord c s).2
  unlock : ∀ {s : State} {c : Clip}, P s → c ∈ s.store.index → P (unlockRecord c s).2
  delete : ∀ {s : State} {c : Clip}, P s → c ∈ s.store.index → c.state = .closed → P (dropClip c s)
  blank : ∀ {s : State} (a m g : Nat), P s → s.store.state = .unmounted → P (s.mapStore (mountBlank a m g))
  scan : ∀ {s : State} (a m g : Nat), P s → s.store.state = .unmounted → 0 < m → P (s.mapStore (mountScan a m g))
  unmount : ∀ {s : State}, P s → s.store.writer = .idle → P (toUnmounted s)
  abandon : ∀ {s : State}, P s → s.store.writer = .idle → P (stopScan s)
  withdraw : ∀ {s : State}, P s → P (s.mapCard fun c => { c with updates := [] })
  ok : ∀ {s : State} {o : CardOp} (d : Bytes), P s → s.card.op = some o → P (tellOk o d (cardIdle s))
  error : ∀ {s : State} {o : CardOp}, P s → s.card.op = some o → P (tellError o (cardIdle s))
  gone : ∀ {s t : State} (c : FaultCause), P s → t.stock = (s.mapCard fun k => { k with op := none }).stock →
    P (enterFault c t)
  page : ∀ {s : State} (t : StoreTab), P s → P (selectStore t s)
  calmer : ∀ {s : State} (f : Thermal → Thermal), P s →
    ((f s.thermal).supply = .emergency ∨ (f s.thermal).tier = .cutoff →
      s.thermal.supply = .emergency ∨ s.thermal.tier = .cutoff) → P (s.mapThermal f)
  emergency : ∀ {s t : State} (f : Thermal → Thermal) (r : CloseReason), P s → t.stock = (s.mapThermal f).stock →
    P (enterEmergency r t)

section
variable {P : State → Prop} (T : Tended P) {s : State} (h : P s)
include T h

/-! ### The Trigger Unit and settling -/

theorem tended_takeChange (c : Change) : P (takeChange c s) := by
  have hf : ∀ (fs : List (Nat × TrigEntry)) (t : State), P t → P (fs.foldl (fun s f => fire f.1 f.2 s) t) := by
    intro fs
    induction fs with
    | nil => exact fun _ h => h
    | cons f fs ih => exact fun t h => ih _ (T.fire f.1 f.2 h)
  rw [takeChange_eq]
  exact hf _ _ (T.congr h (by rfl))
theorem tended_takeEach (cs : List Change) : P (takeEach cs s) := by
  unfold takeEach
  induction cs generalizing s with
  | nil => exact h
  | cons c cs ih => exact ih (tended_takeChange T h c)
theorem tended_takeWaiting (n : Nat) : P (takeWaiting n s) := by
  induction n generalizing s with
  | zero => exact h
  | succ n ih =>
    unfold takeWaiting; split
    · exact ih (tended_takeChange T (T.congr h (by rfl)) _)
    · exact h
theorem tended_hand (cs : List Change) : P (hand cs s) := tended_takeWaiting T (T.congr h (by rfl)) _
theorem tended_settle : P (settle s) := by
  have hq : ∀ (n : Nat) (t : State), P t → P (quiesce n t) := by
    intro n
    induction n with
    | zero => exact fun _ h => h
    | succ n ih =>
      intro t h
      unfold quiesce; split
      · next u hu =>
        refine ih u ?_
        unfold settleStep at hu; split at hu
        · cases hu; exact tended_takeChange T (T.congr h (by rfl)) _
        · exact T.pump h hu
      · exact h
  exact hq _ _ h
theorem tended_finish : P (finish s) := by
  have hs := tended_settle T h
  exact T.congr (tended_settle T (T.congr hs (stock_depart _))) (stock_depart _)

/-! ### Directives -/

theorem tended_answer (d : Nat) (t : Byte) (c : AnswerCode) (b : Bytes) : P (answer d t c b s) :=
  T.congr h (stock_answer s d t c b)
theorem tended_report (p : Payload) : P (report p s) := T.congr h (stock_report s p)
omit T h in
theorem tended_ite {t : State} {c : Prop} [Decidable c] (h : P s) (ht : P t) : P (if c then s else t) := by
  split
  · exact h
  · exact ht
omit T h in
theorem stock_directive {f : State → State} (hf : ∀ s, (f s).stock = s.stock) (code : Nat) (len : Option Nat) (tag : Byte)
    (p : Bytes) (s : State) : (directive code len tag p f s).stock = s.stock := by
  unfold directive; dsimp only
  split_ifs
  · rfl
  · simp
  · rfl
  · simp
  · exact (hf _).trans rfl
theorem tended_directive {f : State → State} (hf : ∀ s, P s → P (f s)) (code : Nat) (len : Option Nat) (tag : Byte)
    (p : Bytes) : P (directive code len tag p f s) := by
  have hc : P (clearReceive s) := T.congr h rfl
  unfold directive; dsimp only
  split_ifs
  · exact h
  · exact T.congr hc (by simp)
  · exact T.congr hc rfl
  · exact T.congr hc (by simp)
  · exact hf _ hc
theorem tended_answerThen {f : State → AnswerCode × State} (hf : ∀ s, P s → P (f s).2) (code : Nat) (tag : Byte) :
    P (answerThen code tag f s) := hf _ (tended_answer T h _ _ _ _)
omit T in
theorem tended_onClip {f : Clip → State → AnswerCode × State} (hf : ∀ c s, P s → c ∈ s.store.index → P (f c s).2) (n : Nat) :
    P (onClip n f s).2 := by
  unfold onClip; split
  · exact h
  · split
    · exact h
    · next c hc =>
      refine hf c s h ?_
      unfold Store.named at hc
      split at hc
      · exact (openClip_mem hc).1
      · exact (find_mem hc).1

/-! ### Motion (chapter 1) -/

theorem tended_detectShock (l : List Int) (time : Nat) : P (detectShock l time s) := by
  by_cases hs : ShockFound l time s.motion
  · rw [detectShock_found hs]
    exact tended_takeEach T (T.congr h (by simp)) _
  · rw [detectShock_none hs]; exact h
theorem tended_detect (r : Axes) (l : List Int) (time : Nat) : P (detect r l time s) := by
  have hs := tended_detectShock T h l time
  unfold detect
  refine tended_hand T ?_ _
  rw [detectRest_eq]
  refine tended_takeEach T (T.congr hs ?_) _
  exact reportAll_keeps State.stock (fun _ => rfl) _ _
theorem tended_takeSample (x : SampleRecord) (time : Nat) : P (takeSample x time s) := by
  have hr := tended_detect T (s := takeRunning (s.motion.setup.rates x) x.seq.toNat time s) (T.congr h (by simp))
    (s.motion.setup.rates x) (accelerations x) time
  have hl : ∀ r seq, P (takeResumed r seq time s) := fun r seq => by
    unfold takeResumed
    exact tended_takeEach T (T.congr h (by simp)) _
  unfold takeSample; dsimp only; split
  · exact hr
  · split
    · exact T.congr hr (by simp)
    · exact hr
  · exact tended_detect T (hl _ _) _ _ _
  · exact tended_detectShock T h _ _
  · exact h
theorem tended_loseMotion (stamp : Nat) : P (loseMotion stamp s) := by
  unfold loseMotion; dsimp only
  split
  · exact tended_hand T (T.congr h (by simp)) _
  · exact tended_hand T (T.congr h (by simp)) _
theorem tended_motionReset : P (motionReset s) := tended_hand T (T.congr h (by simp)) _
theorem tended_motionSleep (watch : Bool) : P (motionSleep watch s) := by
  unfold motionSleep; dsimp only
  split
  · exact tended_hand T (T.congr h (by simp)) _
  · exact tended_hand T (T.congr h (by simp)) _
theorem tended_endCheck (ident : Option Nat) : P (endCheck ident s) := by
  unfold endCheck setLevel; dsimp only
  refine T.congr (tended_hand T (T.congr h ?_) [setCond condMotionLost false]) (by rfl)
  simp

/-! ### Frames (chapters 2 and 3) -/

theorem tended_buildTrailer : P (buildTrailer s) := by
  unfold buildTrailer; split
  · exact h
  · next r _ =>
    have hm := T.motion r.trailer (T.congr (t := s.mapFrame fun f => { f with trailer := some r.trailer }) h rfl)
    dsimp only; split
    · exact T.congr (tended_hand T hm (riseAndFall condFrameClamped)) (by simp [pulse])
    · exact T.congr hm (by simp)
theorem tended_releaseRows (g : Geometry) (n : Nat) : P (releaseRows g n s) := by
  induction n generalizing s with
  | zero => exact h
  | succ n ih =>
    unfold releaseRows; split
    · exact h
    · dsimp only; split
      · split
        · exact ih (T.congr h (by simp))
        · exact tended_buildTrailer T (T.congr h (by simp))
      · exact h
theorem tended_endShort : P (endShort s) := by
  unfold endShort; split
  · exact h
  · refine T.congr (tended_buildTrailer T (T.congr h ?_)) (stock_mapCounters _ _)
    simp
theorem tended_resolveMode : P (resolveMode s) := by
  unfold resolveMode; dsimp only; split
  · exact h
  · exact tended_hand T (T.congr h (by simp)) _
theorem tended_frameSleep : P (frameSleep s) := by
  unfold frameSleep; dsimp only; split
  · exact T.congr (tended_endShort T h) (by simp)
  · exact T.congr h (by simp)
theorem tended_takeLine (px : List Nat) : P (takeLine px s) := by
  unfold takeLine; split
  · split
    · exact T.congr h (by simp)
    · dsimp only; split
      · exact tended_releaseRows T (T.congr h (by simp)) _ _
      · exact T.congr h (by simp)
  · exact h

/-! ### The store and the card (chapters 5 and 6) -/

theorem tended_onMount (tag : Byte) (p : Bytes) : P (onMount tag p s) :=
  tended_directive T h (fun s h => by
    have ha := tended_answer T h 64 tag .ok []
    have hst : (answer 64 tag .ok [] s).store.state = s.store.state :=
      State.stock_keeps (fun t => t.store.state) (fun _ => rfl) (stock_answer s _ _ _ _)
    dsimp only
    split_ifs with h1 h2 h3
    · exact tended_answer T h _ _ _ _
    · exact tended_answer T h _ _ _ _
    · refine T.congr (T.blank _ _ _ ha ?_) (stock_judgeStore _)
      rw [hst]; by_contra hu; exact h2 (.inl hu)
    · refine T.congr (T.scan _ _ _ ha ?_ ?_) (stock_judgeStore _)
      · rw [hst]; by_contra hu; exact h2 (.inl hu)
      · by_contra h0
        have h0 : uintAt p 4 2 = 0 := by omega
        rw [h0] at h1
        exact h1 rfl) _ _ _ _
theorem tended_onUnmount (tag : Byte) (p : Bytes) : P (onUnmount tag p s) :=
  tended_directive T h (fun s h => by
    have ha := tended_answer T h 65 tag .ok []
    have hk : (answer 65 tag .ok [] s).store.writer = s.store.writer :=
      State.stock_keeps (fun t => t.store.writer) (fun _ => rfl) (stock_answer s _ _ _ _)
    split
    · exact tended_answer T h _ _ _ _
    · next hs => exact T.abandon ha (by rw [hk]; exact T.idle h (by rw [hs]; nofun))
    · split
      · exact tended_answer T h _ _ _ _
      · next hi => exact T.unmount ha (by
          rw [hk]; simp only [Bool.or_eq_true, decide_eq_true_eq, not_or, ne_eq, Decidable.not_not] at hi; exact hi.1)
    · next hs => exact T.unmount (T.withdraw ha) (hk.trans (T.idle h (by rw [hs]; nofun)))) _ _ _ _
theorem tended_onStartRecording (tag : Byte) (p : Bytes) : P (onStartRecording tag p s) :=
  tended_directive T h (fun _ h => tended_answerThen T h (fun _ h => T.start _ h) _ _) _ _ _ _
theorem tended_onStopRecording (tag : Byte) (p : Bytes) : P (onStopRecording tag p s) :=
  tended_directive T h (fun s h => by
    split
    · exact T.stop _ (tended_answer T h _ _ _ _)
    · exact tended_answer T h _ _ _ _) _ _ _ _
theorem tended_onMark (tag : Byte) (p : Bytes) : P (onMark tag p s) :=
  tended_directive T h (fun _ h => tended_answer T (T.mark _ h) _ _ _ _) _ _ _ _
theorem tended_onLockClip (tag : Byte) (p : Bytes) : P (onLockClip tag p s) :=
  tended_directive T h (fun _ h => tended_answerThen T h (fun _ h => tended_onClip h (fun _ _ h hc => T.lock h hc) _) _ _)
    _ _ _ _
theorem tended_onUnlockClip (tag : Byte) (p : Bytes) : P (onUnlockClip tag p s) :=
  tended_directive T h (fun _ h => tended_answerThen T h (fun _ h => tended_onClip h (fun _ _ h hc => T.unlock h hc) _) _ _)
    _ _ _ _
theorem tended_onDeleteClip (tag : Byte) (p : Bytes) : P (onDeleteClip tag p s) :=
  tended_directive T h (fun _ h => tended_answerThen T h (fun _ h => tended_onClip h (fun c s h hc => by
    unfold deleteRecord; split
    · exact h
    · next hl =>
      split
      · exact h
      · exact T.delete h hc (by by_contra hs; exact hl (live_iff.2 hs))) _) _ _) _ _ _ _
theorem tended_cardFail : P (cardFail s) := by
  unfold cardFail; dsimp only
  exact T.congr (T.withdraw (T.gone _ h (by rw [stock_report]; rfl))) (stock_failPass _)
theorem tended_opError {o : CardOp} (ho : s.card.op = some o) (k : Bool) : P (opError o k s) := by
  have hp := tended_hand T (T.congr (t := report (.cardError o.cls o.kind o.addr o.count k (s.card.fails + 1))
    ((s.mapCounters fun c => { c with cardErrors := satAdd c.cardErrors 1 }).mapCard fun c =>
      { c with fails := s.card.fails + 1 })) h (by rw [stock_report]; rfl)) (riseAndFall condCardError)
  unfold opError; dsimp only; split
  · exact T.error hp ((hand_op _ _).trans ((report_op _ _).trans ho))
  · exact tended_cardFail T hp
theorem tended_takeCompletion (ok : Bool) (d : Bytes) : P (takeCompletion ok d s) := by
  unfold takeCompletion; split
  · exact T.congr h rfl
  · split
    · next o ho =>
      split
      · exact T.ok (s := s.mapCard fun c => { c with fails := 0 }) d (T.congr h (by rfl)) ho
      · exact tended_opError T h ho _
    · exact h

/-! ### The power monitor (chapters 8 and 9) -/

theorem tended_changeTier (new : Tier) : P (changeTier new s) := by
  unfold changeTier; dsimp only
  refine tended_settle T ?_
  have hst : ∀ c : Change, (if 2 ≤ new.code ∧ s.thermal.tier.code < new.code then
      (notify c (report (.tier new s.thermal.tier s.charge.meas.dieTemp)
        (s.mapThermal fun t => { t with tier := new }))).mapCharge fun c => { c with setpoint := 0 }
      else notify c (report (.tier new s.thermal.tier s.charge.meas.dieTemp)
        (s.mapThermal fun t => { t with tier := new }))).stock = (s.mapThermal fun t => { t with tier := new }).stock :=
    fun c => by simp
  split
  · exact T.emergency _ _ h (hst _)
  · next hn =>
    exact T.congr (T.calmer (fun t => { t with tier := new }) h fun hu => hu.imp_right fun he => absurd he hn) (hst _)
theorem tended_judgeTier : P (judgeTier s) := by
  unfold judgeTier; dsimp only; split
  · exact h
  · exact tended_changeTier T h _
theorem tended_changeSupply (new : Supply) : P (changeSupply new s) := by
  unfold changeSupply; dsimp only
  refine tended_settle T ?_
  have hst : (notify (setCond condSupplyWarn (new ≠ .normal)) (report (.supply new s.thermal.supply s.charge.meas.vbat)
      (s.mapThermal fun t => { t with supply := new }))).stock = (s.mapThermal fun t => { t with supply := new }).stock := by
    simp
  split
  · exact T.emergency _ _ h hst
  · next hn =>
    exact T.congr (T.calmer (fun t => { t with supply := new }) h fun hu => hu.imp_left fun he => absurd he hn) hst
theorem tended_judgeSupply : P (judgeSupply s) := by
  unfold judgeSupply; dsimp only; split
  · exact h
  · exact tended_changeSupply T h _
theorem tended_handleUpdate (b : Bool) : P (handleUpdate b s) := by
  unfold handleUpdate; split
  · exact tended_judgeTier T (tended_judgeSupply T h)
  · exact tended_judgeSupply T (tended_judgeTier T h)
theorem tended_handleDeferred : P (handleDeferred s) := by
  unfold handleDeferred; split
  · exact tended_handleUpdate T (T.congr (tended_settle T h) (by rfl)) _
  · exact h
theorem tended_judgeVin : P (judgeVin s) := by
  unfold judgeVin; dsimp only; split
  · exact h
  · exact tended_settle T (tended_hand T (T.congr h (by simp)) _)
theorem tended_takeUpdate (m : Measurements) (x y : Bool) : P (takeUpdate m x y s) := by
  have ha : P (applyThermal (handleDeferred s)) := by
    unfold applyThermal; split
    · exact T.congr (tended_handleDeferred T h) rfl
    · exact tended_handleDeferred T h
  have hv : ∀ f : Charge → Charge, P (judgeVin ((applyThermal (handleDeferred s)).mapCharge f)) := fun f =>
    tended_judgeVin T (T.congr ha (by rfl))
  unfold takeUpdate; dsimp only; split
  · exact T.congr (hv _) rfl
  · exact tended_handleUpdate T (hv _) _
theorem tended_evaluate : P (evaluate s) := by
  unfold evaluate; dsimp only
  exact tended_hand T (T.congr h (by simp)) _

/-! ### The link (chapter 10) -/

theorem tended_linkReset {f : State → State} (hf : ∀ s, P s → P (f s)) : P (linkReset f s) := by
  have hl := hf (frameReset (s.mapLink clearLink)) (T.congr h (by rfl))
  have hm := tended_motionReset T hl
  exact T.congr (T.stop .reset (T.congr hm (by rfl))) (stock_judgeHold _)
theorem tended_onLinkReset (tag : Byte) (p : Bytes) : P (onLinkReset tag p s) := by
  unfold onLinkReset; split
  · exact tended_linkReset T h fun _ h => tended_answer T h _ _ _ _
  · exact tended_directive T h (fun _ h => h) _ _ _ _
theorem tended_onSleep (tag : Byte) (p : Bytes) : P (onSleep tag p s) :=
  tended_directive T h (fun s h => by
    dsimp only; split_ifs
    · exact tended_answer T h _ _ _ _
    · exact tended_answer T h _ _ _ _
    · exact tended_frameSleep T (tended_motionSleep T (T.congr (tended_answer T h _ _ _ _) (by rfl)) _)) _ _ _ _
theorem tended_capture (p : Pages) (n : Nat) : P (capture p n s) := by
  unfold capture; split
  · exact T.congr h (by simp)
  · exact T.congr h rfl
  · exact T.congr h rfl
  · exact T.congr h rfl
  · exact T.page _ h
  · exact T.congr h rfl
  · exact T.congr h rfl
  · exact T.congr h rfl
theorem tended_onSelectPage (tag : Byte) (p : Bytes) : P (onSelectPage tag p s) :=
  tended_directive T h (fun s h => by
    dsimp only; split_ifs
    · exact tended_answer T h _ _ _ _
    · exact tended_answer T h _ _ _ _
    · exact tended_answer T h _ _ _ _
    · exact tended_capture T (tended_answer T (T.congr h (by rfl)) _ _ _ _) _ _) _ _ _ _
end
end Sys2Proof.Machine

/-! PROOF. Every command keeps what the operations of the store keep. -/

namespace Sys2Proof.Machine

/-! ### Directives that do not reach the store -/

section
variable (tag : Byte) (p : Bytes) (s : State)
@[simp] theorem stock_onReadStatus : (onReadStatus tag p s).stock = s.stock :=
  stock_directive (fun s => stock_answer s _ _ _ _) _ _ _ _ s
@[simp] theorem stock_onReadCounters : (onReadCounters tag p s).stock = s.stock :=
  stock_directive (fun s => stock_answer s _ _ _ _) _ _ _ _ s
@[simp] theorem stock_onClearCounters : (onClearCounters tag p s).stock = s.stock :=
  stock_directive (fun s => by simp) _ _ _ _ s
@[simp] theorem stock_onWriteEntry : (onWriteEntry tag p s).stock = s.stock :=
  stock_directive (fun s => by
    dsimp only; split_ifs
    · simp
    · simp
    · simp
    · simp
    · split <;> simp) _ _ _ _ s
@[simp] theorem stock_onReadEntry : (onReadEntry tag p s).stock = s.stock :=
  stock_directive (fun s => by dsimp only; split_ifs <;> simp) _ _ _ _ s
@[simp] theorem stock_onCalibrate : (onCalibrate tag p s).stock = s.stock :=
  stock_directive (fun s => by split <;> simp) _ _ _ _ s
@[simp] theorem stock_onSetMode : (onSetMode tag p s).stock = s.stock :=
  stock_directive (fun s => by
    split
    · split <;> simp
    · simp) _ _ _ _ s
@[simp] theorem stock_onRecenter : (onRecenter tag p s).stock = s.stock :=
  stock_directive (fun s => by simp) _ _ _ _ s
@[simp] theorem stock_onSetGeometry : (onSetGeometry tag p s).stock = s.stock :=
  stock_directive (fun s => by dsimp only; split <;> simp) _ _ _ _ s
@[simp] theorem stock_onSetLens : (onSetLens tag p s).stock = s.stock :=
  stock_directive (fun s => by split <;> simp) _ _ _ _ s
@[simp] theorem stock_onSetExposure : (onSetExposure tag p s).stock = s.stock :=
  stock_directive (fun s => by simp) _ _ _ _ s
@[simp] theorem stock_onReadIndex : (onReadIndex tag p s).stock = s.stock :=
  stock_directive (fun s => by dsimp only; split_ifs <;> simp) _ _ _ _ s
@[simp] theorem stock_onReadClip : (onReadClip tag p s).stock = s.stock :=
  stock_directive (fun s => by
    split
    · simp
    · split <;> simp) _ _ _ _ s
@[simp] theorem stock_onCardRead : (onCardRead tag p s).stock = s.stock :=
  stock_directive (fun s => by dsimp only; split <;> simp) _ _ _ _ s
@[simp] theorem stock_onCardWrite : (onCardWrite tag p s).stock = s.stock :=
  stock_directive (fun s => by dsimp only; split_ifs <;> simp) _ _ _ _ s
@[simp] theorem stock_onSetInputLimit : (onSetInputLimit tag p s).stock = s.stock :=
  stock_directive (fun s => by simp) _ _ _ _ s
@[simp] theorem stock_onSetChargeRequest : (onSetChargeRequest tag p s).stock = s.stock :=
  stock_directive (fun s => by simp) _ _ _ _ s
@[simp] theorem stock_onChargeRestart : (onChargeRestart tag p s).stock = s.stock :=
  stock_directive (fun s => by split <;> simp) _ _ _ _ s
@[simp] theorem stock_onSetGauge : (onSetGauge tag p s).stock = s.stock :=
  stock_directive (fun s => by dsimp only; split <;> simp) _ _ _ _ s
@[simp] theorem stock_onReadPower : (onReadPower tag p s).stock = s.stock :=
  stock_directive (fun s => stock_answer s _ _ _ _) _ _ _ _ s
@[simp] theorem stock_onUnknown (c : Byte) : (onUnknown c tag p s).stock = s.stock :=
  stock_directive (fun s => stock_answer s _ _ _ _) _ _ _ _ s
end

section
variable {P : State → Prop} (T : Tended P) {s : State} (h : P s)
include T h

/-! ### Packets by their bytes -/

theorem tended_routeDirective (c t : Byte) (p : Bytes) : P (routeDirective c t p s) := by
  unfold routeDirective
  generalize c.toNat = n
  split
  case h_1 => exact tended_onLinkReset T h _ _
  case h_2 => exact tended_onSleep T h _ _
  case h_8 => exact tended_onSelectPage T h _ _
  case h_15 => exact tended_onMount T h _ _
  case h_16 => exact tended_onUnmount T h _ _
  case h_17 => exact tended_onStartRecording T h _ _
  case h_18 => exact tended_onStopRecording T h _ _
  case h_19 => exact tended_onMark T h _ _
  case h_20 => exact tended_onLockClip T h _ _
  case h_21 => exact tended_onUnlockClip T h _ _
  case h_22 => exact tended_onDeleteClip T h _ _
  all_goals exact T.congr h (by simp)
theorem tended_receivePacket (b : Bytes) : P (receivePacket b s) := by
  have hc : P (clearReceive s) := T.congr h rfl
  have hd : ∀ b, P (receiveDirective b (clearReceive s)) := fun b => by
    unfold receiveDirective; split
    · split
      · exact T.congr hc (by simp)
      · exact T.congr hc (by simp)
    · split
      · exact T.congr hc (by simp)
      · exact T.congr hc (by simp)
    · exact tended_routeDirective T hc _ _ _
  have hp : ∀ b, P (receiveClip b (clearReceive s)) := fun b => by
    unfold receiveClip; split
    · split_ifs
      · exact T.congr hc rfl
      · exact T.packet _ _ _ _ hc
      · exact T.packet _ _ _ _ hc
      · exact T.congr hc rfl
    · exact T.congr hc rfl
  have hm : ∀ b, P (malformedHeader b (clearReceive s)) := fun b => by
    unfold malformedHeader; dsimp only; split
    · split
      · exact T.congr hc (by simp)
      · exact T.congr hc rfl
    · exact T.congr hc rfl
  unfold receivePacket; dsimp only; split
  · split_ifs
    · exact T.congr hc rfl
    · exact hm _
    · exact hp _
    · exact hd _
  · exact T.congr hc rfl
end

/-! ### Every command -/

section
variable {P : State → Prop} (T : Tended P)
include T

/-- A command whose own effect keeps the predicate keeps it. -/
theorem tended_act {dt : Nat} {f : State → State} {s t : State} (ha : act dt f s = .next t) (h : P s)
    (hf : ∀ u, P u → P (f u)) : P t := by
  unfold act live at ha
  split at ha
  · cases ha; exact tended_finish T (hf _ (T.congr h rfl))
  · cases ha; exact h

theorem tended_exec {i : Instr} {s t : State} (hx : exec i s = .next t) (h : P s) : P t := by
  cases i with
  | coldStart c => cases hx; exact T.congr T.reset rfl
  | brownOut dt => cases hx; exact T.congr T.reset rfl
  | rstinAssertion dt =>
    dsimp only [exec, execRstinAssertion] at hx
    exact tended_act T hx h fun _ k => tended_linkReset T k fun _ k => k
  | imuDrdyEdge dt =>
    dsimp only [exec, execImuDrdyEdge] at hx
    exact tended_act T hx h fun _ k => tended_ite (T.congr k (by rfl)) k
  | sampleTaken dt r =>
    dsimp only [exec, execSampleTaken] at hx
    exact tended_act T hx h fun u k => by
      split
      · exact tended_takeSample T (T.congr k (by rfl)) _ _
      · exact k
  | motionLost dt =>
    dsimp only [exec, execMotionLost] at hx
    exact tended_act T hx h fun u k => by
      split
      · exact tended_loseMotion T k _
      · exact k
  | identityCheck dt d =>
    dsimp only [exec, execIdentityCheck] at hx
    exact tended_act T hx h fun _ k => tended_ite (tended_endCheck T k _) k
  | frameStartMarker dt n =>
    dsimp only [exec, execFrameStartMarker] at hx
    exact tended_act T hx h fun u k => by
      have he := tended_ite (c := u.frame.state = .opened) (tended_endShort T k) k
      exact tended_ite (T.congr (tended_resolveMode T (T.congr he (stock_applyPending _))) (stock_beginFrame _ _)) k
  | sensorLine dt px =>
    dsimp only [exec, execSensorLine] at hx
    exact tended_act T hx h fun _ k => tended_ite (tended_takeLine T k _) k
  | frameEndMarker dt =>
    dsimp only [exec, execFrameEndMarker] at hx
    exact tended_act T hx h fun u k =>
      tended_ite (T.congr (tended_ite (c := u.frame.state = .opened) (tended_endShort T k) k) (by rfl)) k
  | sideSlot dt =>
    dsimp only [exec, execSideSlot] at hx
    exact tended_act T hx h fun _ k => tended_ite (T.congr k (stock_fillSlot _)) k
  | clipPacket dt st fl pts pl =>
    dsimp only [exec, execClipPacket] at hx
    exact tended_act T hx h fun _ k => tended_ite (tended_ite (T.congr k (by rfl)) (T.packet _ _ _ _ (T.congr k (by rfl)))) k
  | malformedPacket dt bs =>
    dsimp only [exec, execMalformedPacket] at hx
    exact tended_act T hx h fun _ k => tended_ite (tended_receivePacket T k _) k
  | unknownDirective dt tag code p =>
    dsimp only [exec, execUnknownDirective] at hx
    exact tended_act T hx h fun _ k => tended_routeDirective T k _ _ _
  | linkReset dt tag p => exact tended_act T hx h fun _ k => tended_onLinkReset T k _ _
  | sleep dt tag p => exact tended_act T hx h fun _ k => tended_onSleep T k _ _
  | readStatus dt tag p => exact tended_act T hx h fun _ k => T.congr k (stock_onReadStatus _ _ _)
  | readCounters dt tag p => exact tended_act T hx h fun _ k => T.congr k (stock_onReadCounters _ _ _)
  | clearCounters dt tag p => exact tended_act T hx h fun _ k => T.congr k (stock_onClearCounters _ _ _)
  | writeEntry dt tag p => exact tended_act T hx h fun _ k => T.congr k (stock_onWriteEntry _ _ _)
  | readEntry dt tag p => exact tended_act T hx h fun _ k => T.congr k (stock_onReadEntry _ _ _)
  | selectPage dt tag p => exact tended_act T hx h fun _ k => tended_onSelectPage T k _ _
  | calibrate dt tag p => exact tended_act T hx h fun _ k => T.congr k (stock_onCalibrate _ _ _)
  | setMode dt tag p => exact tended_act T hx h fun _ k => T.congr k (stock_onSetMode _ _ _)
  | recenter dt tag p => exact tended_act T hx h fun _ k => T.congr k (stock_onRecenter _ _ _)
  | setGeometry dt tag p => exact tended_act T hx h fun _ k => T.congr k (stock_onSetGeometry _ _ _)
  | setLens dt tag p => exact tended_act T hx h fun _ k => T.congr k (stock_onSetLens _ _ _)
  | setExposure dt tag p => exact tended_act T hx h fun _ k => T.congr k (stock_onSetExposure _ _ _)
  | mount dt tag p => exact tended_act T hx h fun _ k => tended_onMount T k _ _
  | unmount dt tag p => exact tended_act T hx h fun _ k => tended_onUnmount T k _ _
  | startRecording dt tag p => exact tended_act T hx h fun _ k => tended_onStartRecording T k _ _
  | stopRecording dt tag p => exact tended_act T hx h fun _ k => tended_onStopRecording T k _ _
  | mark dt tag p => exact tended_act T hx h fun _ k => tended_onMark T k _ _
  | lockClip dt tag p => exact tended_act T hx h fun _ k => tended_onLockClip T k _ _
  | unlockClip dt tag p => exact tended_act T hx h fun _ k => tended_onUnlockClip T k _ _
  | deleteClip dt tag p => exact tended_act T hx h fun _ k => tended_onDeleteClip T k _ _
  | readIndex dt tag p => exact tended_act T hx h fun _ k => T.congr k (stock_onReadIndex _ _ _)
  | readClip dt tag p => exact tended_act T hx h fun _ k => T.congr k (stock_onReadClip _ _ _)
  | cardRead dt tag p => exact tended_act T hx h fun _ k => T.congr k (stock_onCardRead _ _ _)
  | cardWrite dt tag p => exact tended_act T hx h fun _ k => T.congr k (stock_onCardWrite _ _ _)
  | setInputLimit dt tag p => exact tended_act T hx h fun _ k => T.congr k (stock_onSetInputLimit _ _ _)
  | setChargeRequest dt tag p => exact tended_act T hx h fun _ k => T.congr k (stock_onSetChargeRequest _ _ _)
  | chargeRestart dt tag p => exact tended_act T hx h fun _ k => T.congr k (stock_onChargeRestart _ _ _)
  | setGauge dt tag p => exact tended_act T hx h fun _ k => T.congr k (stock_onSetGauge _ _ _)
  | readPower dt tag p => exact tended_act T hx h fun _ k => T.congr k (stock_onReadPower _ _ _)
  | stallTimerExpiry dt =>
    dsimp only [exec, execStallTimerExpiry] at hx
    exact tended_act T hx h fun _ k => tended_ite (T.stop _ k) k
  | cardOpCompletion dt ok d =>
    dsimp only [exec, execCardOpCompletion] at hx
    exact tended_act T hx h fun _ k => tended_takeCompletion T k _ _
  | cardTimeout dt =>
    dsimp only [exec, execCardTimeout] at hx
    exact tended_act T hx h fun u k => by
      split
      · next o ho =>
        exact tended_ite (tended_opError T (T.congr (t := u.mapCard fun c => { c with timedOut := some u.partTime }) k rfl)
          ho _) k
      · exact k
  | cardInsertion dt =>
    dsimp only [exec, execCardInsertion] at hx
    exact tended_act T hx h fun _ k => tended_ite (T.congr k (by rw [stock_report]; rfl)) k
  | cardRemoval dt =>
    dsimp only [exec, execCardRemoval] at hx
    exact tended_act T hx h fun _ k => tended_ite k (T.congr (T.gone _ k (by rw [stock_report]; rfl)) (stock_failPass _))
  | powerUpdate dt m x y =>
    dsimp only [exec, execPowerUpdate] at hx
    exact tended_act T hx h fun _ k => tended_takeUpdate T k _ _ _
  | chargeEvaluation dt =>
    dsimp only [exec, execChargeEvaluation] at hx
    exact tended_act T hx h fun _ k => tended_ite (tended_handleDeferred T (tended_evaluate T k)) k
  | safetyTimerTimeout dt =>
    dsimp only [exec, execSafetyTimerTimeout] at hx
    exact tended_act T hx h fun _ k => tended_ite (tended_handleDeferred T (tended_evaluate T k)) k

/-- Every step keeps what the operations of the store keep. -/
theorem tended_step {s t : State} (hs : step s = .next t) (h : P s) : P t := by
  unfold step at hs
  split at hs
  · cases hs; exact T.congr h rfl
  · next c rest _ => exact tended_exec (s := { s with pending := rest }) T hs (T.congr h rfl)
end

/-! ### The ledger -/

theorem ledger_reset (n l : Prop) : Ledger n l State.reset where
  bounded := by unfold StoreBounded; decide
  ordered := by unfold ClipsOrdered; decide
  quiet _ := by unfold NoneOpenUnderEmergency; decide
  locks _ := by unfold LocksWithinQuota; decide

theorem tended_ledger (n l : Prop) : Tended (Ledger n l) where
  congr h ht := h.congr ht
  reset := ledger_reset n l
  idle h := h.idle_of_notReady
  fire i e h := ledger_fire h i e
  pump h ht := ledger_pumpStep h ht
  packet st f pts p h := ledger_takeClipPacket h st f pts p
  motion t h := ledger_motionPacket h t
  stop r h := ledger_stopRecording h r
  start t h := ledger_startRecording h t
  mark k h := ledger_addMarker h k
  lock h hc := ledger_lockRecord h hc
  unlock h hc := ledger_unlockRecord h hc
  delete h _ _ := ledger_dropClip h _
  blank a m g h hs := ledger_mountBlank h hs a m g
  scan a m g h hs _ := ledger_mountScan h hs a m g
  unmount h hw := ledger_toUnmounted h hw
  abandon h hw := ledger_stopScan h hw
  withdraw h := ledger_mapCard h (Nat.zero_le _)
  ok d h _ := ledger_tellOk (ledger_cardIdle h) _ d
  error h _ := ledger_tellError (ledger_cardIdle h) _
  gone c h ht := ledger_enterFault ((ledger_mapCard h h.bounded.2).congr ht) c
  page t h := ledger_selectStore h t
  calmer f h hc := ⟨h.bounded, h.ordered, fun hn hu => h.quiet hn (hc hu), h.locks⟩
  emergency f r h ht := by
    have hf : Ledger False l (_ : State) := (h.mono (m := False) (k := l) False.elim id)
    exact ledger_enterEmergency (n := False) (Ledger.congr (s := State.mapThermal f _)
      ⟨hf.bounded, hf.ordered, fun hn => hn.elim, hf.locks⟩ ht) r

/-- Settles O58: every operation of the store keeps its ledger. -/
theorem stepKeepsStoreBounds : Obligations.StepKeepsStoreBounds := by
  intro s t hb ho hs
  have h : Ledger (NoneOpenUnderEmergency s) (LocksWithinQuota s) t := tended_step (tended_ledger _ _) hs ⟨hb, ho, id, id⟩
  exact ⟨h.bounded, h.ordered, h.quiet, h.locks⟩
end Sys2Proof.Machine

/-! PROOF. The Extent Map and the Free List: what an entry holds after a change of another, and after the release of a
chain (R91, R95). -/

namespace Sys2Proof.Machine

/-! ### Entries of the Extent Map -/

theorem owned_iff {st : Store} {i : Nat} {o : Owned} : st.owned i = some o ↔ st.extents[i]? = some (.owned o) := by
  unfold Store.owned
  split
  · next o' h => rw [h]; simp
  · next h => simp only [reduceCtorEq, false_iff]; exact h o

theorem owned_congr {st st' : Store} {i : Nat} (h : st'.extents[i]? = st.extents[i]?) : st'.owned i = st.owned i := by
  unfold Store.owned; rw [h]

theorem owned_lt {st : Store} {i : Nat} {o : Owned} (h : st.owned i = some o) : i < st.extents.length :=
  (List.getElem?_eq_some_iff.1 (owned_iff.1 h)).1

theorem extents_updateOwned (i : Nat) (f : Owned → Owned) (s : State) (j : Nat) :
    (updateOwned i f s).store.extents[j]? =
      if j = i then s.store.extents[j]?.map (Extent.mapOwned f) else s.store.extents[j]? := by
  show (s.store.extents.modify i (Extent.mapOwned f))[j]? = _
  rw [List.getElem?_modify]
  by_cases h : j = i
  · subst h; simp
  · simp [h, Ne.symm h]

/-- An OWNED extent changed: its entry by the function, every other as before. -/
theorem owned_updateOwned (i : Nat) (f : Owned → Owned) (s : State) (j : Nat) :
    (updateOwned i f s).store.owned j = if j = i then (s.store.owned j).map f else s.store.owned j := by
  by_cases h : j = i
  · rw [if_pos h]
    unfold Store.owned
    rw [extents_updateOwned, if_pos h]
    cases s.store.extents[j]? with
    | none => rfl
    | some e => cases e <;> rfl
  · rw [if_neg h]
    exact owned_congr (by rw [extents_updateOwned, if_neg h])

theorem extents_updateOwned_free (i : Nat) (f : Owned → Owned) (s : State) (j : Nat) :
    (updateOwned i f s).store.extents[j]? = some .free ↔ s.store.extents[j]? = some .free := by
  rw [extents_updateOwned]
  split
  · cases s.store.extents[j]? with
    | none => simp
    | some e => cases e <;> simp [Extent.mapOwned]
  · rfl

/-- An entry set: itself, and every other as before. -/
theorem owned_set {st : Store} {i j : Nat} {x : Extent} (hi : i < st.extents.length) :
    ({ st with extents := st.extents.set i x } : Store).owned j =
      if j = i then (match x with | .owned o => some o | _ => none) else st.owned j := by
  unfold Store.owned
  dsimp only
  by_cases h : j = i
  · subst h
    rw [if_pos rfl, List.getElem?_set_self hi]
    cases x <;> rfl
  · rw [if_neg h, List.getElem?_set_ne (Ne.symm h)]

/-! ### Releases -/

/-- What becomes of an OWNED extent that is released. -/
def Owned.freed (o : Owned) : Extent := if o.weak then .bad else .free

theorem release_owned {st : Store} {i : Nat} {o : Owned} (h : st.owned i = some o) :
    st.release i =
      { st with extents := st.extents.set i o.freed, free := st.free ++ if o.weak then [] else [i] } := by
  unfold Store.release Owned.freed
  rw [h]
  dsimp only
  split <;> simp

/-- The extents of `m` that go to the Free List when they are released. -/
def Store.sound (st : Store) (m : List Nat) : List Nat := m.filter fun e => (st.owned e).any fun o => !o.weak

/-- After the release of distinct OWNED extents the weak ones are BAD and the others FREE at the Free List's tail, and every
other extent is as before. -/
theorem releaseAll_spec {m : List Nat} {st : Store} (hn : m.Nodup) (ho : ∀ e ∈ m, st.owned e ≠ none) :
    (st.releaseAll m).free = st.free ++ st.sound m ∧
      ∀ e, (st.releaseAll m).extents[e]? = if e ∈ m then (st.owned e).map Owned.freed else st.extents[e]? := by
  induction m generalizing st with
  | nil => simp [Store.releaseAll, Store.sound]
  | cons i m ih =>
    obtain ⟨hi, hn⟩ := List.nodup_cons.1 hn
    obtain ⟨o, hio⟩ := Option.ne_none_iff_exists'.1 (ho i (List.mem_cons_self ..))
    have hlt := owned_lt hio
    have hr := release_owned hio
    have hoth : ∀ e, e ≠ i → (st.release i).owned e = st.owned e := fun e he => by
      refine owned_congr ?_
      rw [hr]; exact List.getElem?_set_ne (Ne.symm he)
    have hm : ∀ e ∈ m, (st.release i).owned e = st.owned e := fun e he => hoth e fun h => hi (h ▸ he)
    obtain ⟨hf, hx⟩ := ih hn fun e he => by rw [hm e he]; exact ho e (List.mem_cons_of_mem _ he)
    refine ⟨?_, fun e => ?_⟩
    · show ((st.release i).releaseAll m).free = _
      have hs : (st.release i).sound m = st.sound m := List.filter_congr fun e he => by rw [hm e he]
      rw [hf, hs, hr]
      unfold Store.sound
      rw [List.filter_cons, hio]
      cases hw : o.weak <;> simp [hw]
    · show ((st.release i).releaseAll m).extents[e]? = _
      rw [hx e]
      by_cases he : e ∈ m
      · rw [if_pos he, if_pos (List.mem_cons_of_mem _ he), hm e he]
      · rw [if_neg he]
        by_cases hei : e = i
        · subst hei
          rw [if_pos (List.mem_cons_self ..), hio, hr]
          exact List.getElem?_set_self hlt
        · rw [if_neg (by simp [hei, he]), hr]
          exact List.getElem?_set_ne (Ne.symm hei)

theorem releaseAll_length (m : List Nat) (st : Store) : (st.releaseAll m).extents.length = st.extents.length := by
  induction m generalizing st with
  | nil => rfl
  | cons i m ih =>
    refine (ih (st.release i)).trans ?_
    unfold Store.release
    split
    · split <;> exact List.length_set ..
    · rfl

/-! ### Chains -/

theorem chain_zero (st : Store) (i : Option Nat) : st.chain 0 i = [] := by unfold Store.chain; cases i <;> rfl
theorem chain_none (st : Store) (n : Nat) : st.chain n none = [] := by unfold Store.chain; cases n <;> rfl
theorem chain_some (st : Store) (n i : Nat) :
    st.chain (n + 1) (some i) = i :: st.chain n ((st.owned i).bind Owned.next) := rfl

/-- A chain that goes over extents whose entries keep their next extents stays. -/
theorem chain_congr {st st' : Store} {n : Nat} {i : Option Nat}
    (h : ∀ e ∈ st.chain n i, (st'.owned e).bind Owned.next = (st.owned e).bind Owned.next) :
    st'.chain n i = st.chain n i := by
  induction n generalizing i with
  | zero => rw [chain_zero, chain_zero]
  | succ n ih =>
    cases i with
    | none => rw [chain_none, chain_none]
    | some i =>
      rw [chain_some] at h
      rw [chain_some, chain_some, h i (List.mem_cons_self ..), ih fun e he => h e (List.mem_cons_of_mem _ he)]
end Sys2Proof.Machine

/-! PROOF. The extents of a READY store in their places: chains by their entries, and what the changes of a record, of an
entry and of the Free List keep (R91). -/

namespace Sys2Proof.Machine

/-! ### Chains by their entries -/

/-- Two entries stand at the same place of the same chain. -/
def Owned.linked (o o' : Owned) : Prop := o'.owner = o.owner ∧ o'.seq = o.seq ∧ o'.next = o.next

/-- The entries of `l` name each other in its order, as extents of clip `n`. -/
def Store.runs (st : Store) (n : Nat) (l : List Nat) : Prop :=
  ∀ k e, l[k]? = some e → ∃ o, st.owned e = some o ∧ o.owner = n ∧ o.seq = k ∧ o.next = l[k + 1]?

theorem placed_iff {st : Store} {c : Clip} {l : List Nat} : Placed st c l ↔
    l.length = c.extentCount ∧ l.head? = c.firstExtent ∧ l.getLast? = c.lastExtent ∧ l.Nodup ∧ st.runs c.number l := by
  unfold Placed Store.runs
  refine and_congr_right fun _ => and_congr_right fun _ => and_congr_right fun _ => and_congr_right fun _ => ?_
  constructor
  · intro h k e he
    obtain ⟨e', he', o, ho, hr⟩ := h k (List.mem_range.2 (List.getElem?_eq_some_iff.1 he).1)
    obtain rfl : e = e' := Option.some.inj (he.symm.trans he')
    exact ⟨o, ho, hr⟩
  · intro h k hk
    obtain ⟨o, ho, hr⟩ := h k _ (List.getElem?_eq_getElem (List.mem_range.1 hk))
    exact ⟨_, List.getElem?_eq_getElem (List.mem_range.1 hk), o, ho, hr⟩

/-- A list whose entries name each other is the chain from its head. -/
theorem chain_of_links {st : Store} {l : List Nat}
    (h : ∀ k e, l[k]? = some e → (st.owned e).bind Owned.next = l[k + 1]?) : st.chain l.length l.head? = l := by
  induction l with
  | nil => rfl
  | cons i m ih =>
    have h0 := h 0 i rfl
    show i :: st.chain m.length ((st.owned i).bind Owned.next) = i :: m
    rw [h0, show (i :: m)[0 + 1]? = m.head? by simp [List.head?_eq_getElem?], ih fun k e he => h (k + 1) e he]

section
variable {st : Store} {c : Clip} {l : List Nat} (h : Placed st c l)
include h

theorem Placed.length : l.length = c.extentCount := (placed_iff.1 h).1
theorem Placed.head : l.head? = c.firstExtent := (placed_iff.1 h).2.1
theorem Placed.last : l.getLast? = c.lastExtent := (placed_iff.1 h).2.2.1
theorem Placed.nodup : l.Nodup := (placed_iff.1 h).2.2.2.1
theorem Placed.runs : st.runs c.number l := (placed_iff.1 h).2.2.2.2

/-- Every extent of the chain is OWNED by the clip. -/
theorem Placed.owned {i : Nat} (hi : i ∈ l) : ∃ o, st.owned i = some o ∧ o.owner = c.number := by
  obtain ⟨k, hk⟩ := List.mem_iff_getElem?.1 hi
  obtain ⟨o, ho, hn, -⟩ := h.runs k i hk
  exact ⟨o, ho, hn⟩

/-- The list is the chain that the record starts. -/
theorem Placed.chain_eq : st.chain c.extentCount c.firstExtent = l := by
  rw [← h.length, ← h.head]
  refine chain_of_links fun k e he => ?_
  obtain ⟨o, ho, -, -, hx⟩ := h.runs k e he
  rw [ho, ← hx]; rfl

/-- A record of the same number and chain ends is placed where the entries stand as before. -/
theorem Placed.congr {st' : Store} {c' : Clip} (hn : c'.number = c.number) (hx : c'.extentCount = c.extentCount)
    (hf : c'.firstExtent = c.firstExtent) (hl : c'.lastExtent = c.lastExtent)
    (ho : ∀ i ∈ l, ∀ o, st.owned i = some o → ∃ o', st'.owned i = some o' ∧ o.linked o') : Placed st' c' l := by
  refine placed_iff.2 ⟨h.length.trans hx.symm, h.head.trans hf.symm, h.last.trans hl.symm, h.nodup, fun k e he => ?_⟩
  obtain ⟨o, hoe, ho1, ho2, ho3⟩ := h.runs k e he
  obtain ⟨o', ho', h1, h2, h3⟩ := ho e (List.mem_of_getElem? he) o hoe
  exact ⟨o', ho', h1.trans (ho1.trans hn.symm), h2.trans ho2, h3.trans ho3⟩

/-- Two records that share an extent have one number. -/
theorem Placed.number_eq {d : Clip} {m : List Nat} (hd : Placed st d m) {i : Nat} (hi : i ∈ l) (hm : i ∈ m) :
    c.number = d.number := by
  obtain ⟨o, ho, hc⟩ := h.owned hi
  obtain ⟨o', ho', hd'⟩ := hd.owned hm
  obtain rfl : o = o' := Option.some.inj (ho.symm.trans ho')
  rw [← hc, hd']
end

/-! ### Every extent in one place -/

/-- Every extent of the area is once in the Free List, in the chain of one record, or BAD. -/
structure Parted (st : Store) : Prop where
  size : st.extents.length = st.count
  nodup : st.free.Nodup
  free : ∀ i, i ∈ st.free ↔ st.extents[i]? = some .free
  chains : ∀ c ∈ st.index, ∃ l, Placed st c l
  owners : ∀ i o, st.owned i = some o → ∃ c ∈ st.index, c.number = o.owner ∧ ∃ l, Placed st c l ∧ i ∈ l

theorem extentsPlaced_iff {s : State} : ExtentsPlaced s ↔ (s.store.state = .ready → Parted s.store) := by
  unfold ExtentsPlaced
  refine imp_congr_right fun _ => ?_
  constructor
  · rintro ⟨hs, hn, hf, hf', hc, ho⟩
    refine ⟨hs, hn, fun i => ⟨hf i, fun he => hf' i (List.mem_range.2 (List.getElem?_eq_some_iff.1 he).1) he⟩,
      fun c hm => ⟨_, hc c hm⟩, fun i o hi => ?_⟩
    obtain ⟨c, hm, hn, hi⟩ := ho i (List.mem_range.2 (owned_lt hi)) o hi
    exact ⟨c, hm, hn, _, hc c hm, hi⟩
  · intro h
    refine ⟨h.size, h.nodup, fun i => (h.free i).1, fun i _ => (h.free i).2, fun c hm => ?_, fun i _ o hi => ?_⟩
    · obtain ⟨l, hl⟩ := h.chains c hm
      rw [hl.chain_eq]; exact hl
    · obtain ⟨c, hm, hn, l, hl, hil⟩ := h.owners i o hi
      exact ⟨c, hm, hn, by rw [hl.chain_eq]; exact hil⟩

section
variable {st : Store} (h : Parted st)
include h

theorem Parted.placed {c : Clip} (hc : c ∈ st.index) : Placed st c (st.chainOf c) := by
  obtain ⟨l, hl⟩ := h.chains c hc
  have he : st.chainOf c = l := hl.chain_eq
  rw [he]; exact hl

theorem Parted.mem_chainOf {i : Nat} {o : Owned} (hi : st.owned i = some o) :
    ∃ c ∈ st.index, c.number = o.owner ∧ i ∈ st.chainOf c := by
  obtain ⟨c, hc, hn, l, hl, hil⟩ := h.owners i o hi
  have he : st.chainOf c = l := hl.chain_eq
  exact ⟨c, hc, hn, by rw [he]; exact hil⟩

/-- A record with a last extent has extents. -/
theorem Parted.extents_pos {c : Clip} (hc : c ∈ st.index) {e : Nat} (he : c.lastExtent = some e) : 0 < c.extentCount := by
  have hp := h.placed hc
  rw [← hp.length, List.length_pos_iff]
  rintro h0
  rw [← hp.last, h0] at he; cases he

/-- Records that keep number and chain, over entries that keep their places, are placed as before. -/
theorem Parted.relink {st' : Store} (f : Clip → Clip) (hi : st'.index = st.index.map f)
    (hn : ∀ c ∈ st.index, (f c).number = c.number) (hx : ∀ c ∈ st.index, (f c).extentCount = c.extentCount)
    (hf : ∀ c ∈ st.index, (f c).firstExtent = c.firstExtent) (hl : ∀ c ∈ st.index, (f c).lastExtent = c.lastExtent)
    (hlen : st'.extents.length = st.extents.length) (hcount : st'.count = st.count) (hfree : st'.free = st.free)
    (he : ∀ i : Nat, st'.extents[i]? = some Extent.free ↔ st.extents[i]? = some Extent.free)
    (ho : ∀ i o, st.owned i = some o → ∃ o', st'.owned i = some o' ∧ o.linked o')
    (ho' : ∀ i o', st'.owned i = some o' → ∃ o, st.owned i = some o ∧ o.linked o') : Parted st' where
  size := by rw [hlen, hcount]; exact h.size
  nodup := by rw [hfree]; exact h.nodup
  free i := by rw [hfree, h.free, he]
  chains c hc := by
    rw [hi] at hc
    obtain ⟨d, hd, rfl⟩ := List.mem_map.1 hc
    exact ⟨_, (h.placed hd).congr (hn d hd) (hx d hd) (hf d hd) (hl d hd) fun i _ o hio => ho i o hio⟩
  owners i o' hio := by
    obtain ⟨o, hoi, hlink⟩ := ho' i o' hio
    obtain ⟨c, hc, hcn, hil⟩ := h.mem_chainOf hoi
    refine ⟨f c, by rw [hi]; exact List.mem_map_of_mem hc, ?_, _,
      (h.placed hc).congr (hn c hc) (hx c hc) (hf c hc) (hl c hc) fun i _ o hio => ho i o hio, hil⟩
    rw [hn c hc, hcn, hlink.1]

/-- A record without extents joins. -/
theorem Parted.append {c : Clip} (hx : c.extentCount = 0) (hf : c.firstExtent = none) (hl : c.lastExtent = none)
    {st' : Store} (hi : st'.index = st.index ++ [c]) (hext : st'.extents = st.extents) (hfree : st'.free = st.free)
    (hcount : st'.count = st.count) : Parted st' := by
  have ho : ∀ i, st'.owned i = st.owned i := fun i => owned_congr (by rw [hext])
  have hp : ∀ d ∈ st.index, Placed st' d (st.chainOf d) := fun d hd =>
    (h.placed hd).congr rfl rfl rfl rfl fun i _ o hio => ⟨o, by rw [ho, hio], rfl, rfl, rfl⟩
  refine ⟨by rw [hext, hcount]; exact h.size, by rw [hfree]; exact h.nodup, fun i => by rw [hfree, hext]; exact h.free i,
    fun d hd => ?_, fun i o hio => ?_⟩
  · rw [hi] at hd
    obtain hd | hd := List.mem_append.1 hd
    · exact ⟨_, hp d hd⟩
    · obtain rfl := List.mem_singleton.1 hd
      exact ⟨[], placed_iff.2 ⟨hx.symm, hf.symm, hl.symm, .nil, fun k e he => by simp at he⟩⟩
  · rw [ho] at hio
    obtain ⟨d, hd, hn, hid⟩ := h.mem_chainOf hio
    exact ⟨d, by rw [hi]; exact List.mem_append_left _ hd, hn, _, hp d hd, hid⟩

/-- The weak extents of a record's chain and the others of it, released, and the record gone. -/
theorem Parted.dropped {c : Clip} (hc : c ∈ st.index) (hu : ∀ d ∈ st.index, d.number = c.number → d = c) :
    Parted (st.dropped c) := by
  have hpc := h.placed hc
  have hown : ∀ e ∈ st.chainOf c, st.owned e ≠ none := fun e he => by
    obtain ⟨o, ho, -⟩ := hpc.owned he
    rw [ho]; nofun
  obtain ⟨hfree, hext⟩ := releaseAll_spec hpc.nodup hown
  have hfree' : (st.dropped c).free = st.free ++ st.sound (st.chainOf c) := hfree
  have hext' : ∀ e, (st.dropped c).extents[e]? =
      if e ∈ st.chainOf c then (st.owned e).map Owned.freed else st.extents[e]? := hext
  have hout : ∀ i, i ∉ st.chainOf c → (st.dropped c).owned i = st.owned i := fun i hi =>
    owned_congr (by rw [hext', if_neg hi])
  have hin : ∀ i ∈ st.chainOf c, (st.dropped c).owned i = none := fun i hi => by
    obtain ⟨o, ho, -⟩ := hpc.owned hi
    cases hx : (st.dropped c).owned i with
    | none => rfl
    | some o' =>
      have := owned_iff.1 hx
      rw [hext', if_pos hi, ho] at this
      unfold Owned.freed at this
      revert this
      simp only [Option.map_some, Option.some.injEq]
      split <;> nofun
  have hplaced : ∀ d ∈ st.index, d.number ≠ c.number → Placed (st.dropped c) d (st.chainOf d) := fun d hd hn =>
    (h.placed hd).congr rfl rfl rfl rfl fun i hi o hio =>
      ⟨o, by rw [hout i fun hic => hn ((h.placed hd).number_eq hpc hi hic), hio], rfl, rfl, rfl⟩
  have hmem : ∀ d, d ∈ (st.dropped c).index ↔ d ∈ st.index ∧ d.number ≠ c.number := fun d => by
    rw [dropped_index, List.mem_filter]; simp
  refine ⟨?_, ?_, fun i => ?_, fun d hd => ?_, fun i o hio => ?_⟩
  · show (st.releaseAll _).extents.length = (st.releaseAll _).count
    rw [releaseAll_length, releaseAll_count]; exact h.size
  · rw [hfree']
    refine List.Nodup.append h.nodup (hpc.nodup.filter _) fun i hi hs => ?_
    have h1 := (h.free i).1 hi
    obtain ⟨o, ho, -⟩ := hpc.owned (List.mem_filter.1 hs).1
    rw [owned_iff.1 ho] at h1; cases h1
  · rw [hfree', hext', List.mem_append]
    unfold Store.sound
    rw [List.mem_filter]
    by_cases hi : i ∈ st.chainOf c
    · obtain ⟨o, ho, -⟩ := hpc.owned hi
      have hnf : i ∉ st.free := fun hf => by
        have h1 := (h.free i).1 hf
        rw [owned_iff.1 ho] at h1; cases h1
      rw [if_pos hi, ho]
      unfold Owned.freed
      cases hw : o.weak <;> simp [hi, hnf, hw]
    · rw [if_neg hi, ← h.free]; simp [hi]
  · obtain ⟨hd, hn⟩ := (hmem d).1 hd
    exact ⟨_, hplaced d hd hn⟩
  · by_cases hi : i ∈ st.chainOf c
    · rw [hin i hi] at hio; cases hio
    · rw [hout i hi] at hio
      obtain ⟨d, hd, hn, hid⟩ := h.mem_chainOf hio
      have hne : d.number ≠ c.number := fun he => hi (hu d hd he ▸ hid)
      exact ⟨d, (hmem d).2 ⟨hd, hne⟩, hn, _, hplaced d hd hne, hid⟩

/-- One record takes a new chain: the others stay in their places where the entries outside both chains do. -/
theorem Parted.rechain {st' : Store} {c c' : Clip} {l : List Nat} (hc : c ∈ st.index)
    (hu : ∀ d ∈ st.index, d.number = c.number → d = c) (hp : Placed st' c' l)
    (hi : st'.index = st.index.map fun d => if d.number = c.number then c' else d)
    (hsize : st'.extents.length = st'.count) (hnd : st'.free.Nodup)
    (hfree : ∀ i, i ∈ st'.free ↔ st'.extents[i]? = some .free)
    (hout : ∀ i, i ∉ st.chainOf c → i ∉ l → st'.owned i = st.owned i)
    (hlost : ∀ i ∈ st.chainOf c, i ∉ l → st'.owned i = none)
    (hnew : ∀ d ∈ st.index, d.number ≠ c.number → ∀ i ∈ st.chainOf d, i ∉ l) : Parted st' where
  size := hsize
  nodup := hnd
  free := hfree
  chains d hd := by
    rw [hi] at hd
    obtain ⟨b, hb, rfl⟩ := List.mem_map.1 hd
    by_cases hbn : b.number = c.number
    · rw [if_pos hbn]; exact ⟨_, hp⟩
    · rw [if_neg hbn]
      exact ⟨_, (h.placed hb).congr rfl rfl rfl rfl fun i hib o hio => ⟨o, by
        rw [hout i (fun hic => hbn ((h.placed hb).number_eq (h.placed hc) hib hic)) (hnew b hb hbn i hib), hio],
        rfl, rfl, rfl⟩⟩
  owners i o hio := by
    have hmem : c' ∈ st'.index := by rw [hi]; exact List.mem_map.2 ⟨c, hc, if_pos rfl⟩
    by_cases hil : i ∈ l
    · obtain ⟨o', ho', hon⟩ := hp.owned hil
      obtain rfl : o' = o := Option.some.inj (ho'.symm.trans hio)
      exact ⟨c', hmem, hon.symm, l, hp, hil⟩
    · have hic : i ∉ st.chainOf c := fun hic => by rw [hlost i hic hil] at hio; cases hio
      rw [hout i hic hil] at hio
      obtain ⟨d, hd, hdn, hid⟩ := h.mem_chainOf hio
      have hne : d.number ≠ c.number := fun he => hic (hu d hd he ▸ hid)
      refine ⟨d, by rw [hi]; exact List.mem_map.2 ⟨d, hd, if_neg hne⟩, hdn, _, (h.placed hd).congr rfl rfl rfl rfl
        fun j hjd o hjo => ⟨o, ?_, rfl, rfl, rfl⟩, hid⟩
      rw [hout j (fun hjc => hne ((h.placed hd).number_eq (h.placed hc) hjd hjc)) (hnew d hd hne j hjd), hjo]
end
end Sys2Proof.Machine

/-! PROOF. An extent joins a chain, and leaves it (R94, R96, R121). -/

namespace Sys2Proof.Machine

/-! ### The last place of a list -/

theorem last_index {l : List Nat} (hn : l.Nodup) {k j : Nat} (hk : l[k]? = some j) (hl : l.getLast? = some j) :
    k + 1 = l.length := by
  have hlt := (List.getElem?_eq_some_iff.1 hk).1
  rw [List.getLast?_eq_getElem?, List.getElem?_eq_getElem (by omega)] at hl
  rw [List.getElem?_eq_getElem hlt] at hk
  have := hn.getElem_inj_iff.1 ((Option.some.inj hl).trans (Option.some.inj hk).symm)
  omega

theorem not_last_index {l : List Nat} {k j : Nat} (hk : l[k]? = some j) (hl : l.getLast? ≠ some j) : k + 1 < l.length := by
  have hlt := (List.getElem?_eq_some_iff.1 hk).1
  by_contra hge
  refine hl ?_
  rw [List.getLast?_eq_getElem?, show l.length - 1 = k by omega]; exact hk

/-! ### An extent joins -/

/-- The record with extent `e` chained as its last (R94). -/
def Clip.chained (e : Nat) (c : Clip) : Clip :=
  { c with extentCount := c.extentCount + 1, firstExtent := some (c.firstExtent.getD e), lastExtent := some e,
           phase := .opening }

/-- The extents that extent `e` joins, behind the last one of record `c`. -/
def Store.linkTo (st : Store) (c : Clip) (e : Nat) : List Extent :=
  match c.lastExtent with
  | some p => st.extents.modify p (Extent.mapOwned fun o => { o with next := some e })
  | none => st.extents

theorem chainExtent_eq (c : Clip) (e : Nat) (s : State) : chainExtent c e s = s.mapStore fun st =>
    { st with
      extents := (st.linkTo c e).set e (.owned ⟨false, c.number, c.extentCount, none, 0⟩)
      free := st.free.drop 1
      index := st.index.map fun d => if d.number = c.number then d.chained e else d } := by
  unfold chainExtent Store.linkTo State.mapStore
  cases c.lastExtent <;> rfl

theorem linkTo_eq (c : Clip) (e : Nat) (s : State) :
    s.store.linkTo c e = match c.lastExtent with
      | some p => (updateOwned p (fun o => { o with next := some e }) s).store.extents
      | none => s.store.extents := by
  unfold Store.linkTo; cases c.lastExtent <;> rfl

theorem linkTo_length (st : Store) (c : Clip) (e : Nat) : (st.linkTo c e).length = st.extents.length := by
  unfold Store.linkTo; cases c.lastExtent with
  | none => rfl
  | some p => exact List.length_modify ..

section
variable {c : Clip} {e : Nat} {s : State} (he : e < s.store.extents.length)
include he

/-- The entries after an extent has joined: its own, the one before it, and every other as before. -/
theorem owned_chainExtent (j : Nat) : (chainExtent c e s).store.owned j =
    if j = e then some ⟨false, c.number, c.extentCount, none, 0⟩
    else if c.lastExtent = some j then (s.store.owned j).map fun o => { o with next := some e }
    else s.store.owned j := by
  rw [chainExtent_eq]
  have hlt : e < ({ s.store with extents := s.store.linkTo c e } : Store).extents.length := by
    show e < (s.store.linkTo c e).length; rw [linkTo_length]; exact he
  refine (owned_set (x := .owned ⟨false, c.number, c.extentCount, none, 0⟩) hlt).trans ?_
  refine if_congr Iff.rfl rfl ?_
  cases hl : c.lastExtent with
  | none =>
    rw [if_neg nofun]
    exact owned_congr (by show (s.store.linkTo c e)[j]? = _; unfold Store.linkTo; rw [hl])
  | some p =>
    have h1 : ({ s.store with extents := s.store.linkTo c e } : Store).owned j =
        (updateOwned p (fun o => { o with next := some e }) s).store.owned j :=
      owned_congr (by show (s.store.linkTo c e)[j]? = _; rw [linkTo_eq, hl])
    rw [h1, owned_updateOwned]
    simp only [Option.some.injEq, eq_comm]

theorem free_chainExtent (j : Nat) :
    (chainExtent c e s).store.extents[j]? = some Extent.free ↔ j ≠ e ∧ s.store.extents[j]? = some Extent.free := by
  rw [chainExtent_eq]
  show ((s.store.linkTo c e).set e _)[j]? = some Extent.free ↔ _
  by_cases h : j = e
  · subst h
    rw [List.getElem?_set_self (by rw [linkTo_length]; exact he)]; simp
  · rw [List.getElem?_set_ne (Ne.symm h), linkTo_eq]
    cases c.lastExtent with
    | none => simp [h]
    | some p => simp only [extents_updateOwned_free, ne_eq, h, not_false_eq_true, true_and]
end

/-- The chain that an extent has joined goes on with it. -/
theorem Placed.chained {s : State} {c : Clip} {l : List Nat} (h : Placed s.store c l) {e : Nat}
    (he : e < s.store.extents.length) (hel : e ∉ l) : Placed (chainExtent c e s).store (c.chained e) (l ++ [e]) := by
  have howned := owned_chainExtent (c := c) he
  refine placed_iff.2 ⟨?_, ?_, ?_, ?_, fun k j hk => ?_⟩
  · rw [List.length_append, h.length]; rfl
  · show _ = some (c.firstExtent.getD e)
    rw [← h.head, List.head?_append]
    cases l.head? <;> rfl
  · rw [List.getLast?_append]; rfl
  · refine List.nodup_append.2 ⟨h.nodup, List.nodup_singleton e, fun a ha b hb => ?_⟩
    rw [List.mem_singleton.1 hb]
    exact fun hae => hel (hae ▸ ha)
  · by_cases hlt : k < l.length
    · rw [List.getElem?_append_left hlt] at hk
      obtain ⟨o, ho, hon, hos, hox⟩ := h.runs k j hk
      rw [howned, if_neg fun hje : j = e => hel (hje ▸ List.mem_of_getElem? hk)]
      by_cases hlast : c.lastExtent = some j
      · rw [if_pos hlast, ho]
        refine ⟨_, rfl, hon, hos, ?_⟩
        have hklast : k + 1 = l.length := last_index h.nodup hk (h.last.trans hlast)
        show some e = _
        rw [List.getElem?_append_right (by omega), hklast, Nat.sub_self]; rfl
      · rw [if_neg hlast]
        refine ⟨o, ho, hon, hos, ?_⟩
        have hk1 : k + 1 < l.length := not_last_index hk fun hl => hlast (h.last.symm.trans hl)
        rw [List.getElem?_append_left hk1]; exact hox
    · have hk0 : k = l.length := by
        have := (List.getElem?_eq_some_iff.1 hk).1
        rw [List.length_append, List.length_singleton] at this; omega
      subst hk0
      rw [List.getElem?_append_right (Nat.le_refl _), Nat.sub_self] at hk
      obtain rfl : e = j := Option.some.inj hk
      rw [howned, if_pos rfl]
      refine ⟨_, rfl, rfl, h.length.symm, ?_⟩
      show none = _
      rw [List.getElem?_eq_none (by simp)]

/-- The Free List's head, chained as a record's last extent, is in its place. -/
theorem Parted.chained {s : State} (h : Parted s.store) {c : Clip} (hc : c ∈ s.store.index)
    (hu : ∀ d ∈ s.store.index, d.number = c.number → d = c) {e : Nat} {fs : List Nat} (hf : s.store.free = e :: fs) :
    Parted (chainExtent c e s).store := by
  have hfe : s.store.extents[e]? = some Extent.free := (h.free e).1 (by rw [hf]; exact List.mem_cons_self ..)
  have he : e < s.store.extents.length := (List.getElem?_eq_some_iff.1 hfe).1
  have hne : ∀ d ∈ s.store.index, e ∉ s.store.chainOf d := fun d hd hed => by
    obtain ⟨o, ho, -⟩ := (h.placed hd).owned hed
    rw [owned_iff.1 ho] at hfe; cases hfe
  have hindex : (chainExtent c e s).store.index =
      s.store.index.map fun d => if d.number = c.number then c.chained e else d := by
    rw [chainExtent_eq]
    refine List.map_congr_left fun d hd => ?_
    split
    · next hn => rw [hu d hd hn]
    · rfl
  have hfree : (chainExtent c e s).store.free = fs := by
    rw [chainExtent_eq]; show s.store.free.drop 1 = fs; rw [hf]; rfl
  have hnd := h.nodup
  rw [hf] at hnd
  obtain ⟨hefs, hfs⟩ := List.nodup_cons.1 hnd
  refine h.rechain hc hu ((h.placed hc).chained he (hne c hc)) hindex ?_ (hfree ▸ hfs) (fun i => ?_)
    (fun i hic hil => ?_) (fun i hic hil => absurd (List.mem_append_left _ hic) hil) (fun d hd hdn i hid hil => ?_)
  · rw [chainExtent_eq]
    show ((s.store.linkTo c e).set e _).length = s.store.count
    rw [List.length_set, linkTo_length]; exact h.size
  · rw [hfree, free_chainExtent he, ← h.free, hf, List.mem_cons]
    exact ⟨fun hi => ⟨fun hie => hefs (hie ▸ hi), .inr hi⟩, fun ⟨hie, hi⟩ => hi.resolve_left hie⟩
  · rw [owned_chainExtent he, if_neg fun hie => hil (by simp [hie]), if_neg fun hl => hic ?_]
    exact List.mem_of_getLast? ((h.placed hc).last.trans hl)
  · obtain hil | hil := List.mem_append.1 hil
    · exact hdn ((h.placed hd).number_eq (h.placed hc) hid hil)
    · exact hne d hd (List.mem_singleton.1 hil ▸ hid)
end Sys2Proof.Machine

/-! PROOF. The last extent of a chain leaves it: BAD, and the one before it without a next (R121). -/

namespace Sys2Proof.Machine

/-! ### An extent leaves -/

/-- Neighbours of a chain name each other. -/
theorem chain_next {st : Store} {n : Nat} {i : Option Nat} {k a b : Nat} (ha : (st.chain n i)[k]? = some a)
    (hb : (st.chain n i)[k + 1]? = some b) : (st.owned a).bind Owned.next = some b := by
  induction n generalizing i k with
  | zero => rw [chain_zero] at ha; cases ha
  | succ n ih =>
    cases i with
    | none => rw [chain_none] at ha; cases ha
    | some i =>
      rw [chain_some] at ha hb
      cases k with
      | zero =>
        obtain rfl : i = a := Option.some.inj ha
        cases hx : (st.owned i).bind Owned.next with
        | none => rw [hx, chain_none] at hb; cases hb
        | some x =>
          rw [hx] at hb
          cases n with
          | zero => rw [chain_zero] at hb; cases hb
          | succ n => exact hb
      | succ k => exact ih ha hb

/-- The extent before the last one of a chain. -/
theorem prevOf_last {st : Store} {c : Clip} {l : List Nat} {e : Nat} (h : st.chainOf c = l ++ [e]) (he : e ∉ l)
    (hn : (st.owned e).bind Owned.next ≠ some e) : st.prevOf c e = l.getLast? := by
  have hchain : st.chain c.extentCount c.firstExtent = l ++ [e] := h
  unfold Store.prevOf
  rw [h, List.find?_append, List.find?_singleton, if_neg (by simpa using hn), Option.or_none]
  obtain rfl | ⟨m, p, rfl⟩ := List.eq_nil_or_concat' l
  · rfl
  · have hm : m.find? (fun j => (st.owned j).bind Owned.next = some e) = none := by
      refine List.find?_eq_none.2 fun a ha hx => ?_
      obtain ⟨k, hk⟩ := List.mem_iff_getElem?.1 ha
      have hlt := (List.getElem?_eq_some_iff.1 hk).1
      have hlt' : k + 1 < (m ++ [p]).length := by simp [hlt]
      have hka : (st.chain c.extentCount c.firstExtent)[k]? = some a := by
        rw [hchain, List.append_assoc, List.getElem?_append_left hlt]; exact hk
      have hkb : (st.chain c.extentCount c.firstExtent)[k + 1]? = some ((m ++ [p])[k + 1]) := by
        rw [hchain, List.getElem?_append_left hlt', List.getElem?_eq_getElem hlt']
      have hx' := chain_next hka hkb
      rw [of_decide_eq_true hx] at hx'
      exact he (Option.some.inj hx' ▸ List.getElem_mem hlt')
    have hp : (st.owned p).bind Owned.next = some e := by
      refine chain_next (k := m.length) (n := c.extentCount) (i := c.firstExtent) ?_ ?_ <;> rw [hchain] <;> simp
    rw [List.find?_append, hm, List.find?_singleton, if_pos (by simpa using hp)]
    simp

/-- The store after extent `e`, the last one, has left a chain, `prev` being the one before it. -/
def Store.unlinked (st : Store) (prev : Option Nat) (e : Nat) : List Extent :=
  match prev with
  | some p => (st.extents.set e .bad).modify p (Extent.mapOwned fun o => { o with next := none })
  | none => st.extents.set e .bad

/-- The record after its last extent has left, `prev` being the one before it and `p` the phase that it gives. -/
def Clip.unchained (prev : Option Nat) (p : Phase) (c : Clip) : Clip :=
  { c with extentCount := c.extentCount - 1, lastExtent := prev, phase := p,
           firstExtent := if prev.isSome then c.firstExtent else none }

/-- The phase of a clip whose last extent is `prev` after another has left. -/
def Store.phaseAfter (st : Store) (prev : Option Nat) : Phase :=
  match prev with
  | some p => if (st.owned p).any Owned.weak then .weak else .full
  | none => .none

theorem leaveChain_some {n e : Nat} {s : State} {c : Clip} (h : s.store.find n = some c) : leaveChain n e s =
    judgeStore (s.mapStore fun st =>
      { st with
        extents := st.unlinked (s.store.prevOf c e) e
        index := st.index.map fun d => if d.number = n then d.unchained (s.store.prevOf c e)
          ({ s.store with extents := s.store.unlinked (s.store.prevOf c e) e }.phaseAfter (s.store.prevOf c e)) else d }) := by
  unfold leaveChain Store.unlinked Store.phaseAfter
  rw [h]
  dsimp only
  cases s.store.prevOf c e <;> rfl

theorem unlinked_length (st : Store) (prev : Option Nat) (e : Nat) : (st.unlinked prev e).length = st.extents.length := by
  unfold Store.unlinked; cases prev <;> simp

/-- The entries after an extent has left: its own BAD, the one before it without a next, and every other as before. -/
theorem owned_unlinked {st : Store} {prev : Option Nat} {e : Nat} (he : e < st.extents.length) (hp : prev ≠ some e) (j : Nat) :
    ({ st with extents := st.unlinked prev e } : Store).owned j =
      if j = e then none else if prev = some j then (st.owned j).map fun o => { o with next := none } else st.owned j := by
  have hset := owned_set (x := .bad) he (j := j)
  cases hprev : prev with
  | none => rw [if_neg (c := none = some j) nofun]; exact hset
  | some p =>
    refine (owned_updateOwned p (fun o => { o with next := none })
      (State.mapStore (fun _ => { st with extents := st.extents.set e .bad }) State.reset) j).trans ?_
    by_cases hj : j = e
    · rw [if_pos hj, if_neg (fun h => hp (by rw [hprev, ← h, hj]))]
      exact hset.trans (if_pos hj)
    · rw [if_neg hj]
      have hs : (State.mapStore (fun _ => { st with extents := st.extents.set e .bad }) State.reset).store.owned j = st.owned j :=
        hset.trans (if_neg hj)
      rw [hs]
      simp only [Option.some.injEq, eq_comm]

theorem free_unlinked {st : Store} {prev : Option Nat} {e : Nat} (he : e < st.extents.length) (j : Nat) :
    (st.unlinked prev e)[j]? = some Extent.free ↔ j ≠ e ∧ st.extents[j]? = some Extent.free := by
  have hset : (st.extents.set e .bad)[j]? = some Extent.free ↔ j ≠ e ∧ st.extents[j]? = some Extent.free := by
    by_cases h : j = e
    · subst h; rw [List.getElem?_set_self he]; simp
    · rw [List.getElem?_set_ne (Ne.symm h)]; simp [h]
  cases prev with
  | none => exact hset
  | some p =>
    exact (extents_updateOwned_free p _ (State.mapStore (fun _ => { st with extents := st.extents.set e .bad }) State.reset)
      j).trans hset

/-- A chain whose last extent has left ends with the one before it. -/
theorem Placed.unchained {st st' : Store} {c : Clip} {m : List Nat} {e : Nat} (h : Placed st c (m ++ [e])) (p : Phase)
    (ho : ∀ j ∈ m, st'.owned j = if m.getLast? = some j then (st.owned j).map fun o => { o with next := none } else st.owned j) :
    Placed st' (c.unchained m.getLast? p) m := by
  have hnd := (List.nodup_append.1 h.nodup).1
  refine placed_iff.2 ⟨?_, ?_, rfl, hnd, fun k j hk => ?_⟩
  · show m.length = c.extentCount - 1
    rw [← h.length]; simp
  · show m.head? = if m.getLast?.isSome then c.firstExtent else none
    rw [← h.head]
    cases m with
    | nil => rfl
    | cons a m => simp
  · have hlt := (List.getElem?_eq_some_iff.1 hk).1
    obtain ⟨o, hoj, hon, hos, hox⟩ := h.runs k j (by rw [List.getElem?_append_left hlt]; exact hk)
    rw [ho j (List.mem_of_getElem? hk)]
    by_cases hlast : m.getLast? = some j
    · rw [if_pos hlast, hoj]
      refine ⟨_, rfl, hon, hos, ?_⟩
      have := last_index hnd hk hlast
      show none = _
      rw [List.getElem?_eq_none (by omega)]
    · rw [if_neg hlast]
      refine ⟨o, hoj, hon, hos, ?_⟩
      rw [hox, List.getElem?_append_left (not_last_index hk hlast)]

/-- The last extent of a chain, BAD and out of it, leaves the others in their places. -/
theorem Parted.unchained {st : Store} (h : Parted st) {c : Clip} (hc : c ∈ st.index)
    (hu : ∀ d ∈ st.index, d.number = c.number → d = c) {e : Nat} (hl : c.lastExtent = some e) (p : Phase) :
    Parted { st with
      extents := st.unlinked (st.prevOf c e) e
      index := st.index.map fun d => if d.number = c.number then d.unchained (st.prevOf c e) p else d } := by
  have hpc := h.placed hc
  obtain ⟨m, hm⟩ : ∃ m, st.chainOf c = m ++ [e] := by
    have hlast := hpc.last
    rw [hl, List.getLast?_eq_some_iff] at hlast
    exact hlast
  have hpm : Placed st c (m ++ [e]) := hm ▸ hpc
  have hem : e ∉ m := fun he => (List.nodup_append.1 hpm.nodup).2.2 e he e (List.mem_singleton_self e) rfl
  obtain ⟨oe, hoe, -, -, hoex⟩ := hpm.runs m.length e (by simp)
  have hprev : st.prevOf c e = m.getLast? := prevOf_last hm hem (by rw [hoe]; simp [hoex])
  have helt := owned_lt hoe
  have howned := owned_unlinked helt (prev := m.getLast?) fun hx => hem (List.mem_of_getLast? hx)
  rw [hprev]
  refine h.rechain hc hu (c' := c.unchained m.getLast? p)
    (hpm.unchained p fun j hj => (howned j).trans (if_neg fun hje : j = e => hem (hje ▸ hj))) ?_
    ((unlinked_length st _ e).trans h.size) h.nodup (fun i => ?_) (fun i hic him => ?_) (fun i hic him => ?_)
    (fun d hd hdn i hid him => hdn ((h.placed hd).number_eq hpc hid (hm ▸ List.mem_append_left _ him)))
  · refine List.map_congr_left fun d hd => ?_
    split
    · next hn => rw [hu d hd hn]
    · rfl
  · show i ∈ st.free ↔ (st.unlinked m.getLast? e)[i]? = some Extent.free
    rw [free_unlinked helt, ← h.free]
    refine ⟨fun hi => ⟨fun hie => ?_, hi⟩, fun hi => hi.2⟩
    have h1 := (h.free i).1 hi
    rw [hie, owned_iff.1 hoe] at h1; cases h1
  · rw [hm] at hic
    exact (howned i).trans ((if_neg fun hie => hic (by simp [hie])).trans
      (if_neg fun hil => him (List.mem_of_getLast? hil)))
  · rw [hm] at hic
    exact (howned i).trans (if_pos (List.mem_singleton.1 ((List.mem_append.1 hic).resolve_left him)))
end Sys2Proof.Machine

/-! PROOF. The store that a scan rebuilds: the candidates, the kept chains, the entries and the Free List (R87, R88). -/

namespace Sys2Proof.Machine

/-! ### Candidates -/

theorem mem_validFrom {i j : Nat} {t : TrailerInfo} {found : List Finding} :
    (i, t) ∈ validFrom j found ↔ j ≤ i ∧ found[i - j]? = some (.valid t) := by
  induction found generalizing j with
  | nil => simp [validFrom]
  | cons f fs ih =>
    have hstep : (j + 1 ≤ i ∧ fs[i - (j + 1)]? = some (.valid t)) ↔ (j ≤ i ∧ i ≠ j ∧ (f :: fs)[i - j]? = some (.valid t)) := by
      constructor
      · rintro ⟨h1, h2⟩
        refine ⟨by omega, by omega, ?_⟩
        rw [show i - j = (i - (j + 1)) + 1 by omega]; exact h2
      · rintro ⟨h1, h2, h3⟩
        refine ⟨by omega, ?_⟩
        rw [show i - j = (i - (j + 1)) + 1 by omega] at h3; exact h3
    have hhead : ∀ g : Finding, (g :: fs)[j - j]? = some g := fun g => by simp
    cases f with
    | bad =>
      show (i, t) ∈ validFrom (j + 1) fs ↔ _
      rw [ih, hstep]
      refine ⟨fun h => ⟨h.1, h.2.2⟩, fun h => ⟨h.1, fun hij => ?_, h.2⟩⟩
      obtain ⟨-, h2⟩ := h; rw [hij, hhead] at h2; cases h2
    | invalid =>
      show (i, t) ∈ validFrom (j + 1) fs ↔ _
      rw [ih, hstep]
      refine ⟨fun h => ⟨h.1, h.2.2⟩, fun h => ⟨h.1, fun hij => ?_, h.2⟩⟩
      obtain ⟨-, h2⟩ := h; rw [hij, hhead] at h2; cases h2
    | valid u =>
      show (i, t) ∈ (j, u) :: validFrom (j + 1) fs ↔ _
      rw [List.mem_cons, ih, hstep, Prod.mk.injEq]
      constructor
      · rintro (⟨rfl, rfl⟩ | h)
        · exact ⟨le_rfl, hhead _⟩
        · exact ⟨h.1, h.2.2⟩
      · rintro ⟨h1, h2⟩
        by_cases hij : i = j
        · subst hij
          rw [hhead] at h2
          exact .inl ⟨rfl, by simpa using h2.symm⟩
        · exact .inr ⟨h1, hij, h2⟩

theorem trailerIn_iff {found : List Finding} {e : Nat} {t : TrailerInfo} :
    trailerIn found e = some t ↔ found[e]? = some (.valid t) := by
  unfold trailerIn
  split
  · next u h => rw [h]; simp
  · next h => simp only [reduceCtorEq, false_iff]; exact h t

theorem mem_valid {found : List Finding} {k : Candidate} : k ∈ validFrom 0 found ↔ trailerIn found k.1 = some k.2 := by
  obtain ⟨i, t⟩ := k
  rw [mem_validFrom, trailerIn_iff]; simp

theorem mem_candidatesOf {found : List Finding} {k : Candidate} :
    k ∈ candidatesOf found ↔ trailerIn found k.1 = some k.2 ∧ 0 < k.2.data := by
  unfold candidatesOf
  rw [List.mem_filter, mem_valid, decide_eq_true_eq]

theorem nodup_validFrom (found : List Finding) (j : Nat) : (validFrom j found).Nodup := by
  induction found generalizing j with
  | nil => exact .nil
  | cons f fs ih =>
    cases f with
    | bad => exact ih _
    | invalid => exact ih _
    | valid t => exact List.nodup_cons.2 ⟨fun h => by have := (mem_validFrom.1 h).1; omega, ih _⟩

theorem filter_eq_singleton {α : Type} {l : List α} {p : α → Bool} {a : α} (hn : l.Nodup) :
    l.filter p = [a] ↔ a ∈ l ∧ p a = true ∧ ∀ b ∈ l, p b = true → b = a := by
  constructor
  · intro h
    have hm : a ∈ l.filter p := by rw [h]; exact List.mem_singleton_self a
    obtain ⟨ha, hp⟩ := List.mem_filter.1 hm
    refine ⟨ha, hp, fun b hb hpb => ?_⟩
    have hb' : b ∈ l.filter p := List.mem_filter.2 ⟨hb, hpb⟩
    rw [h] at hb'; exact List.mem_singleton.1 hb'
  · rintro ⟨ha, hp, hu⟩
    refine List.Perm.eq_singleton ((List.perm_ext_iff_of_nodup (hn.filter p) (List.nodup_singleton a)).2 fun b => ?_)
    rw [List.mem_filter, List.mem_singleton]
    exact ⟨fun h => hu b h.1 h.2, fun h => h ▸ ⟨ha, hp⟩⟩

/-- The candidate that stands alone is the one that R87's first step names. -/
theorem soleCandidate_iff {found : List Finding} {n q e : Nat} {v : TrailerInfo} :
    soleCandidate (candidatesOf found) n q = some (e, v) ↔ SoleCandidate found n q e v := by
  have hs : soleCandidate (candidatesOf found) n q = some (e, v) ↔
      (candidatesOf found).filter (fun k => k.2.clip = n && k.2.seq = q) = [(e, v)] := by
    unfold soleCandidate
    split
    · next k hk => rw [hk]; simp
    · next h => simp only [reduceCtorEq, false_iff]; exact fun hx => h _ hx
  rw [hs, filter_eq_singleton (show (candidatesOf found).Nodup from (nodup_validFrom found 0).filter _)]
  unfold SoleCandidate
  simp only [mem_candidatesOf, Bool.and_eq_true, decide_eq_true_eq]
  constructor
  · rintro ⟨⟨h1, h2⟩, ⟨h3, h4⟩, hu⟩
    refine ⟨h1, h3, h4, h2, fun e' v' ht hc hq hd => ?_⟩
    exact congrArg Prod.fst (hu (e', v') ⟨ht, hd⟩ ⟨hc, hq⟩)
  · rintro ⟨h1, h3, h4, h2, hu⟩
    refine ⟨⟨h1, h2⟩, ⟨h3, h4⟩, fun ⟨e', v'⟩ ⟨ht, hd⟩ ⟨hc, hq⟩ => ?_⟩
    obtain rfl := hu e' v' ht hc hq hd
    exact Prod.ext rfl (Option.some.inj (ht.symm.trans h1))

/-! ### Kept chains -/

/-- What stands at each place of a kept chain: the sole candidate of its sequence, that names the kept extent before it, behind
trailers that are not final. -/
theorem keptChain_get {cs : List Candidate} {n f q j : Nat} {prev : Option Nat} {k : Candidate}
    (h : (keptChain cs n f q prev)[j]? = some k) : soleCandidate cs n (q + j) = some k ∧
      (j = 0 → q = 0 ∨ k.2.prev = prev) ∧
      (∀ i p, j = i + 1 → (keptChain cs n f q prev)[i]? = some p → k.2.prev = some p.1 ∧ p.2.final = false) := by
  induction f generalizing q prev j with
  | zero => simp [keptChain] at h
  | succ f ih =>
    obtain he | ⟨x, hx, hp, he⟩ := keptChain_succ cs n f q prev
    · rw [he] at h; simp at h
    · rw [he] at h ⊢
      cases j with
      | zero =>
        obtain rfl : x = k := by simpa using h
        exact ⟨hx, fun _ => hp, fun i p hi => by omega⟩
      | succ j =>
        rw [List.getElem?_cons_succ] at h
        split at h
        · simp at h
        · next hf =>
          obtain ⟨h1, h2, h3⟩ := ih h
          refine ⟨by rw [show q + (j + 1) = q + 1 + j by omega]; exact h1, fun h0 => by omega, fun i p hi hip => ?_⟩
          obtain rfl : i = j := by omega
          cases i with
          | zero =>
            obtain rfl : x = p := by simpa using hip
            have hprev := (h2 rfl).resolve_left (by omega)
            exact ⟨hprev, by simpa using hf⟩
          | succ i =>
            rw [List.getElem?_cons_succ, if_neg hf] at hip
            exact h3 i p rfl hip

/-- A kept chain ends where no candidate may follow, or its fuel ends. -/
theorem keptChain_end {cs : List Candidate} {n f q : Nat} {prev : Option Nat} {k : Candidate}
    (h : soleCandidate cs n (q + (keptChain cs n f q prev).length) = some k) :
    (keptChain cs n f q prev).length = f ∨
      (∃ p, (keptChain cs n f q prev).getLast? = some p ∧ (p.2.final = true ∨ k.2.prev ≠ some p.1)) ∨
      (keptChain cs n f q prev = [] ∧ q ≠ 0 ∧ k.2.prev ≠ prev) := by
  induction f generalizing q prev with
  | zero => exact .inl rfl
  | succ f ih =>
    by_cases hnil : keptChain cs n (f + 1) q prev = []
    · rw [hnil, List.length_nil, Nat.add_zero] at h
      refine .inr (.inr ⟨hnil, ?_⟩)
      rw [keptChain, h] at hnil
      dsimp only at hnil
      split at hnil
      · cases hnil
      · next hc => exact not_or.1 hc
    · obtain he | ⟨x, hx, hp, he⟩ := keptChain_succ cs n f q prev
      · exact absurd he hnil
      · by_cases hf : x.2.final = true
        · rw [if_pos hf] at he
          exact .inr (.inl ⟨x, by rw [he]; rfl, .inl hf⟩)
        · rw [if_neg hf] at he
          rw [he] at h ⊢
          rw [List.length_cons, show q + ((keptChain cs n f (q + 1) (some x.1)).length + 1) =
            q + 1 + (keptChain cs n f (q + 1) (some x.1)).length by omega] at h
          obtain hl | ⟨p, hpl, hpp⟩ | ⟨hn, -, hpv⟩ := ih h
          · exact .inl (by rw [List.length_cons, hl])
          · refine .inr (.inl ⟨p, ?_, hpp⟩)
            rw [List.getLast?_cons, hpl]; rfl
          · exact .inr (.inl ⟨x, by rw [hn]; rfl, .inr hpv⟩)

section
variable {found : List Finding} {n : Nat}

/-- What stands at each place of the chain kept of a clip. -/
theorem keptOf_get {j : Nat} {k : Candidate} (h : (keptOf found n)[j]? = some k) :
    trailerIn found k.1 = some k.2 ∧ k.2.clip = n ∧ k.2.seq = j ∧ 0 < k.2.data := by
  obtain ⟨h1, -, -⟩ := keptChain_get h
  rw [Nat.zero_add] at h1
  obtain ⟨hm, hc, hq⟩ := soleCandidate_mem h1
  obtain ⟨ht, hd⟩ := mem_candidatesOf.1 hm
  exact ⟨ht, hc, hq, hd⟩

/-- An extent stands once, in one kept chain. -/
theorem keptOf_inj {m i j : Nat} {k k' : Candidate} (h : (keptOf found n)[i]? = some k) (h' : (keptOf found m)[j]? = some k')
    (hk : k.1 = k'.1) : n = m ∧ i = j ∧ k = k' := by
  obtain ⟨ht, hc, hq, -⟩ := keptOf_get h
  obtain ⟨ht', hc', hq', -⟩ := keptOf_get h'
  rw [hk, ht'] at ht
  have h2 : k'.2 = k.2 := Option.some.inj ht
  refine ⟨by rw [← hc, ← hc', h2], by rw [← hq, ← hq', h2], Prod.ext hk h2.symm⟩

/-- The extents of the chain kept of a clip. -/
def keptExtents (found : List Finding) (n : Nat) : List Nat := (keptOf found n).map Prod.fst

theorem keptExtents_get {j e : Nat} (h : (keptExtents found n)[j]? = some e) :
    ∃ t, (keptOf found n)[j]? = some (e, t) := by
  unfold keptExtents at h
  rw [List.getElem?_map] at h
  obtain ⟨k, hk, rfl⟩ := Option.map_eq_some_iff.1 h
  exact ⟨k.2, hk⟩

theorem keptExtents_nodup : (keptExtents found n).Nodup := by
  refine List.nodup_iff_injective_getElem.2 fun ⟨i, hi⟩ ⟨j, hj⟩ h => ?_
  dsimp only at h
  obtain ⟨t, ht⟩ := keptExtents_get (List.getElem?_eq_getElem hi)
  obtain ⟨u, hu⟩ := keptExtents_get (List.getElem?_eq_getElem hj)
  exact Fin.ext (keptOf_inj ht hu h).2.1

end

/-! ### The entries -/

/-- The entry at each place of a chain. -/
theorem chainEntries_get {ch : List Candidate} {j : Nat} {x : Nat × Owned} : (chainEntries ch)[j]? = some x ↔
    ∃ k, ch[j]? = some k ∧ x = (k.1, ⟨decide (k.2.data < Config.dataPositions ∧ j + 1 < ch.length), k.2.clip, k.2.seq,
      (ch[j + 1]?).map Prod.fst, k.2.data⟩) := by
  induction ch generalizing j with
  | nil => simp [chainEntries]
  | cons k ch ih =>
    cases ch with
    | nil =>
      cases j with
      | zero => simp [chainEntries, eq_comm]
      | succ j => simp [chainEntries]
    | cons l ch =>
      cases j with
      | zero => simp [chainEntries, eq_comm]
      | succ j =>
        show (chainEntries (l :: ch))[j]? = some x ↔ _
        rw [ih]
        simp

/-- The entries of the kept chains, one for each extent. -/
theorem mem_keptEntries {found : List Finding} {x : Nat × Owned} : x ∈ (keptChains found).flatMap chainEntries ↔
    ∃ n j k, keptOf found n ∈ keptChains found ∧ (keptOf found n)[j]? = some k ∧
      x = (k.1, ⟨decide (k.2.data < Config.dataPositions ∧ j + 1 < (keptOf found n).length), k.2.clip, k.2.seq,
        (keptOf found n)[j + 1]?.map Prod.fst, k.2.data⟩) := by
  rw [List.mem_flatMap]
  constructor
  · rintro ⟨ch, hch, hx⟩
    obtain ⟨-, n, rfl⟩ := mem_keptChains hch
    obtain ⟨j, hj⟩ := List.mem_iff_getElem?.1 hx
    obtain ⟨k, hk, hx⟩ := chainEntries_get.1 hj
    exact ⟨n, j, k, hch, hk, hx⟩
  · rintro ⟨n, j, k, hch, hk, hx⟩
    exact ⟨_, hch, List.mem_iff_getElem?.2 ⟨j, chainEntries_get.2 ⟨k, hk, hx⟩⟩⟩

theorem keptEntries_inj {found : List Finding} {x y : Nat × Owned} (hx : x ∈ (keptChains found).flatMap chainEntries)
    (hy : y ∈ (keptChains found).flatMap chainEntries) (h : x.1 = y.1) : x = y := by
  obtain ⟨n, i, k, -, hk, rfl⟩ := mem_keptEntries.1 hx
  obtain ⟨m, j, k', -, hk', rfl⟩ := mem_keptEntries.1 hy
  obtain ⟨rfl, rfl, rfl⟩ := keptOf_inj hk hk' h
  rfl

theorem rebuiltExtents_get (owned : List (Nat × Owned)) (i j : Nat) (found : List Finding) :
    (rebuiltExtents owned i found)[j]? = found[j]?.map fun f =>
      if f = .bad then .bad else match owned.find? fun k => k.1 = i + j with
        | some k => .owned k.2
        | none => .free := by
  induction found generalizing i j with
  | nil => simp [rebuiltExtents]
  | cons f fs ih =>
    cases j with
    | zero => rfl
    | succ j =>
      show (rebuiltExtents owned (i + 1) fs)[j]? = fs[j]?.map _
      rw [ih, show i + 1 + j = i + (j + 1) by omega]

theorem rebuiltExtents_length (owned : List (Nat × Owned)) (i : Nat) (found : List Finding) :
    (rebuiltExtents owned i found).length = found.length := by
  induction found generalizing i with
  | nil => rfl
  | cons f fs ih => exact congrArg (· + 1) (ih (i + 1))

theorem freeFrom_eq (a : Nat) (es : List Extent) :
    freeFrom a es = ((List.range es.length).filter fun i => es[i]? = some .free).map (a + ·) := by
  induction es generalizing a with
  | nil => rfl
  | cons e es ih =>
    have hs : ((List.range es.length).map Nat.succ).filter (fun i => (e :: es)[i]? = some .free) =
        ((List.range es.length).filter fun i => es[i]? = some .free).map Nat.succ := by
      rw [List.filter_map]; rfl
    have hm : ∀ l : List Nat, (l.map Nat.succ).map (a + ·) = l.map (a + 1 + ·) := fun l => by
      rw [List.map_map]; exact List.map_congr_left fun i _ => by simp only [Function.comp_apply]; omega
    rw [List.length_cons, List.range_succ_eq_map, List.filter_cons, hs]
    cases e with
    | free => simp only [freeFrom, ih (a + 1), List.getElem?_cons_zero, decide_true, if_true, List.map_cons, hm, Nat.add_zero]
    | bad => simp [freeFrom, ih (a + 1), hm]
    | owned o => simp [freeFrom, ih (a + 1), hm]

/-! ### The rebuilt map -/

section
variable {found : List Finding}

theorem rebuiltMap_length : (rebuiltMap found).length = found.length := rebuiltExtents_length _ _ _

theorem rebuiltMap_get (i : Nat) : (rebuiltMap found)[i]? = found[i]?.map fun f =>
    if f = .bad then .bad else match ((keptChains found).flatMap chainEntries).find? fun k => k.1 = i with
      | some k => .owned k.2
      | none => .free := by
  unfold rebuiltMap
  rw [rebuiltExtents_get, Nat.zero_add]

theorem rebuiltMap_bad (i : Nat) : (rebuiltMap found)[i]? = some .bad ↔ found[i]? = some .bad := by
  rw [rebuiltMap_get]
  cases found[i]? with
  | none => simp
  | some f =>
    simp only [Option.map_some, Option.some.injEq]
    constructor
    · intro h
      split at h
      · assumption
      · split at h <;> cases h
    · intro h; rw [if_pos h]

/-- An entry is OWNED exactly at the places of the kept chains. -/
theorem rebuiltMap_owned (i : Nat) (o : Owned) : (rebuiltMap found)[i]? = some (.owned o) ↔
    (i, o) ∈ (keptChains found).flatMap chainEntries := by
  rw [rebuiltMap_get]
  constructor
  · intro h
    obtain ⟨f, -, hf⟩ := Option.map_eq_some_iff.1 h
    split at hf
    · cases hf
    · split at hf
      · next k hk =>
        obtain rfl : k.2 = o := by simpa using hf
        have hm := List.mem_of_find?_eq_some hk
        have hi : k.1 = i := by simpa using List.find?_some hk
        rw [← hi]; exact hm
      · cases hf
  · intro h
    obtain ⟨n, j, k, -, hk, hx⟩ := mem_keptEntries.1 h
    obtain rfl : i = k.1 := congrArg Prod.fst hx
    obtain ⟨ht, -⟩ := keptOf_get hk
    rw [trailerIn_iff.1 ht]
    have hf : ((keptChains found).flatMap chainEntries).find? (fun x => x.1 = k.1) = some (k.1, o) := by
      cases hx : ((keptChains found).flatMap chainEntries).find? (fun x => x.1 = k.1) with
      | none => exact absurd (List.find?_eq_none.1 hx _ h) (by simp)
      | some y =>
        rw [keptEntries_inj (List.mem_of_find?_eq_some hx) h (by simpa using List.find?_some hx)]
    simp [hf]

theorem rebuilt_owned (st : Store) (i : Nat) (o : Owned) : (st.rebuilt found).owned i = some o ↔
    (i, o) ∈ (keptChains found).flatMap chainEntries := owned_iff.trans (rebuiltMap_owned i o)

/-- The entry of an extent of a kept chain. -/
theorem rebuilt_owned_get {st : Store} {n : Nat} (hn : keptOf found n ∈ keptChains found) {j e : Nat} {t : TrailerInfo}
    (h : (keptOf found n)[j]? = some (e, t)) : (st.rebuilt found).owned e =
      some ⟨decide (t.data < Config.dataPositions ∧ j + 1 < (keptExtents found n).length), n, j, (keptExtents found n)[j + 1]?,
        t.data⟩ := by
  obtain ⟨-, hc, hq, -⟩ := keptOf_get h
  rw [rebuilt_owned, mem_keptEntries]
  refine ⟨n, j, (e, t), hn, h, ?_⟩
  unfold keptExtents
  rw [List.length_map, List.getElem?_map]
  simp only at hc hq
  rw [hc, hq]

/-- The chain of a record of the rebuilt index is the one kept of its number. -/
theorem placed_rebuilt (st : Store) {c : Clip} (hc : c ∈ rebuiltIndex found) :
    Placed (st.rebuilt found) c (keptExtents found c.number) := by
  obtain ⟨hch, hr⟩ := mem_rebuiltIndex hc
  obtain ⟨first, last, hf, hl, hce⟩ := rebuiltClip_some hr
  refine placed_iff.2 ⟨?_, ?_, ?_, keptExtents_nodup, fun j e he => ?_⟩
  · exact (List.length_map ..).trans (congrArg Clip.extentCount hce).symm
  · refine Eq.trans ?_ (congrArg Clip.firstExtent hce).symm
    unfold keptExtents
    rw [List.head?_map, hf]; rfl
  · refine Eq.trans ?_ (congrArg Clip.lastExtent hce).symm
    unfold keptExtents
    rw [List.getLast?_map, hl]; rfl
  · obtain ⟨t, ht⟩ := keptExtents_get he
    exact ⟨_, rebuilt_owned_get hch ht, rfl, rfl, rfl⟩

/-- A kept chain has its record. -/
theorem keptChains_record {n : Nat} (h : keptOf found n ∈ keptChains found) : ∃ c ∈ rebuiltIndex found, c.number = n := by
  obtain ⟨c, hc⟩ := rebuiltClip_isSome (mem_keptChains h).1
  refine ⟨c, ?_, rebuiltClip_number hc⟩
  unfold rebuiltIndex
  exact List.mem_filterMap.2 ⟨_, h, hc⟩

theorem rebuilt_free (st : Store) : (st.rebuilt found).free =
    (List.range found.length).filter fun i => (st.rebuilt found).extents[i]? = some .free := by
  show freeFrom 0 (rebuiltMap found) = (List.range found.length).filter fun i => (rebuiltMap found)[i]? = some .free
  rw [freeFrom_eq, rebuiltMap_length]
  simp

/-- Every extent of a rebuilt store is in one place. -/
theorem parted_rebuilt {st : Store} (h : found.length = st.count) : Parted (st.rebuilt found) where
  size := rebuiltMap_length.trans h
  nodup := by rw [rebuilt_free]; exact List.nodup_range.filter _
  free i := by
    rw [rebuilt_free, List.mem_filter, List.mem_range, decide_eq_true_eq]
    refine ⟨fun hi => hi.2, fun hi => ⟨?_, hi⟩⟩
    rw [← rebuiltMap_length (found := found)]
    exact (List.getElem?_eq_some_iff.1 hi).1
  chains c hc := ⟨_, placed_rebuilt st (by rw [rebuilt_index] at hc; exact hc)⟩
  owners i o hio := by
    obtain ⟨n, j, k, hch, hk, hx⟩ := mem_keptEntries.1 ((rebuilt_owned st i o).1 hio)
    obtain ⟨c, hc, rfl⟩ := keptChains_record hch
    obtain ⟨rfl, rfl⟩ := Prod.mk.inj hx
    obtain ⟨-, hcl, -, -⟩ := keptOf_get hk
    exact ⟨c, by rw [rebuilt_index]; exact hc, hcl.symm, _, placed_rebuilt st hc,
      List.mem_map_of_mem (List.mem_of_getElem? hk)⟩
end
end Sys2Proof.Machine

/-! PROOF. Directives of the clip store: their answer and their effect, and rest beside an IDLE writer. -/

namespace Sys2Proof.Machine

/-! ### What an answer leaves of the rest -/

section
variable (a : Answer) (s : State)

theorem sent_mapStore (f : Store → Store) : sent a (s.mapStore f) = (sent a s).mapStore f := by
  unfold sent; rw [show atOnce (s.mapStore f) = atOnce s from rfl]; split <;> rfl

@[simp] theorem sent_store : (sent a s).store = s.store := by unfold sent; split <;> rfl
@[simp] theorem sent_intake : (sent a s).intake = s.intake := by unfold sent; split <;> rfl
@[simp] theorem sent_card : (sent a s).card = s.card := by unfold sent; split <;> rfl
@[simp] theorem sent_trig : (sent a s).trig = s.trig := by unfold sent; split <;> rfl
@[simp] theorem sent_thermal : (sent a s).thermal = s.thermal := by unfold sent; split <;> rfl
@[simp] theorem sent_counters : (sent a s).counters = s.counters := by unfold sent; split <;> rfl
@[simp] theorem sent_partTime : (sent a s).partTime = s.partTime := by unfold sent; split <;> rfl
@[simp] theorem sent_reports : (sent a s).link.reports = s.link.reports := by unfold sent; split <;> rfl
end

section
variable (dt code : Nat) (tag : Byte) (ac : AnswerCode) (data : Bytes) (s : State)
@[simp] theorem answered_store : (answered dt code tag ac data s).store = s.store := sent_store ..
@[simp] theorem answered_intake : (answered dt code tag ac data s).intake = s.intake := sent_intake ..
@[simp] theorem answered_card : (answered dt code tag ac data s).card = s.card := sent_card ..
@[simp] theorem answered_trig : (answered dt code tag ac data s).trig = s.trig := sent_trig ..
@[simp] theorem answered_thermal : (answered dt code tag ac data s).thermal = s.thermal := sent_thermal ..
@[simp] theorem answered_counters : (answered dt code tag ac data s).counters = s.counters := sent_counters ..
@[simp] theorem answered_partTime : (answered dt code tag ac data s).partTime = s.partTime + dt := sent_partTime ..
@[simp] theorem answered_reports : (answered dt code tag ac data s).link.reports = s.link.reports := sent_reports ..
end

section
variable {dt code n : Nat} {tag : Byte} {p : Bytes} {f : State → State} {s t : State} (h : Ready s)
include h

theorem Ready.rest_answered (ac : AnswerCode) (data : Bytes) : AtRest (answered dt code tag ac data s) :=
  (h.2.tick dt).sent h.1.2.2.2

/-- An owner's answer, of a part that is ready. -/
theorem Ready.answer_eq (ac : AnswerCode) (data : Bytes) :
    answer code tag ac data (s.tick dt) = answered dt code tag ac data s :=
  enqueueAnswer_of_departed (h.2.tick dt).2.2 (h.2.tick dt).2.1 h.1.2.2.2

/-- A directive of a fixed length is what its owner makes of it. -/
theorem Ready.directive_eq (hn : p.length = n) (hb : n ≤ 100) :
    directive code (some n) tag p f (s.tick dt) = f (s.tick dt) :=
  directive_taken h.1.2.1 h.1.2.2.1 (Nat.lt_of_succ_lt h.1.2.2.2)
    (by rw [hn]; unfold Config.directiveHeaderBytes Config.bodyLimit; omega)
    fun m hm => by rw [hn]; exact Option.some.inj hm

/-- A directive whose owner leads to rest. -/
theorem Ready.takes (hn : p.length = n) (hb : n ≤ 100) (hf : f (s.tick dt) = t) (ht : AtRest t) :
    act dt (directive code (some n) tag p f) s = .next t :=
  ht.act h.1.1 ((h.directive_eq hn hb).trans hf)

/-- A directive that is answered before its effect is made (R176, LOG 19), and leads to rest. -/
theorem Ready.answers_then {g : State → AnswerCode × State} {ac : AnswerCode} (hn : p.length = n) (hb : n ≤ 100)
    (hc : (g (s.tick dt)).1 = ac) (hg : (g (answered dt code tag ac [] s)).2 = t) (ht : AtRest t) :
    act dt (directive code (some n) tag p (answerThen code tag g)) s = .next t := by
  refine h.takes hn hb ?_ ht
  unfold answerThen
  rw [hc, h.answer_eq, hg]

/-- Such a directive whose effect is nothing. -/
theorem Ready.refuses_then {g : State → AnswerCode × State} {ac : AnswerCode} (hn : p.length = n) (hb : n ≤ 100)
    (hc : (g (s.tick dt)).1 = ac)
    (hg : (g (answered dt code tag ac [] s)).2 = answered dt code tag ac [] s) :
    act dt (directive code (some n) tag p (answerThen code tag g)) s = .next (answered dt code tag ac [] s) :=
  h.answers_then hn hb hc hg (h.rest_answered ac [])
end

/-! ### Rest beside an IDLE writer -/

/-- Beside an IDLE writer only a CLOSING record and the claims that are not the writer's give work. -/
theorem pumpStep_of_idle {s : State} (hw : s.store.writer = .idle) : pumpStep s = none ↔ emptyClosing s = [] ∧
    (s.card.state = .idle → updateClaim s = false ∧ scanClaim s = false ∧ passClaim s = false) := by
  have hfree : writerFree s = false := by simp [writerFree, hw]
  have hdue : writerClass s = none := by simp [writerClass, dueWrite, hfree]
  have hclaims : claimClasses s = [] ↔ updateClaim s = false ∧ scanClaim s = false ∧ passClaim s = false := by
    unfold claimClasses claimList
    rw [hdue]
    cases updateClaim s <;> cases scanClaim s <;> cases passClaim s <;> simp
  rw [pumpStep_eq_none_iff, ne_eq, hclaims]
  simp [closeWork, flushSpent, allocationDue, hfree, hw]

theorem emptyClosing_of_closed {s : State} (h : ∀ c ∈ s.store.index, c.state = .closed) : emptyClosing s = [] :=
  (emptyClosing_eq_nil_iff s).2 fun c hc hs => absurd ((h c hc).symm.trans hs) nofun

/-- A part at rest has no claim pending at an IDLE card, beside an IDLE writer. -/
theorem AtRest.no_claims {s : State} (h : AtRest s) (hw : s.store.writer = .idle) (hc : s.card.state = .idle) :
    updateClaim s = false ∧ scanClaim s = false ∧ passClaim s = false :=
  ((pumpStep_of_idle hw).1 ((settleStep_eq_none_iff s).1 h.1).2).2 hc

/-- A part at rest whose store and card change beside an IDLE writer stays at rest, where no record is to be removed and no
claim pending. -/
theorem AtRest.at_idle {s t : State} (h : AtRest s) (hs : s.store.writer ≠ .emergency) (hw : t.store.writer = .idle)
    (he : emptyClosing t = [])
    (hk : t.card.state = .idle → updateClaim t = false ∧ scanClaim t = false ∧ passClaim t = false)
    (hm : t.store.tab = s.store.tab) (hi : t.intake = s.intake) (ht : t.trig.waiting = s.trig.waiting)
    (ho : t.outbox = s.outbox) : AtRest t := by
  refine ⟨(settleStep_eq_none_iff t).2 ⟨ht.trans h.waiting, (pumpStep_of_idle hw).2 ⟨he, hk⟩⟩, ?_,
    (outbox_congr ho).2.1.trans h.2.2⟩
  refine judgeHold_of_bufCause h.2.1 ?_ (outbox_congr ho).2.2 (by rw [hi]; exact ⟨rfl, rfl, rfl⟩)
  rw [bufCauseNow_congr (s := s) hs (by rw [hw]; nofun) (by rw [hi]) (by rw [hi]) hm]
  exact ((judgeHold_eq_self_iff s).1 h.2.1).1.symm

/-- Such a part whose store alone changes, where no read of a scan waits. -/
theorem AtRest.beside_idle {s t : State} (h : AtRest s) (hs : s.store.writer = .idle) (hw : t.store.writer = .idle)
    (he : emptyClosing t = []) (hk : t.card.state = .idle → scanClaim t = false) (hm : t.store.tab = s.store.tab)
    (hi : t.intake = s.intake) (hc : t.card = s.card) (ht : t.trig.waiting = s.trig.waiting) (ho : t.outbox = s.outbox) :
    AtRest t := by
  refine h.at_idle (by rw [hs]; nofun) hw he (fun hci => ?_) hm hi ht ho
  obtain ⟨hu, -, hp⟩ := h.no_claims hs (hc ▸ hci)
  refine ⟨?_, hk hci, ?_⟩
  · rw [← hu]; unfold updateClaim; rw [hc]
  · rw [← hp]; unfold passClaim; rw [hc]

/-- With no change waiting, the next step is the store's and the card's. -/
theorem settleStep_of_waiting {s : State} (h : s.trig.waiting = []) : settleStep s = pumpStep s := by
  unfold settleStep; rw [h]

/-- Beside an IDLE writer with no record to remove, a claim at an idle card starts. -/
theorem pumpStep_claims {s : State} (hw : s.store.writer = .idle) (he : emptyClosing s = []) (hc : s.card.state = .idle)
    (hk : claimClasses s ≠ []) : pumpStep s = some (startClaim s) := by
  have hfree : writerFree s = false := by simp [writerFree, hw]
  unfold pumpStep
  rw [if_neg (by simp [closeWork, he, hw]), if_neg (by simp [flushSpent, hw])]
  simp [allocationDue, hfree, hc, hk]

/-- A command whose own effect is one step from rest answers the state of that step. -/
theorem AtRest.act_step {s t u : State} {dt : Nat} {f : State → State} (h : AtRest u) (hp : s.powered = true)
    (hf : f (s.tick dt) = t) (ht : settleStep t = some u) : Machine.act dt f s = .next u := by
  unfold Machine.act
  rw [live_powered hp, hf]
  unfold Machine.finish
  rw [settle_of_step ht h.1]
  exact congrArg _ (h.2.2 |> fun hd => by rw [depart_of_departed hd, settle_of_rest h.1, depart_of_departed hd])

/-- A directive of a fixed length whose owner leads to a state one step from rest. -/
theorem Ready.takes_step {dt code n : Nat} {tag : Byte} {p : Bytes} {f : State → State} {s t u : State} (h : Ready s)
    (hn : p.length = n) (hb : n ≤ 100) (hf : f (s.tick dt) = t) (ht : settleStep t = some u) (hu : AtRest u) :
    Machine.act dt (directive code (some n) tag p f) s = .next u :=
  hu.act_step h.1.1 ((h.directive_eq hn hb).trans hf) ht

/-- A part with nothing recorded, by what rest and the writer ask of it. -/
theorem NoRecording.idle {s : State} (h : NoRecording s) : s.store.writer = .idle := h.1

theorem NoRecording.settled {s : State} (h : NoRecording s) : ∀ c ∈ s.store.index, c.state = .closed := h.2.1

end Sys2Proof.Machine

/-! PROOF. MOUNT and UNMOUNT, and the refusals of the store's directives (R85, R86, R89, R97 to R99, R103, R105, R107). -/

namespace Sys2Proof.Machine

/-! ### Judgements of the store -/

theorem storeJudged_of {s : State} (h1 : s.store.storeLow = storeLowNow s) (h2 : s.store.lockNear = lockNearNow s) :
    judgeStore s = s := judgeStore_of_judged ⟨h1, h2⟩

/-- Without records nothing is locked. -/
theorem lockNearNow_of_empty {s : State} (h : s.store.index = []) : lockNearNow s = false := by
  simp only [lockNearNow, Store.lockedExtents, h]
  simp only [List.filter_nil, List.map_nil, List.sum_nil, Nat.mul_zero, Bool.and_eq_false_iff, decide_eq_false_iff_not]
  omega

theorem storeLowNow_of_not_ready {s : State} (h : s.store.state ≠ .ready) : storeLowNow s = false := by
  simp [storeLowNow, h]

theorem storeLowNow_of_reserve {s : State} (h : s.store.tab.reserve ≤ s.store.free.length) : storeLowNow s = false := by
  simp [storeLowNow, h]

/-! ### MOUNT (R85, R86) -/

/-- A mount whose values are in range passes its first check. -/
theorem mount_in_range {n start mode : Nat} (h8 : 8 ≤ n) (hn : n ≤ 16384) (hs : start + n * 16384 ≤ 4294967296)
    (hm : mode ≤ 1) : (!within n 8 16384 || decide (Config.cardBlocks < start + n * Config.extentBlocks) ||
      decide (1 < mode)) = false := by
  unfold Config.cardBlocks Config.extentBlocks
  simp [within, h8, hn, hs, hm]

/-- A change of the store is what it makes of it. -/
theorem mapStore_congr {s : State} {f g : Store → Store} (h : f s.store = g s.store) : s.mapStore f = s.mapStore g := by
  unfold State.mapStore; rw [h]

/-- The store of a mount with BLANK is as its conditions are judged. -/
theorem judged_mountBlank {start n gen : Nat} {s : State} (hr : s.store.tab.reserve ≤ n) (hl : s.store.storeLow = false)
    (hn : s.store.lockNear = false) : StoreJudged (s.mapStore (mountBlank start n gen)) :=
  ⟨hl.trans (storeLowNow_of_reserve (by simpa [mountBlank] using hr)).symm, hn.trans (lockNearNow_of_empty rfl).symm⟩

theorem judged_mountScan {start n gen : Nat} {s : State} (hl : s.store.storeLow = false)
    (hn : s.store.lockNear = false) : StoreJudged (s.mapStore (mountScan start n gen)) :=
  ⟨hl.trans (storeLowNow_of_not_ready (by simp [mountScan])).symm, hn.trans (lockNearNow_of_empty rfl).symm⟩

/-- The first read of a scan starts at a card with nothing else to do. -/
theorem pumpStep_scan {s : State} {k : Scan} (hk : s.store.scan = some k) (ha : k.abandoned = false)
    (hw : s.store.writer = .idle) (he : emptyClosing s = []) (hi : s.card.state = .idle) (ho : s.card.op = none)
    (hu : s.card.updates = []) (hs : s.card.slot = none) : pumpStep s = some (startScan s) := by
  have hfree : writerFree s = false := by simp [writerFree, hw]
  have hc : claimClasses s = [4] := by
    simp [claimClasses, claimList, writerClass, dueWrite, hfree, updateClaim, scanClaim, passClaim, hk, ha, ho, hu, hs,
      Card.scanning]
  have hstart : startClaim s = startScan s := by unfold startClaim; rw [hc]; rfl
  rw [pumpStep_claims hw he hi (by rw [hc]; nofun), hstart]

/-- Settles O31, by the mode and the card. -/
theorem mountOpensTheStore : Obligations.MountOpensTheStore := by
  intro dt tag p s h hlen hrec hst hscan hlow hnear
  dsimp only
  intro h8 hn hstart hres
  have hin := fun hm => mount_in_range (mode := uintAt p 10 1) h8 hn hstart hm
  have hidle : (answered dt 64 tag .ok [] s).store.writer = .idle := by rw [answered_store]; exact hrec.idle
  have hrest := h.rest_answered (dt := dt) (code := 64) (tag := tag) .ok []
  refine ⟨fun hm hc => ?_, fun hm hc hop hup hslot => ?_, fun hc hm => ?_⟩
  · have hgo : ¬((s.tick dt).store.state ≠ .unmounted ∨ (s.tick dt).card.state = .absent ∨
        (s.tick dt).card.state = .failed) := by
      obtain hc | hc := hc <;> simp [hc, hst]
    refine h.takes hlen (by omega) ?_ (hrest.beside_idle hidle hidle rfl
      (fun _ => by simp [scanClaim, hscan]) rfl rfl rfl rfl rfl)
    dsimp only
    rw [hin (by omega), if_neg Bool.false_ne_true, if_neg hgo, if_pos hm, h.answer_eq,
      judgeStore_of_judged (judged_mountBlank (by simpa using hres) (by simpa using hlow) (by simpa using hnear))]
    refine mapStore_congr ?_
    unfold mountBlank quotaOf
    rw [answered_store, ← hscan]
  · have hgo : ¬((s.tick dt).store.state ≠ .unmounted ∨ (s.tick dt).card.state = .absent ∨
        (s.tick dt).card.state = .failed) := by simp [hc, hst]
    refine h.takes_step (t := (answered dt 64 tag .ok [] s).mapStore
        (mountScan (uintAt p 0 4) (uintAt p 4 2) (uintAt p 6 4))) hlen (by omega) ?_ ?_
      (hrest.at_idle (by rw [hidle]; nofun) hidle rfl nofun rfl rfl rfl rfl)
    · dsimp only
      rw [hin (by omega), if_neg Bool.false_ne_true, if_neg hgo, if_neg (by omega), h.answer_eq,
        judgeStore_of_judged (judged_mountScan (by simpa using hlow) (by simpa using hnear))]
    · have hstep := pumpStep_scan (s := (answered dt 64 tag .ok [] s).mapStore
        (mountScan (uintAt p 0 4) (uintAt p 4 2) (uintAt p 6 4))) (k := ⟨0, false, [], false⟩) rfl rfl hidle rfl
        (by simpa using hc) (by simpa using hop) (by simpa using hup) (by simpa using hslot)
      rw [settleStep_of_waiting (by rw [State.mapStore_trig]; exact hrest.waiting), hstep]
      refine congrArg some ?_
      simp [startScan, mountScan, startOp, countRetry, Store.trailerAddress, Store.extentBase, quotaOf, ms,
        Config.extentBlocks, Config.dataPositions, State.mapStore, State.mapCard]
      exact Nat.mul_comm ..
  · refine h.refuses hlen (by omega) ?_
    dsimp only
    rw [hin hm, if_neg Bool.false_ne_true, if_pos (.inr hc)]
end Sys2Proof.Machine

/-! PROOF. UNMOUNT (R86, R89). -/

namespace Sys2Proof.Machine

/-! ### UNMOUNT (R86, R89) -/

/-- The store after an UNMOUNT that has ended. -/
def Store.emptied (st : Store) : Store :=
  { st with state := .unmounted, count := 0, generation := 0, extents := [], free := [], index := [], quota := 0,
            quotaEff := 0, scan := none }

/-- With neither condition set, an emptied store is as its conditions are judged. -/
theorem toUnmounted_eq {s : State} (hl : s.store.storeLow = false) (hn : s.store.lockNear = false) :
    toUnmounted s = s.mapStore Store.emptied :=
  judgeStore_of_judged ⟨hl.trans (storeLowNow_of_not_ready (by simp)).symm, hn.trans (lockNearNow_of_empty rfl).symm⟩

/-- A part at rest with an IDLE writer rests with its store emptied, whatever the card has ended. -/
theorem AtRest.emptied {s : State} (h : AtRest s) (hw : s.store.writer = .idle) : AtRest (s.mapStore Store.emptied) :=
  h.beside_idle hw hw rfl (fun _ => rfl) rfl rfl rfl rfl rfl

/-- A part at rest with a scan's read in flight rests with that scan given up. -/
theorem AtRest.abandoned {s : State} {k : Scan} (h : AtRest s) (hw : s.store.writer = .idle)
    (he : ∀ c ∈ s.store.index, c.state = .closed) :
    AtRest (s.mapStore fun st => { st with scan := some { k with abandoned := true } }) :=
  h.beside_idle hw hw (emptyClosing_of_closed he) (fun _ => rfl) rfl rfl rfl rfl rfl

theorem notScanning_iff (c : Card) : c.scanning = false ↔ ∀ o, c.op = some o → o.source ≠ .scan := by
  unfold Card.scanning
  cases c.op <;> simp

/-- An operation of the scan that ends with OK in a scan given up empties the store. -/
theorem opOk_abandoned {o : CardOp} {k : Scan} {data : Bytes} {s : State} (ho : o.source = .scan)
    (hk : s.store.scan = some k) (ha : k.abandoned = true) (hl : s.store.storeLow = false)
    (hn : s.store.lockNear = false) :
    opOk o data s = (s.mapCard fun c => { c with state := .idle, op := none, fails := 0 }).mapStore Store.emptied := by
  have hscan : (s.mapCard fun c => { c with state := .idle, op := none, fails := 0 }).store.scan = some k := hk
  refine Eq.trans ?_ (toUnmounted_eq (s := s.mapCard fun c => { c with state := .idle, op := none, fails := 0 }) hl hn)
  unfold opOk tellOk
  rw [ho]
  unfold scanOk
  show (match (s.mapCard fun c => { c with state := .idle, op := none, fails := 0 }).store.scan with
    | none => _
    | some k => _) = _
  rw [hscan]
  exact if_pos ha

theorem takeCompletion_ok {o : CardOp} {data : Bytes} {s : State} (hl : s.card.timedOut ≠ some s.partTime)
    (ho : s.card.op = some o) : takeCompletion true data s = opOk o data s := by
  unfold takeCompletion
  rw [if_neg hl, ho]
  rfl

/-- Settles O32, by the state of the store, and by the end of the read in flight. -/
theorem unmountEmptiesTheStore : Obligations.UnmountEmptiesTheStore := by
  refine ⟨fun dt tag s h => ?_, ?_⟩
  · have hrest := h.rest_answered (dt := dt) (code := 65) (tag := tag) .ok []
    have hst : ∀ v, s.store.state = v → (s.tick dt).store.state = v := fun v hv => hv
    refine ⟨fun hs => ?_, fun hs hb => ?_, fun hrec hl hn => ?_⟩
    · exact h.refuses rfl (by omega) (by simp only [hst _ hs])
    · refine h.refuses rfl (by omega) ?_
      simp only [hst _ hs]
      exact if_pos (Bool.or_eq_true_iff.2 (hb.imp decide_eq_true fun hu => by simpa using hu))
    · have hw : (answered dt 65 tag .ok [] s).store.writer = .idle := by rw [answered_store]; exact hrec.idle
      have hun := toUnmounted_eq (s := answered dt 65 tag .ok [] s) (by simpa using hl) (by simpa using hn)
      refine ⟨fun hs hu => ?_, fun hs => ?_, fun hs ho => ?_, fun o k hs ho hsrc hk => ?_⟩
      · refine h.takes rfl (by omega) ?_ (hrest.emptied hw)
        simp only [hst _ hs]
        rw [if_neg (by simp [hrec.idle, hu]), h.answer_eq, hun]
        rfl
      · refine h.takes rfl (by omega) ?_ ?_ (t := (((answered dt 65 tag .ok [] s).mapStore Store.emptied).mapCard
          fun c => { c with updates := [] }))
        · simp only [hst _ hs]
          rw [h.answer_eq]
          exact toUnmounted_eq (by simpa using hl) (by simpa using hn)
        · exact hrest.at_idle (by rw [hw]; nofun) hw rfl (fun hc => ⟨by simp [updateClaim], rfl, (hrest.no_claims hw hc).2.2⟩) rfl rfl rfl rfl
      · refine h.takes rfl (by omega) ?_ (hrest.emptied hw)
        simp only [hst _ hs]
        rw [h.answer_eq]
        refine (if_neg ?_).trans hun
        rw [Bool.not_eq_true]
        exact (notScanning_iff (answered dt 65 tag .ok [] s).card).2 (by simpa using ho)
      · refine h.takes rfl (by omega) ?_ (hrest.abandoned hw (by simpa using hrec.settled))
        simp only [hst _ hs]
        rw [h.answer_eq]
        refine (if_pos ?_).trans ?_
        · simp [Card.scanning, ho, hsrc]
        · refine mapStore_congr ?_
          rw [answered_store, hk]; rfl
  · intro dt data o k s hp h hrec hl hn hs hc ho hsrc hk ha hu hslot hlate
    refine AtRest.act (t := ((s.tick dt).mapCard fun c => { c with state := .idle, op := none, fails := 0 }).mapStore
      Store.emptied) ?_ hp ?_
    · exact (h.tick dt).at_idle (by rw [tick_store, hrec.idle]; nofun) hrec.idle rfl
        (fun _ => ⟨by simp [updateClaim, hu], rfl, by simp [passClaim, hslot]⟩) rfl rfl rfl rfl
    · rw [takeCompletion_ok (s := s.tick dt) hlate ho, opOk_abandoned (s := s.tick dt) hsrc hk ha hl hn]
end Sys2Proof.Machine

/-! PROOF. The refusals of the store's directives (R85, R97 to R99, R103, R105, R107). -/

namespace Sys2Proof.Machine

/-- A directive whose code and effect its owner finds in the store and the supply, and that changes nothing. -/
theorem Ready.refuses_by {dt code n : Nat} {tag : Byte} {p : Bytes} {s : State} {g : State → AnswerCode × State}
    {ac : AnswerCode} (h : Ready s) (hn : p.length = n) (hb : n ≤ 100)
    (hg : ∀ u : State, u.store = s.store → u.thermal = s.thermal → g u = (ac, u)) :
    act dt (directive code (some n) tag p (answerThen code tag g)) s = .next (answered dt code tag ac [] s) :=
  h.refuses_then hn hb (congrArg Prod.fst (hg (s.tick dt) rfl rfl))
    (congrArg Prod.snd (hg _ (answered_store ..) (answered_thermal ..)))

/-! ### START RECORDING (R97, R98) -/

/-- Supply, tier or writer bar a recording (R98). -/
def barred (s : State) : Prop :=
  s.thermal.supply = .emergency ∨ s.thermal.tier = .cutoff ∨ s.store.writer = .emergency

section
variable {n : Nat} {s : State}

theorem startRecording_not_ready (h : s.store.state ≠ .ready) : startRecording n s = (.state, s) := if_pos h

theorem startRecording_barred (h : s.store.state = .ready) (hb : barred s) : startRecording n s = (.state, s) :=
  (if_neg (not_not.2 h)).trans (if_pos hb)

theorem startRecording_busy (h : s.store.state = .ready) (hb : ¬barred s)
    (hw : s.store.writer = .recording ∨ s.store.writer = .stopping) : startRecording n s = (.busy, s) :=
  (if_neg (not_not.2 h)).trans ((if_neg hb).trans (if_pos hw))

theorem startRecording_full (h : s.store.state = .ready) (hb : ¬barred s) (hw : s.store.writer = .idle)
    (ht : openingTest s = (false, s)) (hj : StoreJudged s) : startRecording n s = (.full, s) := by
  refine (if_neg (not_not.2 h)).trans ((if_neg hb).trans ((if_neg (by rw [hw]; nofun)).trans ?_))
  dsimp only
  rw [ht]
  exact congrArg (Prod.mk _) (judgeStore_of_judged hj)

/-- With the clip numbers exhausted the opening test fails (R97). -/
theorem openingTest_exhausted (hl : s.store.index.length < 512) (hn : 4294967296 ≤ s.store.nextClip) :
    openingTest s = (false, s) := by
  unfold openingTest Config.indexSize Config.cardBlocks
  rw [if_neg (Nat.not_le.2 hl)]
  dsimp only
  rw [decide_eq_false (p := s.store.nextClip < 4294967296) (Nat.not_lt.2 hn), Bool.and_false]

theorem oldestReclaimable_none (h : ∀ c ∈ s.store.index, c.state = .closed → c.locked = true) :
    s.store.oldestReclaimable = none :=
  List.find?_eq_none.2 fun c hc => by
    unfold Clip.reclaimable
    by_cases hs : c.state = .closed
    · simp [h c hc hs]
    · simp [hs]
end

theorem StoreJudged.congr {s t : State} (h : StoreJudged s) (hs : t.store = s.store) : StoreJudged t := by
  unfold StoreJudged storeLowNow lockNearNow at *; rw [hs]; exact h

section
variable {dt : Nat} {tag : Byte} {s : State} (h : Ready s)
include h

/-- The refusals of START RECORDING. -/
theorem Ready.refuses_start {p : Bytes} (hp : p.length = 8) {ac : AnswerCode}
    (hg : ∀ u : State, u.store = s.store → u.thermal = s.thermal → startRecording (uintAt p 0 8) u = (ac, u)) :
    exec (.startRecording dt tag p) s = .next (answered dt 66 tag ac [] s) := h.refuses_by hp (by omega) hg

theorem Ready.start_full {p : Bytes} (hp : p.length = 8) (hs : s.store.state = .ready) (hb : ¬barred s)
    (hw : s.store.writer = .idle) (hj : StoreJudged s)
    (hf : ((s.store.free = [] ∨ 512 ≤ s.store.index.length) ∧ ∀ c ∈ s.store.index, c.state = .closed → c.locked = true) ∨
      (s.store.index.length < 512 ∧ 4294967296 ≤ s.store.nextClip)) :
    exec (.startRecording dt tag p) s = .next (answered dt 66 tag .full [] s) := by
  refine h.refuses_start hp fun u hu ht => ?_
  have hb' : ¬barred u := by unfold barred; rw [hu, ht]; exact hb
  refine startRecording_full (by rw [hu, hs]) hb' (by rw [hu, hw]) ?_ (hj.congr hu)
  obtain ⟨hf, hc⟩ | ⟨hl, hn⟩ := hf
  · exact openingTest_fails (oldestReclaimable_none (by rw [hu]; exact hc)) (by rw [hu]; exact hf.symm)
  · exact openingTest_exhausted (by rw [hu]; exact hl) (by rw [hu]; exact hn)
end

/-! ### Directives that name a clip (R103, R105) -/

section
variable {n : Nat} {f : Clip → State → AnswerCode × State} {s : State}

theorem onClip_not_ready (h : s.store.state ≠ .ready) : onClip n f s = (.state, s) := if_pos h

theorem onClip_none (h : s.store.state = .ready) (hn : s.store.named n = none) : onClip n f s = (.notFound, s) := by
  unfold onClip; rw [if_neg (not_not.2 h), hn]

theorem onClip_some {c : Clip} (h : s.store.state = .ready) (hn : s.store.named n = some c) : onClip n f s = f c s := by
  unfold onClip; rw [if_neg (not_not.2 h), hn]
end

theorem live_of_not_closed {c : Clip} (h : c.state ≠ .closed) : c.live = true := by
  unfold Clip.live; cases hs : c.state <;> simp_all

theorem not_live_of_closed {c : Clip} (h : c.state = .closed) : c.live = false := by simp [Clip.live, h]

section
variable {dt : Nat} {tag : Byte} {p : Bytes} {s : State} (h : Ready s) (hp : p.length = 4)
include h hp

/-- A directive of a clip number that finds a code and changes nothing. -/
theorem Ready.refuses_clip {code : Nat} {f : Clip → State → AnswerCode × State} {ac : AnswerCode}
    (hg : ∀ u : State, u.store = s.store → onClip (uintAt p 0 4) f u = (ac, u)) :
    act dt (directive code (some 4) tag p (answerThen code tag (onClip (uintAt p 0 4) f))) s =
      .next (answered dt code tag ac [] s) := h.refuses_by hp (by omega) fun u hu _ => hg u hu

theorem Ready.not_ready {code : Nat} {f : Clip → State → AnswerCode × State} (hs : s.store.state ≠ .ready) :
    act dt (directive code (some 4) tag p (answerThen code tag (onClip (uintAt p 0 4) f))) s =
      .next (answered dt code tag .state [] s) :=
  h.refuses_clip hp fun u hu => onClip_not_ready (by rw [hu]; exact hs)

theorem Ready.not_found {code : Nat} {f : Clip → State → AnswerCode × State} (hs : s.store.state = .ready)
    (hn : s.store.named (uintAt p 0 4) = none) :
    act dt (directive code (some 4) tag p (answerThen code tag (onClip (uintAt p 0 4) f))) s =
      .next (answered dt code tag .notFound [] s) :=
  h.refuses_clip hp fun u hu => onClip_none (by rw [hu]; exact hs) (by rw [hu]; exact hn)

/-- DELETE CLIP of a live record, and of a locked one. -/
theorem Ready.delete_refused {c : Clip} {ac : AnswerCode} (hs : s.store.state = .ready)
    (hn : s.store.named (uintAt p 0 4) = some c) (hd : ∀ u, deleteRecord c u = (ac, u)) :
    exec (.deleteClip dt tag p) s = .next (answered dt 71 tag ac [] s) :=
  h.refuses_clip hp fun u hu => (onClip_some (by rw [hu]; exact hs) (by rw [hu]; exact hn)).trans (hd u)
end

/-- Settles O34, by the directive. -/
theorem storeDirectivesRefused : Obligations.StoreDirectivesRefused := by
  intro dt tag s h
  refine ⟨fun p hp => ⟨fun hs => ?_, fun hs => ⟨fun hb => ?_, fun hb => ⟨fun hw => ?_, fun hw hj hf => ?_⟩⟩⟩,
    fun p hp hs h8 hn hst hm => ?_, fun p hp h1 h16 hs => ?_, fun hw => ?_, fun p hp => ⟨fun hs => ?_, fun hs hn => ?_,
    fun hs => ⟨h.not_ready hp hs, h.not_ready hp hs, h.not_ready hp hs⟩,
    fun hs hn => ⟨h.not_found hp hs hn, h.not_found hp hs hn, h.not_found hp hs hn⟩,
    fun c hs hn => ⟨fun hc => ?_, fun hc hl => ?_⟩⟩⟩
  · exact h.refuses_start hp fun u hu _ => startRecording_not_ready (by rw [hu]; exact hs)
  · exact h.refuses_start hp fun u hu ht => startRecording_barred (by rw [hu]; exact hs) (by
      unfold barred; rw [hu, ht]; exact hb)
  · exact h.refuses_start hp fun u hu ht => startRecording_busy (by rw [hu]; exact hs) (by
      unfold barred; rw [hu, ht]; exact hb) (by rw [hu]; exact hw)
  · exact h.start_full hp hs hb hw hj hf
  · refine h.refuses hp (by omega) ?_
    dsimp only
    rw [mount_in_range h8 hn hst hm, if_neg Bool.false_ne_true, if_pos (.inl hs)]
  · have hread : readable (s.tick dt) = false := by obtain hs | hs := hs <;> simp [readable, hs]
    refine h.refuses hp (by omega) ?_
    dsimp only
    rw [hread, if_neg (by simp [within, h1, h16]), if_pos Bool.not_false]
  · refine h.refuses rfl (by omega) (if_neg hw)
  · have hread : readable (s.tick dt) = false := by obtain hs | hs := hs <;> simp [readable, hs]
    refine h.refuses hp (by omega) ?_
    rw [hread, if_pos Bool.not_false]
  · have hread : readable (s.tick dt) = true := by obtain hs | hs := hs <;> simp [readable, hs]
    refine h.refuses hp (by omega) ?_
    rw [hread, if_neg (by simp), show (s.tick dt).store.named (uintAt p 0 4) = none from hn]
  · exact h.delete_refused hp hs hn fun u => if_pos (live_of_not_closed hc)
  · exact h.delete_refused hp hs hn fun u =>
      (if_neg (by rw [not_live_of_closed hc]; nofun)).trans (if_pos hl)

end Sys2Proof.Machine

/-! PROOF. Markers: records whose work stays, and MARK by a directive and by a trigger (R101, R137). -/

namespace Sys2Proof.Machine

/-! ### Records that give the work they gave -/

/-- What the store's and the card's work reads of a record, but for the contents that are written. -/
def Clip.work (c : Clip) : Nat × ClipState × Nat × Nat × Option Nat × Option Nat × Phase :=
  (c.number, c.state, c.dataBlocks, c.extentCount, c.firstExtent, c.lastExtent, c.phase)

/-- `s` with its records changed by `f`. -/
def State.mapClips (f : Clip → Clip) (s : State) : State := s.mapStore fun st => { st with index := st.index.map f }

section
variable {f : Clip → Clip} (hf : ∀ c, (f c).work = c.work) (s : State)
include hf

theorem work_number (c : Clip) : (f c).number = c.number := congrArg (fun w => w.1) (hf c)
theorem work_state (c : Clip) : (f c).state = c.state := congrArg (fun w => w.2.1) (hf c)
theorem work_dataBlocks (c : Clip) : (f c).dataBlocks = c.dataBlocks := congrArg (fun w => w.2.2.1) (hf c)
theorem work_extentCount (c : Clip) : (f c).extentCount = c.extentCount := congrArg (fun w => w.2.2.2.1) (hf c)
theorem work_firstExtent (c : Clip) : (f c).firstExtent = c.firstExtent := congrArg (fun w => w.2.2.2.2.1) (hf c)
theorem work_lastExtent (c : Clip) : (f c).lastExtent = c.lastExtent := congrArg (fun w => w.2.2.2.2.2.1) (hf c)
theorem work_phase (c : Clip) : (f c).phase = c.phase := congrArg (fun w => w.2.2.2.2.2.2) (hf c)

theorem work_live (c : Clip) : (f c).live = c.live := by unfold Clip.live; rw [work_state hf]

omit hf in
/-- A search by what the work reads finds the same record. -/
theorem find?_mapClips {p : Clip → Bool} (hp : ∀ c, p (f c) = p c) :
    (s.mapClips f).store.index.find? p = (s.store.index.find? p).map f := by
  show (s.store.index.map f).find? p = _
  rw [List.find?_map]
  exact congrArg (Option.map f) (congrArg (List.find? · s.store.index) (funext hp))

theorem find_mapClips (n : Nat) : (s.mapClips f).store.find n = (s.store.find n).map f :=
  find?_mapClips s fun c => by rw [work_number hf]

theorem openClip_mapClips : (s.mapClips f).store.openClip = s.store.openClip.map f :=
  find?_mapClips s fun c => by rw [work_state hf]

theorem headClip_mapClips : headClip (s.mapClips f) = (headClip s).map f := by
  unfold headClip
  rw [show (s.mapClips f).intake = s.intake from rfl]
  cases s.intake.buffer.head? with
  | none => rfl
  | some b => exact find_mapClips hf s b.clip

theorem finalDue_mapClips : finalDue (s.mapClips f) = (finalDue s).map f :=
  find?_mapClips s fun c => by
    rw [work_state hf, work_dataBlocks hf, work_number hf, show (s.mapClips f).intake = s.intake from rfl]

theorem burstWanted_mapClips (c : Clip) : burstWanted (f c) (s.mapClips f) = burstWanted c s := by
  unfold burstWanted; rw [work_state hf]; rfl

theorem emptyClosing_mapClips : emptyClosing (s.mapClips f) = emptyClosing s := by
  show ((s.store.index.map f).filter _).map Clip.number = _
  rw [List.filter_map, List.map_map]
  have hp : ∀ c, ((fun c : Clip => decide (c.state = .closing) && c.dataBlocks == 0 && !(s.mapClips f).intake.holds c.number) ∘ f) c
      = (decide (c.state = .closing) && c.dataBlocks == 0 && !s.intake.holds c.number) := fun c => by
    simp only [Function.comp_apply, work_state hf, work_dataBlocks hf, work_number hf]; rfl
  rw [funext hp]
  exact List.map_congr_left fun c _ => work_number hf c

theorem closeWork_mapClips : closeWork (s.mapClips f) = closeWork s := by
  have hs : (s.mapClips f).store.settled = s.store.settled := by
    refine List.all_map.trans (congrArg (List.all s.store.index) (funext fun c => ?_))
    rw [Function.comp_apply, work_live hf]
  unfold closeWork; rw [emptyClosing_mapClips hf, hs]; rfl

theorem allocationDue_mapClips : allocationDue (s.mapClips f) = (allocationDue s).map f := by
  unfold allocationDue
  rw [finalDue_mapClips hf, headClip_mapClips hf, Option.isSome_map,
    show writerFree (s.mapClips f) = writerFree s from rfl, show (s.mapClips f).store.retry = s.store.retry from rfl]
  split
  · rfl
  · cases headClip s with
    | none => rfl
    | some c =>
      simp only [Option.map_some, work_live hf, work_phase hf, burstWanted_mapClips hf]
      rw [apply_ite (Option.map f)]; rfl

theorem formBurst_mapClips (c : Clip) (e : Nat) :
    (formBurst (f c) e (s.mapClips f)).map WWrite.isBurst = (formBurst c e s).map WWrite.isBurst := by
  unfold formBurst
  rw [work_number hf]
  change Option.map _ (match s.store.owned e with | none => _ | some o => _) = _
  cases s.store.owned e with
  | none => rfl
  | some o =>
    dsimp only
    change Option.map _ (if (List.take _ (s.intake.buffer.takeWhile _)).isEmpty = true then _ else _) = _
    rw [apply_ite (Option.map WWrite.isBurst), apply_ite (Option.map WWrite.isBurst)]
    rfl

theorem phaseWrite_mapClips (c : Clip) :
    (phaseWrite (f c) (s.mapClips f)).map WWrite.isBurst = (phaseWrite c s).map WWrite.isBurst := by
  unfold phaseWrite
  rw [work_lastExtent hf, work_phase hf]
  cases c.lastExtent with
  | none => rfl
  | some e =>
    cases c.phase
    case writing => exact formBurst_mapClips hf s c e
    all_goals rfl

omit hf in
theorem chain_mapClips (n : Nat) (i : Option Nat) : (s.mapClips f).store.chain n i = s.store.chain n i :=
  chain_congr fun _ _ => rfl

theorem lastWritten_mapClips (c : Clip) : (s.mapClips f).store.lastWritten (f c) = s.store.lastWritten c := by
  unfold Store.lastWritten Store.chainOf
  rw [work_extentCount hf, work_firstExtent hf, chain_mapClips]; rfl

theorem dueWrite_mapClips : (dueWrite (s.mapClips f)).map WWrite.isBurst = (dueWrite s).map WWrite.isBurst := by
  unfold dueWrite
  rw [finalDue_mapClips hf, headClip_mapClips hf, openClip_mapClips hf,
    show writerFree (s.mapClips f) = writerFree s from rfl, show (s.mapClips f).store.retry = s.store.retry from rfl]
  split
  · rfl
  · cases s.store.retry with
    | some w => rfl
    | none =>
      cases finalDue s with
      | some c =>
        show (endingWrite (f c) (s.mapClips f)).map _ = (endingWrite c s).map _
        unfold endingWrite
        rw [work_phase hf]
        split
        · exact phaseWrite_mapClips hf s c
        · rw [lastWritten_mapClips hf, Option.map_map, Option.map_map]; rfl
      | none =>
        cases headClip s with
        | some c => exact phaseWrite_mapClips hf s c
        | none =>
          cases s.store.openClip with
          | none => rfl
          | some c => exact phaseWrite_mapClips hf s c

theorem writerClass_mapClips : writerClass (s.mapClips f) = writerClass s := by
  have hd := dueWrite_mapClips hf s
  unfold writerClass
  rw [headClip_mapClips hf, Option.any_map]
  simp only [burstWanted_mapClips hf]
  cases ht : dueWrite (s.mapClips f) <;> cases hs : dueWrite s <;> simp [ht, hs] at hd ⊢
  rw [hd]; rfl

/-- Records that keep what the work reads give the store and the card no work. -/
theorem pumpStep_mapClips : pumpStep (s.mapClips f) = none ↔ pumpStep s = none := by
  have hc : claimClasses (s.mapClips f) = claimClasses s := by
    unfold claimClasses; rw [writerClass_mapClips hf]; rfl
  rw [pumpStep_eq_none_iff, pumpStep_eq_none_iff, closeWork_mapClips hf, allocationDue_mapClips hf,
    Option.map_eq_none_iff, hc]
  rfl

/-- Such records leave a part at rest. -/
theorem AtRest.mapClips {s : State} (h : AtRest s) : AtRest (s.mapClips f) := by
  have hp := ((settleStep_eq_none_iff s).1 h.1).2
  refine ⟨(settleStep_eq_none_iff _).2 ⟨h.waiting, (pumpStep_mapClips hf s).2 hp⟩, ?_, h.2.2⟩
  have hj := h.2.1
  rw [judgeHold_eq_self_iff] at hj ⊢; exact hj
end

/-! ### MARK (R101, R137) -/

section
variable {kind : Nat} {c : Clip} {s : State}

theorem addMarker_none (h : s.store.openClip = none) : addMarker kind s = (.state, 0, s) := by unfold addMarker; rw [h]

theorem addMarker_full (h : s.store.openClip = some c) (hm : 16 ≤ c.markers.length) :
    addMarker kind s = (.full, c.number, s) := by
  unfold addMarker; rw [h]; exact if_pos hm

theorem addMarker_room (h : s.store.openClip = some c) (hm : c.markers.length < 16) :
    addMarker kind s = (.ok, c.number, s.mapClips fun d => if d.number = c.number then
      { d with markers := d.markers ++ [⟨s.partTime, (s.intake.record.bind IntakeRec.lastPts).getD 0, kind⟩] } else d) := by
  unfold addMarker; rw [h]; exact if_neg (Nat.not_le.2 hm)
end

/-- Answering does not read the records. -/
theorem sent_mapClips (a : Answer) (f : Clip → Clip) (s : State) : sent a (s.mapClips f) = (sent a s).mapClips f :=
  sent_mapStore ..

/-- Settles O36, by the OPEN clip and the room for a marker. -/
theorem markAddsAMarker : Obligations.MarkAddsAMarker := by
  refine ⟨fun dt tag s h => ⟨fun hn => ?_, fun c hc => ⟨fun hm => ?_, fun hm => ?_⟩⟩,
    fun i s => ⟨fun hn => ?_, fun c hc => ⟨fun hm => ?_, fun hm => ?_⟩⟩⟩
  · exact h.refuses rfl (by omega) (by dsimp only; rw [addMarker_none (s := s.tick dt) hn])
  · exact h.refuses rfl (by omega) (by dsimp only; rw [addMarker_full (s := s.tick dt) hc hm])
  · have hw : ∀ d : Clip, (if d.number = c.number then
        { d with markers := d.markers ++ [⟨s.partTime + dt, (s.intake.record.bind IntakeRec.lastPts).getD 0, 16⟩] }
        else d).work = d.work := fun d => by split <;> rfl
    have hr := (h.2.tick dt).mapClips hw
    refine h.takes rfl (by omega) ?_ ((h.rest_answered .ok []).mapClips hw)
    dsimp only
    rw [addMarker_room (s := s.tick dt) hc hm]
    exact (enqueueAnswer_of_departed hr.2.2 hr.2.1 h.1.2.2.2).trans (sent_mapClips ..)
  · unfold actMark; rw [hn]; rfl
  · unfold actMark; rw [hc]; dsimp only; rw [addMarker_full hc hm]; rfl
  · unfold actMark; rw [hc]; dsimp only; rw [addMarker_room hc hm]; rfl

end Sys2Proof.Machine

/-! PROOF. START RECORDING opens a clip (R67, R78, R97, R98). -/

namespace Sys2Proof.Machine

/-- Where no write of the writer is due and no other claim pending, nothing is left to do. -/
theorem pumpStep_of_no_write {s : State} (hc : closeWork s = false) (hf : flushSpent s = false)
    (ha : allocationDue s = none) (hd : dueWrite s = none)
    (hk : s.card.state = .idle → updateClaim s = false ∧ scanClaim s = false ∧ passClaim s = false) :
    pumpStep s = none := by
  refine (pumpStep_eq_none_iff s).2 ⟨hc, hf, ha, fun ⟨hi, hn⟩ => hn ?_⟩
  obtain ⟨hu, hs, hp⟩ := hk hi
  simp [claimClasses, claimList, writerClass, hd, hu, hs, hp]

/-- A part at rest with nothing recorded rests with a record OPEN that has no extent. -/
theorem AtRest.opened {s t : State} {c : Clip} (h : AtRest s) (hrec : NoRecording s)
    (hx : t.store.index = s.store.index ++ [c]) (ho : c.state = .opened) (hl : c.lastExtent = none)
    (hw : t.store.writer = .recording) (hr : t.store.retry = s.store.retry) (hk : t.store.scan = s.store.scan)
    (hm : t.store.tab = s.store.tab) (hb : t.intake = { s.intake with record := t.intake.record, stallEnd := t.intake.stallEnd })
    (hc : t.card = s.card) (ht : t.trig.waiting = s.trig.waiting) (hout : t.outbox = s.outbox) : AtRest t := by
  obtain ⟨hwi, hcl, hbuf, hpack, hret⟩ := hrec
  have hbuf' : t.intake.buffer = [] := by rw [hb]; exact hbuf
  have hnc : ∀ d ∈ t.store.index, d.state ≠ .closing := fun d hd => by
    rw [hx] at hd
    obtain hd | hd := List.mem_append.1 hd
    · rw [hcl d hd]; nofun
    · rw [List.mem_singleton.1 hd, ho]; nofun
  have hhead : headClip t = none := by unfold headClip; rw [hbuf']; rfl
  have hfin : finalDue t = none := List.find?_eq_none.2 fun d hd => by simp [hnc d hd]
  have hopen : t.store.openClip = some c := by
    unfold Store.openClip
    rw [hx, List.find?_append, List.find?_eq_none.2 fun d hd => by simp [hcl d hd]]
    simp [ho]
  have hempty : emptyClosing t = [] := (emptyClosing_eq_nil_iff t).2 fun d hd hs => absurd hs (hnc d hd)
  have hsettled : t.store.settled = false := by
    unfold Store.settled
    rw [hx, List.all_append]
    simp [Clip.live, ho]
  refine ⟨(settleStep_eq_none_iff t).2 ⟨ht.trans h.waiting, pumpStep_of_no_write ?_ ?_ ?_ ?_ fun hi => ?_⟩, ?_,
    (outbox_congr hout).2.1.trans h.2.2⟩
  · unfold closeWork; rw [hempty, hsettled]; rfl
  · unfold flushSpent; rw [hw]; rfl
  · unfold allocationDue; rw [hhead]; exact ite_self _
  · unfold dueWrite
    rw [hr, hret, hfin, hhead, hopen]
    dsimp only
    rw [Option.bind_some, show phaseWrite c t = none by unfold phaseWrite; rw [hl]]
    exact ite_self _
  · obtain ⟨hu, hs, hp⟩ := h.no_claims hwi (hc ▸ hi)
    unfold updateClaim at hu ⊢
    unfold scanClaim at hs ⊢
    unfold passClaim at hp ⊢
    rw [hc, hk]; exact ⟨hu, hs, hp⟩
  · refine judgeHold_of_bufCause h.2.1 ?_ (outbox_congr hout).2.2 (by rw [hb]; exact ⟨rfl, rfl, rfl⟩)
    rw [bufCauseNow_congr (s := s) (by rw [hwi]; nofun) (by rw [hw]; nofun) (by rw [hb]; rfl) (by rw [hb]) hm]
    exact ((judgeHold_eq_self_iff s).1 h.2.1).1.symm

section
variable (p : Payload) (s : State)
theorem reported_partTime : (reported p s).partTime = s.partTime := by unfold reported; split <;> rfl
end

/-- A clip opened by START RECORDING in `s`: its record is the newest, the intake record fresh, and the stall timer runs. -/
def startedClip (start : Nat) (s : State) : State :=
  (s.mapStore fun st =>
    { st with writer := .recording, nextClip := s.store.nextClip + 1,
              index := st.index ++ [openedRecord s.store.nextClip start s.partTime] }).mapIntake fun i =>
    { i with record := some ⟨s.store.nextClip, false, none, false, false⟩,
             stallEnd := some (s.partTime + 1000 * s.store.tab.stallTime) }

/-- With room for a clip and its report, START RECORDING opens the clip (R97, R98). -/
theorem startRecording_opens {start : Nat} {s : State} (h : s.store.state = .ready) (hb : ¬barred s)
    (hw : s.store.writer = .idle) (ht : openingTest s = (true, s)) (hd : departed s = true)
    (hr : s.link.reports.length < 32) (hj : StoreJudged s) :
    startRecording start s = (.ok, reported (.clipOpened s.store.nextClip start false) (startedClip start s)) := by
  refine (if_neg (not_not.2 h)).trans ((if_neg hb).trans ((if_neg (by rw [hw]; nofun)).trans ?_))
  dsimp only
  rw [ht]
  refine congrArg (Prod.mk _) ?_
  have ho : openRecord start .opened false none s = reported (.clipOpened s.store.nextClip start false)
      (s.mapStore fun st => { st with index := st.index ++ [openedRecord st.nextClip start s.partTime],
                                      nextClip := st.nextClip + 1 }) :=
    report_of_departed (p := .clipOpened s.store.nextClip start false) (s := s.mapStore _) hd hr
  have hj' : StoreJudged (startedClip start s) :=
    hj.of_tail (before := s.store.index) (l := []) (m := [openedRecord s.store.nextClip start s.partTime]) rfl
      (List.append_nil _).symm rfl (fun d hd => absurd hd List.not_mem_nil)
      (fun d hd => by rw [List.mem_singleton.1 hd]; nofun) rfl
  refine Eq.trans ?_ (judgeStore_of_judged (hj'.congr (reported_store (.clipOpened s.store.nextClip start false) _)))
  refine congrArg judgeStore ?_
  unfold startStall
  rw [ho]
  unfold freshIntake setWriter startedClip
  rw [← reported_mapStore, ← reported_mapIntake, ← reported_mapIntake, reported_partTime, reported_store]
  refine congrArg (reported _) ?_
  unfold ms
  rw [Nat.mul_comm]
  rfl

/-- Settles O33: the answer, the record opened behind it, and rest. -/
theorem startRecordingOpensAClip : Obligations.StartRecordingOpensAClip := by
  intro dt tag p s h hp hs hrec hsup htier hj hlen hnext hroom hrep
  dsimp only
  have hb : ∀ u : State, u.store = s.store → u.thermal = s.thermal → ¬barred u := fun u hu ht => by
    unfold barred; rw [hu, ht, hrec.idle]; simp [hsup, htier]
  have htest : ∀ u : State, u.store = s.store → openingTest u = (true, u) := fun u hu => by
    refine openingTest_passes (by rw [hu]; exact hlen) (hroom.imp (by rw [hu]; exact id) ?_) (by rw [hu]; exact hnext)
    rintro ⟨c, hc, hl⟩
    exact List.find?_isSome.2 ⟨c, by rw [hu]; exact hc, by simp [Clip.reclaimable, hrec.settled c hc, hl]⟩
  have hopens : ∀ u : State, u.store = s.store → u.thermal = s.thermal → departed u = true →
      u.link.reports.length < 32 → startRecording (uintAt p 0 8) u =
        (.ok, reported (.clipOpened s.store.nextClip (uintAt p 0 8) false) (startedClip (uintAt p 0 8) u)) :=
    fun u hu ht hd hr => by
      rw [startRecording_opens (by rw [hu]; exact hs) (hb u hu ht) (by rw [hu]; exact hrec.idle) (htest u hu) hd hr
        (hj.congr hu), hu]
  have hrest := h.rest_answered (dt := dt) (code := 66) (tag := tag) .ok []
  refine (h.answers_then hp (by omega) (congrArg Prod.fst (hopens (s.tick dt) rfl rfl h.2.2.2 hrep))
    (t := reported (.clipOpened s.store.nextClip (uintAt p 0 8) false)
      (startedClip (uintAt p 0 8) (answered dt 66 tag .ok [] s))) ?_ ?_).trans ?_
  · rw [hopens _ (answered_store ..) (answered_thermal ..) hrest.2.2 (by rw [answered_reports]; exact hrep)]
  · refine AtRest.reported (hrest.opened (s := answered dt 66 tag .ok [] s) ?_ rfl rfl rfl rfl rfl rfl rfl rfl rfl rfl rfl)
    unfold NoRecording
    rw [answered_store, answered_intake]
    exact hrec
  · unfold startedClip
    rw [answered_partTime, answered_store]
    rfl
end Sys2Proof.Machine

/-! PROOF. STOP RECORDING and the expiry of the stall timer close the OPEN clip (R71, R78, R84, R99). -/

namespace Sys2Proof.Machine

/-- Beside a taken card, with no close due and the head clip's extent taking data, nothing is left to do. -/
theorem pumpStep_of_taken {s : State} (hc : closeWork s = false) (hf : flushSpent s = false)
    (hh : ∀ c, headClip s = some c → c.phase = .writing) (hi : s.card.state ≠ .idle) : pumpStep s = none := by
  refine (pumpStep_eq_none_iff s).2 ⟨hc, hf, ?_, fun h => hi h.1⟩
  unfold allocationDue
  split
  · rfl
  · cases hd : headClip s with
    | none => rfl
    | some c => simp [hh c hd]

/-- The OPEN clip `c` behind `before` is CLOSING with `q`, its last block completed, and the intake record and the stall timer
have ended. -/
def closedOff (w : WriterState) (q : CloseReason) (before : List Clip) (c : Clip) (s : State) : State :=
  setWriter w (endIntake (splitOff q before c s))

section
variable {before : List Clip} {c : Clip} {s : State} (h : RecordingInto before c s) (w : WriterState) (q : CloseReason)
include h

theorem RecordingInto.closeOpen_eq : setWriter w (closeOpen q s) = closedOff w q before c s := by
  unfold closeOpen
  rw [h.openClip]
  unfold closedOff
  rw [← h.closes q]
  dsimp only
  rw [completePacking_eq, completePacking_eq]
  rfl

omit h in
theorem closedOff_index : (closedOff w q before c s).store.index = before ++ [setClosing q c] := rfl

omit h in
/-- The close leaves the CLOSING clip to be written. -/
theorem closedOff_unsettled : (closedOff w q before c s).store.settled = false := by
  unfold Store.settled
  rw [closedOff_index, List.all_append]
  simp [Clip.live, setClosing]

/-- The head clip is the CLOSING one. -/
theorem RecordingInto.closedOff_head {d : Clip} (hd : headClip (closedOff w q before c s) = some d) :
    d = setClosing q c := by
  have hbuf : ∀ b ∈ (closedOff w q before c s).intake.buffer, b.clip = c.number := by
    obtain ⟨-, -, -, -, -, -, -, hb, -⟩ := h
    intro b hm
    have hm' : b ∈ (s.intake.completed c.number).buffer := hm
    unfold Intake.completed at hm'
    dsimp only at hm'
    split at hm'
    · exact hb b hm'
    · obtain hm' | hm' := List.mem_append.1 hm'
      · exact hb b hm'
      · rw [List.mem_singleton.1 hm']
  unfold headClip at hd
  obtain ⟨b, hb, hd⟩ := Option.bind_eq_some_iff.1 hd
  rw [hbuf b (List.mem_of_head? hb)] at hd
  obtain ⟨hm, hn⟩ := find_mem hd
  rw [closedOff_index] at hm
  obtain hm | hm := List.mem_append.1 hm
  · exact absurd hn (h.others d hm).2
  · exact List.mem_singleton.1 hm

/-- A part at rest that records rests with its clip closed off, the writer STOPPING. -/
theorem RecordingInto.rest_closedOff (hr : AtRest s) : AtRest (closedOff .stopping q before c s) := by
  have hphase : c.phase = .writing := by obtain ⟨-, -, -, -, -, -, hp, -⟩ := h; exact hp
  refine ⟨(settleStep_eq_none_iff _).2 ⟨hr.waiting, pumpStep_of_taken ?_ rfl (fun d hd => ?_) h.card_taken⟩, ?_, hr.2.2⟩
  · unfold closeWork
    rw [h.nothing_empty (closedOff_index .stopping q) (by simp), closedOff_unsettled]; rfl
  · rw [h.closedOff_head .stopping q hd]; exact hphase
  · exact h.hold_stands hr.2.1 nofun rfl rfl rfl

/-- A RECORDING writer stops: the clip is closed off, and nothing follows (R99). -/
theorem RecordingInto.stopRecording_eq (hr : AtRest s) : stopRecording q s = closedOff .stopping q before c s := by
  unfold stopRecording
  rw [if_pos h.recording, h.closeOpen_eq]
  exact afterClose_of_nothing (h.nothing_empty (closedOff_index .stopping q) (by simp)) (closedOff_unsettled .stopping q)
    (h.rest_closedOff q hr).2.1 (h.store_stands rfl (closedOff_index .stopping q) (by simp) rfl)

omit h in
/-- What is closed off, by its two blocks. -/
theorem closedOff_eq : closedOff w q before c s =
    (s.mapStore fun st =>
      { st with writer := w, index := before ++ [{ c with state := .closing, reason := some q }] }).mapIntake fun i =>
      { i with record := none, stallEnd := none, packing := [],
               buffer := i.buffer ++
                 (if i.packing = [] then [] else [⟨c.number, i.packing ++ padding i.packing.length⟩]) } := by
  have hb : (s.intake.completed c.number).buffer = s.intake.buffer ++
      (if s.intake.packing = [] then [] else [⟨c.number, s.intake.packing ++ padding s.intake.packing.length⟩]) := by
    unfold Intake.completed
    dsimp only
    split
    · rw [List.append_nil]
    · rfl
  refine Eq.trans ?_ (congrArg (fun b => (s.mapStore fun st =>
    { st with writer := w, index := before ++ [setClosing q c] }).mapIntake fun i =>
      { i with record := none, stallEnd := none, packing := [], buffer := b }) hb)
  rfl
end

theorem RecordingInto.congr {before : List Clip} {c : Clip} {s t : State} (h : RecordingInto before c s)
    (hs : t.store = s.store) (hi : t.intake = s.intake) (hc : t.card = s.card) : RecordingInto before c t := by
  obtain ⟨h1, h2, h3, h4, h5, h6, h7, h8, h9, h10⟩ := h
  unfold RecordingInto
  rw [hs, hi, hc]
  exact ⟨h1, h2, h3, h4, h5, h6, h7, h8, h9, h10.congr hs⟩

/-- Settles O35, by the directive and the timer. -/
theorem stopClosesTheOpenClip : Obligations.StopClosesTheOpenClip := by
  intro dt before c s h
  refine ⟨fun tag hr => ?_, fun e hp hr he => ⟨fun hle => ?_, fun hlt => ?_⟩⟩
  · have ha := h.congr (t := answered dt 67 tag .ok [] s) (answered_store ..) (answered_intake ..) (answered_card ..)
    have hrest := hr.rest_answered (dt := dt) (code := 67) (tag := tag) .ok []
    have hex : exec (.stopRecording dt tag []) s = .next (closedOff .stopping .stop before c (answered dt 67 tag .ok [] s)) := by
      refine hr.takes (n := 0) rfl (by omega) ?_ (ha.rest_closedOff .stop hrest)
      rw [if_pos (show (s.tick dt).store.writer = .recording from h.recording), hr.answer_eq,
        ha.stopRecording_eq .stop hrest]
    rw [hex, closedOff_eq]
  · have ht := h.congr (t := s.tick dt) rfl rfl rfl
    have hex : exec (.stallTimerExpiry dt) s = .next (closedOff .stopping .stall before c (s.tick dt)) := by
      refine (ht.rest_closedOff .stall (hr.tick dt)).act hp ?_
      rw [if_pos (by rw [tick_intake, he]; exact decide_eq_true hle), ht.stopRecording_eq .stall (hr.tick dt)]
    rw [hex, closedOff_eq]
  · exact (hr.tick dt).act hp (if_neg (by
      rw [tick_intake, he, Bool.not_eq_true]; exact decide_eq_false (Nat.not_le.2 hlt)))
end Sys2Proof.Machine

/-! PROOF. LOCK CLIP, UNLOCK CLIP and DELETE CLIP of a CLOSED record (R95, R102, R103, R105, R123). -/

namespace Sys2Proof.Machine

/-! ### A record by its place in the index -/

section
variable {before after : List Clip} {c : Clip} {st : Store} (hx : st.index = before ++ c :: after)
  (hne : ∀ d ∈ before ++ after, d.number ≠ c.number)
include hx hne

theorem find_of_place : st.find c.number = some c := by
  unfold Store.find
  rw [hx, List.find?_append, List.find?_eq_none.2 fun d hd => by simpa using hne d (List.mem_append_left _ hd)]
  simp

theorem map_of_place (f : Clip → Clip) :
    (st.index.map fun d => if d.number = c.number then f d else d) = before ++ f c :: after := by
  rw [hx, List.map_append, List.map_cons, if_pos rfl, map_of_other fun d hd => hne d (List.mem_append_left _ hd),
    map_of_other fun d hd => hne d (List.mem_append_right _ hd)]

theorem filter_of_place : (st.index.filter fun d => d.number ≠ c.number) = before ++ after := by
  rw [hx, List.filter_append, List.filter_cons_of_neg (by simp), ← List.filter_append, List.filter_eq_self]
  exact fun d hd => by simpa using hne d hd
end

theorem lockedOf_place (before after : List Clip) (c : Clip) :
    lockedOf (before ++ c :: after) = lockedOf (before ++ after) + if c.locked then c.extentCount else 0 := by
  rw [lockedOf_append, lockedOf_append, show c :: after = [c] ++ after from rfl, lockedOf_append]
  have hc : lockedOf [c] = if c.locked then c.extentCount else 0 := by
    unfold lockedOf
    cases hl : c.locked <;> simp [hl]
  rw [hc]; omega

/-- A part at rest beside an IDLE writer and a taken card rests, whatever its store becomes, with no record to remove. -/
theorem AtRest.beside_taken {s t : State} (h : AtRest s) (hs : s.store.writer = .idle) (hw : t.store.writer = .idle)
    (he : ∀ c ∈ t.store.index, c.state = .closed) (hi : t.card.state ≠ .idle) (hm : t.store.tab = s.store.tab)
    (hk : t.intake = s.intake) (ht : t.trig.waiting = s.trig.waiting) (ho : t.outbox = s.outbox) : AtRest t :=
  h.at_idle (by rw [hs]; nofun) hw (emptyClosing_of_closed he) (fun hc => absurd hc hi) hm hk ht ho

/-! ### Locks (R102, R103, R123) -/

/-- The lock of record `c` behind `before` is `v`, and the rewrite of its trailer enqueued. -/
def relocked (v : Bool) (before after : List Clip) (c : Clip) (t : State) : State :=
  (t.mapStore fun st => { st with index := before ++ { c with locked := v } :: after }).mapCard fun k =>
    { k with updates := k.updates ++ [⟨c.number, false, false⟩] }

theorem lockNearNow_of_below {s : State} (h : 10 * s.store.lockedExtents < 9 * s.store.quotaEff) : lockNearNow s = false := by
  simp [lockNearNow, Nat.not_le.2 h]

/-- What the directives of this section are given: a CLOSED record by its place in a READY store with nothing recorded, beside a
taken card, the Free List above the reserve. -/
structure Shelf (before after : List Clip) (c : Clip) (s : State) : Prop where
  ready : s.store.state = .ready
  idle : NoRecording s
  taken : s.card.state ≠ .idle
  index : s.store.index = before ++ c :: after
  others : ∀ d ∈ before ++ after, d.number ≠ c.number
  reserve : s.store.tab.reserve ≤ s.store.free.length
  judged : StoreJudged s

section
variable {before after : List Clip} {c : Clip} {s : State} (h : Shelf before after c s)
include h

theorem Shelf.congr {t : State} (hs : t.store = s.store) (hi : t.intake = s.intake) (hc : t.card = s.card) :
    Shelf before after c t where
  ready := by rw [hs]; exact h.ready
  idle := by have := h.idle; unfold NoRecording at *; rw [hs, hi]; exact this
  taken := by rw [hc]; exact h.taken
  index := by rw [hs]; exact h.index
  others := h.others
  reserve := by rw [hs]; exact h.reserve
  judged := h.judged.congr hs

theorem Shelf.closed : c.state = .closed := h.idle.settled c (by rw [h.index]; simp)

theorem Shelf.others_closed : ∀ d ∈ before ++ after, d.state = .closed := fun d hd => h.idle.settled d (by
  rw [h.index]
  obtain hd | hd := List.mem_append.1 hd <;> simp [hd])

theorem Shelf.named (hc : c.number ≠ 0) : s.store.named c.number = some c :=
  (if_neg hc).trans (find_of_place h.index h.others)

theorem Shelf.lockedExtents : s.store.lockedExtents =
    lockedOf (before ++ after) + if c.locked then c.extentCount else 0 := by
  rw [← lockedOf_place, ← h.index]; rfl

theorem Shelf.not_low : s.store.storeLow = false := by
  rw [h.judged.1]; exact storeLowNow_of_reserve h.reserve

theorem Shelf.needsRewrite : c.needsRewrite = true := by simp [Clip.needsRewrite, h.closed]

omit h in
/-- The queue takes a rewrite of the clip where it has room. -/
theorem takes_iff (hu : ∀ u ∈ s.card.updates, u.clip ≠ c.number) :
    s.card.waits c.number = false ∧ (s.card.takes c.number = true ↔ s.card.updates.length < 16) := by
  have hw : s.card.waits c.number = false := List.any_eq_false.2 fun u hm => by simp [hu u hm]
  refine ⟨hw, ?_⟩
  unfold Card.takes Config.updateLimit
  rw [hw]; simp

/-- The lock set, with the rewrite enqueued, below the bound of LOCK_NEAR. -/
theorem Shelf.setLock_eq {v : Bool} (hu : ∀ u ∈ s.card.updates, u.clip ≠ c.number)
    (hq : 10 * s.store.lockedExtents < 9 * s.store.quotaEff)
    (hl : 10 * (lockedOf (before ++ after) + if v then c.extentCount else 0) < 9 * s.store.quotaEff) :
    setLock c v s = relocked v before after c s := by
  have hmap := map_of_place h.index h.others fun d => { d with locked := v }
  have hup : updateClip c.number (fun d => { d with locked := v }) s =
      s.mapStore fun st => { st with index := before ++ { c with locked := v } :: after } :=
    mapStore_congr (by dsimp only; rw [hmap])
  have hnear : lockNearNow s = false := lockNearNow_of_below hq
  unfold setLock
  dsimp only
  rw [hup, if_pos h.needsRewrite]
  unfold enqueueUpdate
  rw [if_neg (by
    rw [show State.card (s.mapStore fun st => { st with index := before ++ { c with locked := v } :: after }) = s.card from rfl,
      (takes_iff hu).1]; nofun)]
  refine judgeStore_of_judged (s := relocked v before after c s) ⟨?_, ?_⟩
  · exact h.not_low.trans (storeLowNow_of_reserve (s := relocked v before after c s) h.reserve).symm
  · refine (h.judged.2.trans hnear).trans (lockNearNow_of_below (s := relocked v before after c s) ?_).symm
    show 10 * lockedOf (before ++ { c with locked := v } :: after) < _
    rw [lockedOf_place]; exact hl

/-- A part at rest rests with the lock changed. -/
theorem Shelf.rest_relocked (hr : AtRest s) (v : Bool) : AtRest (relocked v before after c s) := by
  refine hr.beside_taken h.idle.idle h.idle.idle (fun d hd => ?_) h.taken rfl rfl rfl rfl
  have hd' : d ∈ before ++ { c with locked := v } :: after := hd
  obtain hd | hd := List.mem_append.1 hd'
  · exact h.others_closed d (List.mem_append_left _ hd)
  · obtain rfl | hd := List.mem_cons.1 hd
    · exact h.closed
    · exact h.others_closed d (List.mem_append_right _ hd)

/-- A lock within the quota: made, or BUSY. -/
theorem Shelf.lockRecord_eq (hl : c.locked = false) (hu : ∀ u ∈ s.card.updates, u.clip ≠ c.number)
    (hq : s.store.lockedExtents + c.extentCount ≤ s.store.quotaEff)
    (hn : 10 * (s.store.lockedExtents + c.extentCount) < 9 * s.store.quotaEff) : lockRecord c s =
      if s.card.updates.length < 16 then (.ok, relocked true before after c s) else (.busy, s) := by
  have hle := h.lockedExtents
  rw [hl] at hle
  unfold lockRecord
  rw [if_neg (by rw [hl]; nofun), if_neg (Nat.not_lt.2 hq), h.needsRewrite, Bool.true_and]
  by_cases hlen : s.card.updates.length < 16
  · rw [if_pos hlen, (takes_iff hu).2.2 hlen, if_neg (by nofun), h.setLock_eq hu (by omega) (by
      rw [if_pos rfl]; simp only [Bool.false_eq_true, if_false] at hle; omega)]
  · rw [if_neg hlen, Bool.eq_false_iff.2 (mt (takes_iff hu).2.1 hlen)]; rfl

/-- An unlock: made, or BUSY. -/
theorem Shelf.unlockRecord_eq (hl : c.locked = true) (hu : ∀ u ∈ s.card.updates, u.clip ≠ c.number)
    (hn : 10 * s.store.lockedExtents < 9 * s.store.quotaEff) : unlockRecord c s =
      if s.card.updates.length < 16 then (.ok, relocked false before after c s) else (.busy, s) := by
  have hle := h.lockedExtents
  rw [hl] at hle
  unfold unlockRecord
  rw [if_neg (by rw [hl]; nofun), h.needsRewrite, Bool.true_and]
  by_cases hlen : s.card.updates.length < 16
  · rw [if_pos hlen, (takes_iff hu).2.2 hlen, if_neg (by nofun), h.setLock_eq hu hn (by
      simp only [Bool.false_eq_true, if_false, if_true] at hle ⊢; omega)]
  · rw [if_neg hlen, Bool.eq_false_iff.2 (mt (takes_iff hu).2.1 hlen)]; rfl

omit h in
/-- A lock past the quota is refused with LOCK_REFUSED. -/
theorem lockRecord_refused (hl : c.locked = false) (hq : s.store.quotaEff < s.store.lockedExtents + c.extentCount) :
    lockRecord c s =
      (.full, report (.lockRefused c.number c.extentCount s.store.lockedExtents s.store.quotaEff) s) := by
  unfold lockRecord
  rw [if_neg (by rw [hl]; nofun), if_pos hq]

end

section
variable {before after : List Clip} {c : Clip} {dt code : Nat} {tag : Byte} {p : Bytes} {s : State} (h : Ready s)
  (hs : Shelf before after c s) (hp : p.length = 4) (hn : uintAt p 0 4 = c.number) (hc : c.number ≠ 0)
include h hs hp hn hc

/-- A directive of the record that answers `ac` and leads to rest. -/
theorem Shelf.answers {f : Clip → State → AnswerCode × State} {ac : AnswerCode} {t : State}
    (hf : (f c (s.tick dt)).1 = ac) (hg : (f c (answered dt code tag ac [] s)).2 = t) (ht : AtRest t) :
    act dt (directive code (some 4) tag p (answerThen code tag (onClip (uintAt p 0 4) f))) s = .next t := by
  have hclip : ∀ u : State, u.store = s.store → u.intake = s.intake → u.card = s.card →
      onClip (uintAt p 0 4) f u = f c u := fun u hu hi hk => by
    have hu' := hs.congr hu hi hk
    exact onClip_some hu'.ready (by rw [hn]; exact hu'.named hc)
  refine h.answers_then (ac := ac) hp (by omega) (by rw [hclip (s.tick dt) rfl rfl rfl]; exact hf) ?_ ht
  rw [hclip _ (answered_store ..) (answered_intake ..) (answered_card ..)]
  exact hg

/-- A directive of the record that changes the lock, or is answered BUSY. -/
theorem Shelf.changes_lock {f : Clip → State → AnswerCode × State} {v : Bool}
    (hf : ∀ u : State, u.store = s.store → u.intake = s.intake → u.card = s.card → f c u =
      if u.card.updates.length < 16 then (.ok, relocked v before after c u) else (.busy, u)) :
    (s.card.updates.length < 16 →
      act dt (directive code (some 4) tag p (answerThen code tag (onClip (uintAt p 0 4) f))) s =
        .next (relocked v before after c (answered dt code tag .ok [] s))) ∧
    (16 ≤ s.card.updates.length →
      act dt (directive code (some 4) tag p (answerThen code tag (onClip (uintAt p 0 4) f))) s =
        .next (answered dt code tag .busy [] s)) := by
  have ha := fun ac => hf (answered dt code tag ac [] s) (answered_store ..) (answered_intake ..) (answered_card ..)
  have ht := hf (s.tick dt) rfl rfl rfl
  have hsa := hs.congr (t := answered dt code tag .ok [] s) (answered_store ..) (answered_intake ..) (answered_card ..)
  refine ⟨fun hl => ?_, fun hl => ?_⟩
  · refine hs.answers h hp hn hc (ac := .ok) (by rw [ht]; exact congrArg Prod.fst (if_pos hl)) ?_
      (hsa.rest_relocked (h.rest_answered .ok []) v)
    rw [ha, answered_card]; exact congrArg Prod.snd (if_pos hl)
  · refine hs.answers h hp hn hc (ac := .busy) (by rw [ht]; exact congrArg Prod.fst (if_neg (Nat.not_lt.2 hl))) ?_
      (h.rest_answered .busy [])
    rw [ha, answered_card]; exact congrArg Prod.snd (if_neg (Nat.not_lt.2 hl))

/-- A directive of the record that changes nothing. -/
theorem Shelf.leaves {f : Clip → State → AnswerCode × State} {ac : AnswerCode} (hf : ∀ u, f c u = (ac, u)) :
    act dt (directive code (some 4) tag p (answerThen code tag (onClip (uintAt p 0 4) f))) s =
      .next (answered dt code tag ac [] s) :=
  hs.answers h hp hn hc (by rw [hf]) (by rw [hf]) (h.rest_answered ac [])
end

/-- Settles O37, by the lock, the quota and the queue. -/
theorem lockChangesAreQueued : Obligations.LockChangesAreQueued := by
  intro dt tag p before after c s h hp hn hc hst hrec hcard hx hne hres hj
  have hs : Shelf before after c s := ⟨hst, hrec, hcard, hx, hne, hres, hj⟩
  dsimp only
  refine ⟨fun hl => ?_, fun hl => ?_, fun hl hq hr => ?_, fun hu => ⟨fun hl hq hb => ?_, fun hl hb => ?_⟩⟩
  · exact hs.leaves h hp hn hc fun u => if_pos hl
  · exact hs.leaves h hp hn hc fun u => if_pos (by rw [hl]; rfl)
  · have href : ∀ u : State, u.store = s.store → u.intake = s.intake → u.card = s.card → lockRecord c u =
        (.full, report (.lockRefused c.number c.extentCount s.store.lockedExtents s.store.quotaEff) u) :=
      fun u hu _ _ => by
        rw [lockRecord_refused hl (by rw [hu]; exact hq), hu]
    refine hs.answers h hp hn hc (by rw [href (s.tick dt) rfl rfl rfl]) ?_ (AtRest.reported (h.rest_answered .full []))
    rw [href _ (answered_store ..) (answered_intake ..) (answered_card ..)]
    exact report_of_departed (h.rest_answered .full []).2.2 (by rw [answered_reports]; exact hr)
  · exact hs.changes_lock h hp hn hc fun u h1 h2 h3 =>
      (hs.congr h1 h2 h3).lockRecord_eq hl (by rw [h3]; exact hu) (by rw [h1]; exact hq) (by rw [h1]; exact hb)
  · exact hs.changes_lock h hp hn hc fun u h1 h2 h3 =>
      (hs.congr h1 h2 h3).unlockRecord_eq hl (by rw [h3]; exact hu) (by rw [h1]; exact hb)

/-! ### DELETE CLIP (R95, R105, R123) -/

/-- Record `c` has left the store, and its trailer updates the queue. -/
def deleted (c : Clip) (s : State) : State := withdrawUpdates c.number (s.mapStore (Store.dropped c))

section
variable {before after : List Clip} {c : Clip} {s : State} (h : Shelf before after c s)
include h

theorem Shelf.deleted_index : (deleted c s).store.index = before ++ after :=
  (dropped_index c s.store).trans (filter_of_place h.index h.others)

omit h in
theorem deleted_free (hn : (s.store.chainOf c).Nodup) (ho : ∀ e ∈ s.store.chainOf c, s.store.owned e ≠ none) :
    (deleted c s).store.free = s.store.free ++ s.store.sound (s.store.chainOf c) := (releaseAll_spec hn ho).1

omit h in
/-- What a removal keeps of the store. -/
theorem dropped_keeps {α : Type} (f : Store → α) (hf : ∀ (st : Store) (l : List Clip), f { st.unmapped with index := l } = f st)
    (st : Store) : f (st.dropped c) = f st := by
  have hu : ∀ u : Store, f u.unmapped = f u := fun u => hf u u.index
  have hx : ∀ (u : Store) (l : List Clip), f { u with index := l } = f u := fun u l => by
    rw [← hf { u with index := l } l, ← hf u l]; rfl
  unfold Store.dropped
  dsimp only
  rw [hx]
  exact releaseAll_keeps f hu st _

/-- A record without a lock leaves the conditions of the store as they are. -/
theorem Shelf.deleteRecord_eq (hl : c.locked = false) (hn : (s.store.chainOf c).Nodup)
    (ho : ∀ e ∈ s.store.chainOf c, s.store.owned e ≠ none) : deleteRecord c s = (.ok, deleted c s) := by
  have htab : (deleted c s).store.tab = s.store.tab := dropped_keeps Store.tab (fun _ _ => rfl) s.store
  have hquota : (deleted c s).store.quotaEff = s.store.quotaEff := dropped_keeps Store.quotaEff (fun _ _ => rfl) s.store
  have hlow : (deleted c s).store.storeLow = s.store.storeLow := dropped_keeps Store.storeLow (fun _ _ => rfl) s.store
  have hnear : (deleted c s).store.lockNear = s.store.lockNear := dropped_keeps Store.lockNear (fun _ _ => rfl) s.store
  have hlocked : (deleted c s).store.lockedExtents = s.store.lockedExtents := by
    rw [h.lockedExtents, hl]
    show lockedOf (deleted c s).store.index = _
    rw [h.deleted_index]; rfl
  unfold deleteRecord
  rw [if_neg (by rw [not_live_of_closed h.closed]; nofun), if_neg (by rw [hl]; nofun), dropClip_eq]
  refine congrArg (Prod.mk _) (judgeStore_of_judged (s := deleted c s) ⟨?_, ?_⟩)
  · rw [hlow, h.not_low, storeLowNow_of_reserve]
    rw [htab, deleted_free hn ho, List.length_append]
    exact Nat.le_add_right_of_le h.reserve
  · rw [hnear, h.judged.2]
    unfold lockNearNow
    rw [hquota, hlocked]

/-- A part at rest rests with the record gone. -/
theorem Shelf.rest_deleted (hr : AtRest s) : AtRest (deleted c s) := by
  have hw : (deleted c s).store.writer = .idle :=
    (dropped_keeps Store.writer (fun _ _ => rfl) s.store).trans h.idle.idle
  refine hr.beside_taken h.idle.idle hw (fun d hd => ?_) h.taken (dropped_keeps Store.tab (fun _ _ => rfl) s.store) rfl rfl rfl
  rw [h.deleted_index] at hd
  exact h.others_closed d hd
end

/-- Settles O38: the record leaves with its chain released. -/
theorem deleteReleasesTheClip : Obligations.DeleteReleasesTheClip := by
  intro dt tag p before after c chain s h hp hn hc hst hrec hcard hx hne hl hres hj hchain hnd hown
  have hs : Shelf before after c s := ⟨hst, hrec, hcard, hx, hne, hres, hj⟩
  have hchainOf : s.store.chainOf c = chain := hchain
  have hdel : ∀ u : State, u.store = s.store → u.intake = s.intake → u.card = s.card →
      deleteRecord c u = (.ok, deleted c u) := fun u h1 h2 h3 =>
    (hs.congr h1 h2 h3).deleteRecord_eq hl (by rw [h1, hchainOf]; exact hnd) (by rw [h1, hchainOf]; exact hown)
  have ha := hs.congr (t := answered dt 71 tag .ok [] s) (answered_store ..) (answered_intake ..) (answered_card ..)
  have hspec := releaseAll_spec (st := s.store) hnd hown
  refine ⟨deleted c (answered dt 71 tag .ok [] s), ?_, ha.deleted_index, ?_, fun e => ?_, ?_, rfl, rfl, answered_counters ..,
    answered_intake .., ?_⟩
  · refine hs.answers h hp hn hc (ac := .ok) (by rw [hdel (s.tick dt) rfl rfl rfl]) ?_ (ha.rest_deleted (h.rest_answered .ok []))
    rw [hdel _ (answered_store ..) (answered_intake ..) (answered_card ..)]
  · show ((answered dt 71 tag .ok [] s).store.releaseAll ((answered dt 71 tag .ok [] s).store.chainOf c)).free = _
    rw [answered_store, hchainOf]; exact hspec.1
  · show ((answered dt 71 tag .ok [] s).store.releaseAll ((answered dt 71 tag .ok [] s).store.chainOf c)).extents[e]? = _
    rw [answered_store, hchainOf, hspec.2]
    by_cases he : e ∈ chain
    · obtain ⟨o, ho⟩ := Option.ne_none_iff_exists'.1 (hown e he)
      rw [if_pos he, if_pos he, ho]; rfl
    · rw [if_neg he, if_neg he]
  · exact congrArg (fun k : Card => { k with updates := k.updates.filter fun u =>
      u.clip ≠ c.number || (u.started && k.rewriting c.number) }) (answered_card ..)
  · unfold deleted answered sent
    split <;> exact ⟨rfl, rfl, rfl, rfl, rfl, rfl⟩
end Sys2Proof.Machine

/-! PROOF. An extent trailer is read back as it was written (R87, R191, R192). -/

namespace Sys2Proof.Machine

/-! ### Fields of a byte string -/

@[simp] theorem le_length (n v : Nat) : (le n v).length = n := by
  induction n generalizing v with
  | zero => rfl
  | succ n ih => exact congrArg (· + 1) (ih _)

@[simp] theorem length_markByte (b : Bool) : (markByte b).length = 1 := rfl

theorem fromLe_le {n v : Nat} (h : v < 256 ^ n) : fromLe (le n v) = v := by
  induction n generalizing v with
  | zero => rw [Nat.pow_zero] at h; unfold le fromLe; omega
  | succ n ih =>
    show (BitVec.ofNat 8 v).toNat + 256 * fromLe (le n (v / 256)) = v
    rw [ih (Nat.div_lt_of_lt_mul (by rw [← Nat.pow_succ']; exact h)), BitVec.toNat_ofNat]
    omega

/-- A field behind `x` is read in what follows `x`. -/
theorem uintAt_append_right {x y : Bytes} {i n : Nat} (h : x.length ≤ i) : uintAt (x ++ y) i n = uintAt y (i - x.length) n := by
  unfold uintAt
  rw [List.drop_append, List.drop_eq_nil_of_le h, List.nil_append]

/-- A field that starts a byte string. -/
theorem uintAt_append_left {x y : Bytes} {n : Nat} (h : x.length = n) : uintAt (x ++ y) 0 n = fromLe x := by
  unfold uintAt
  rw [List.drop_zero, ← h, List.take_left]

theorem uintAt_le_append {n v : Nat} {y : Bytes} (h : v < 256 ^ n) : uintAt (le n v ++ y) 0 n = v :=
  (uintAt_append_left (le_length n v)).trans (fromLe_le h)

theorem uintAt_mark_append {b : Bool} {y : Bytes} : uintAt (markByte b ++ y) 0 1 = if b then 1 else 0 := by
  refine (uintAt_append_left (x := markByte b) rfl).trans ?_
  cases b <;> rfl

theorem uintAt_byte_append {b : Byte} {y : Bytes} : uintAt ([b] ++ y) 0 1 = b.toNat := by
  exact uintAt_append_left (x := [b]) rfl

theorem ofByte_toByte (f : ClipFlags) : ClipFlags.ofByte f.toByte = f := by
  obtain ⟨gap, truncated, unfinished, card, continued⟩ := f
  revert gap truncated unfinished card continued
  decide

/-! ### The trailer -/

section
variable {generation n : Nat} {t : TrailerInfo}

theorem trailerFields_length : (trailerFields generation t).length = 37 := by
  simp [trailerFields, trailerMagic]

/-- A trailer block is its fields, their CRC and zeros. -/
theorem trailerBlock_fields : trailerBlock generation t =
    trailerFields generation t ++ (le 4 (crc32 (trailerFields generation t)).toNat ++ List.replicate 471 0#8) := by
  unfold trailerBlock toBlock
  dsimp only
  rw [List.length_append, trailerFields_length, le_length, List.append_assoc]
  rfl

theorem trailerBlock_length : (trailerBlock generation t).length = 512 := by
  rw [trailerBlock_fields, List.length_append, List.length_append, trailerFields_length, le_length, List.length_replicate]

theorem trailerBlock_crc : uintAt (trailerBlock generation t) 37 4 = (crc32 (trailerFields generation t)).toNat := by
  rw [trailerBlock_fields, uintAt_append_right trailerFields_length.le, trailerFields_length]
  exact uintAt_le_append (BitVec.isLt _)

theorem trailerBlock_take : (trailerBlock generation t).take 37 = trailerFields generation t := by
  rw [trailerBlock_fields]
  exact List.take_left' trailerFields_length

/-- A field of the block is one of the fields' bytes. -/
theorem uintAt_trailerBlock {i n : Nat} (h : i + n ≤ 37) :
    uintAt (trailerBlock generation t) i n = uintAt (trailerFields generation t) i n := by
  unfold uintAt
  rw [trailerBlock_fields, List.drop_append_of_le_length (by rw [trailerFields_length]; omega),
    List.take_append_of_le_length (by rw [List.length_drop, trailerFields_length]; omega)]

theorem trailerFields_eq : trailerFields generation t = trailerMagic ++ (le 4 generation ++ (le 4 t.clip ++ (le 2 t.seq ++
    (le 2 (t.prev.getD 65535) ++ (le 2 t.data ++ (markByte t.final ++ (markByte t.locked ++ ([t.flags.toByte] ++
    (le 8 t.start ++ (le 8 t.duration ++ [])))))))))) := by
  simp only [trailerFields, List.append_assoc, List.append_nil]

/-- What stands at each field of a trailer block. -/
structure TrailerRead (generation : Nat) (t : TrailerInfo) (b : Bytes) : Prop where
  generation : uintAt b 4 4 = generation
  clip : uintAt b 8 4 = t.clip
  seq : uintAt b 12 2 = t.seq
  prev : uintAt b 14 2 = t.prev.getD 65535
  data : uintAt b 16 2 = t.data
  final : uintAt b 18 1 = if t.final then 1 else 0
  locked : uintAt b 19 1 = if t.locked then 1 else 0
  flags : uintAt b 20 1 = t.flags.toByte.toNat
  start : uintAt b 21 8 = t.start
  duration : uintAt b 29 8 = t.duration

theorem trailerBlock_read (hg : generation < 4294967296) (hc : t.clip < 4294967296) (hs : t.seq < 65536)
    (hp : t.prev.getD 65535 < 65536) (hd : t.data < 65536) (hst : t.start < 18446744073709551616)
    (hdu : t.duration < 18446744073709551616) : TrailerRead generation t (trailerBlock generation t) := by
  constructor <;> rw [uintAt_trailerBlock (by omega), trailerFields_eq] <;>
    simp only [uintAt_append_right, trailerMagic, le_length, List.length_cons, List.length_nil,
      Nat.reduceAdd, Nat.reduceLeDiff, Nat.reduceSub, Nat.le_refl, Nat.sub_self]
  case generation => exact uintAt_le_append hg
  case clip => exact uintAt_le_append hc
  case seq => exact uintAt_le_append hs
  case prev => exact uintAt_le_append hp
  case data => exact uintAt_le_append hd
  case final => exact uintAt_mark_append
  case locked => exact uintAt_mark_append
  case flags => exact uintAt_byte_append
  case start => exact uintAt_le_append hst
  case duration => exact uintAt_le_append hdu
end

/-- Settles O55: the block passes each check, and its fields are the trailer's. -/
theorem trailerReadsBackAsWritten : Obligations.TrailerReadsBackAsWritten := by
  intro generation n t hg hn hc hs hd hst hdu h0 h1
  have hp : t.prev.getD 65535 < 65536 := by
    by_cases hz : t.seq = 0
    · rw [h0 hz]; decide
    · obtain ⟨q, hq, hqn⟩ := h1 hz
      rw [hq, Option.getD_some]; omega
  have hread := trailerBlock_read (generation := generation) (t := t) hg hc (by omega) hp (by omega) hst hdu
  refine ⟨trailerBlock_length, ?_⟩
  unfold parseTrailer
  rw [trailerBlock_length, if_neg (by omega), if_neg (not_not.2 (by
    rw [trailerBlock_fields, List.take_append_of_le_length (by rw [trailerFields_length]; omega), trailerFields_eq]
    exact List.take_left' rfl)), trailerBlock_take, trailerBlock_crc, if_neg (not_not.2 rfl), hread.generation,
    if_neg (not_not.2 rfl)]
  dsimp only
  rw [hread.seq, hread.prev, hread.data, hread.clip, hread.final, hread.locked, hread.flags, hread.start, hread.duration,
    if_neg (by unfold Config.dataPositions; omega), if_neg (by omega)]
  have hflags : ClipFlags.ofByte (BitVec.ofNat 8 t.flags.toByte.toNat) = t.flags := by
    rw [BitVec.ofNat_toNat, BitVec.setWidth_eq, ofByte_toByte]
  have hmark : ∀ b : Bool, decide ((if b then 1 else 0 : Nat) ≠ 0) = b := fun b => by cases b <;> rfl
  rw [hflags, hmark, hmark]
  by_cases hz : t.seq = 0
  · have hprev := h0 hz
    rw [if_neg (by simp [hprev]), if_neg (by simp [hz]), if_pos hz, ← hprev]
  · obtain ⟨q, hq, hqn⟩ := h1 hz
    rw [hq, Option.getD_some, if_neg (by simp [hz]), if_neg (by simp [Nat.not_le.2 hqn]), if_neg hz, ← hq]
end Sys2Proof.Machine

/-! PROOF. The end of the final trailer closes the clip (R84, R96, R99, R116). -/

namespace Sys2Proof.Machine

/-- The card after an operation that ended with OK. -/
def Card.rested (k : Card) : Card := { k with state := .idle, op := none, fails := 0 }

/-- A completion with OK of the writer's operation reaches the writer (R116). -/
theorem takeCompletion_writer {o : CardOp} {w : WWrite} {data : Bytes} {s : State} (hl : s.card.timedOut ≠ some s.partTime)
    (ho : s.card.op = some o) (hw : o.source = .writer w) :
    takeCompletion true data s = writerOk w (s.mapCard Card.rested) := by
  rw [takeCompletion_ok hl ho]
  unfold opOk tellOk
  rw [hw]; rfl

/-- The retry cleared where there is none. -/
theorem clearRetry_none {s : State} (h : s.store.retry = none) : clearRetry s = s := by
  show { s with store := { s.store with retry := none } } = s
  rw [← h]

/-- With no flush in progress none is counted. -/
theorem countFlush_none {f : Flush → Flush} {s : State} (h : s.store.flush = none) : countFlush f s = s := by
  show { s with store := { s.store with flush := s.store.flush.map f } } = s
  rw [h, Option.map_none, ← h]

section
variable {before : List Clip} {c : Clip} {s : State} (hx : s.store.index = before ++ [c])
  (hb : ∀ d ∈ before, d.state = .closed ∧ d.number ≠ c.number)
include hx hb

/-- The newest record changed. -/
theorem updateClip_newest (f : Clip → Clip) :
    updateClip c.number f s = s.mapStore fun st => { st with index := before ++ [f c] } := by
  refine mapStore_congr ?_
  rw [hx, map_newest fun d hd => (hb d hd).2]

omit hx in
theorem find_newest (f : Clip → Clip) (hf : (f c).number = c.number) :
    (s.mapStore fun st => { st with index := before ++ [f c] }).store.find c.number = some (f c) := by
  show (before ++ [f c]).find? (fun d => decide (d.number = c.number)) = _
  rw [List.find?_append, List.find?_eq_none.2 fun d hd => by simpa using (hb d hd).2]
  simp [hf]

/-- The newest record becomes CLOSED, with its report. -/
theorem closeClip_newest {r : CloseReason} (hr : c.reason = some r) :
    closeClip c.number s = countFlush (fun f => { f with closed := f.closed + 1 })
      (report (.clipClosed c.number r c.flags c.extentCount c.dataBlocks c.duration false)
        (s.mapStore fun st => { st with index := before ++ [{ c with state := .closed }] })) := by
  unfold closeClip
  dsimp only
  rw [updateClip_newest hx hb, find_newest hb (fun d => { d with state := .closed }) rfl]
  dsimp only
  unfold reportClosed
  dsimp only
  rw [hr]; rfl
end

/-- With every record CLOSED a STOPPING writer rests. -/
theorem restWriter_stopping {s : State} (hc : ∀ d ∈ s.store.index, d.state = .closed) (hw : s.store.writer = .stopping) :
    restWriter s = s.mapStore fun st => { st with writer := .idle } := by
  have hs : s.store.settled = true := List.all_eq_true.2 fun d hd => by rw [not_live_of_closed (hc d hd)]; rfl
  unfold restWriter
  rw [hs, if_neg (by nofun), hw]

/-- Where every record is CLOSED and the writer STOPPING, a close leads to rest with the writer IDLE, where HOLD and the store's
conditions stand. -/
theorem afterClose_stopping {s t : State} (hc : ∀ d ∈ s.store.index, d.state = .closed) (hw : s.store.writer = .stopping)
    (ht : s.mapStore (fun st => { st with writer := .idle }) = t) (hj : judgeHold t = t) (hs : StoreJudged t) :
    afterClose s = t := by
  have hr : reapEmpty s = s := by unfold reapEmpty; rw [emptyClosing_of_closed hc]; rfl
  unfold afterClose
  rw [hr, restWriter_stopping hc hw, ht, hj, judgeStore_of_judged hs]

/-- The part after the close of its newest clip `c` behind `before`: the record CLOSED, the writer IDLE, the card at rest. -/
def closedLast (before : List Clip) (c : Clip) (s : State) : State :=
  (s.mapStore fun st => { st with writer := .idle, index := before ++ [{ c with state := .closed }] }).mapCard Card.rested

section
variable {before : List Clip} {c : Clip} {s : State} (hx : s.store.index = before ++ [c])
  (hb : ∀ d ∈ before, d.state = .closed ∧ d.number ≠ c.number)

include hb in
theorem closedLast_closed : ∀ d ∈ (closedLast before c s).store.index, d.state = .closed := fun d hd => by
  obtain hd | hd := List.mem_append.1 hd
  · exact (hb d hd).1
  · rw [List.mem_singleton.1 hd]

include hb in
/-- A part at rest rests with its newest clip closed, where no other claim is pending. -/
theorem AtRest.closedLast (h : AtRest s) (hw : s.store.writer ≠ .emergency) (hu : s.card.updates = [])
    (hslot : s.card.slot = none) (hscan : s.store.scan = none) : AtRest (closedLast before c s) := by
  refine h.at_idle hw rfl (emptyClosing_of_closed (closedLast_closed hb)) (fun _ => ⟨?_, ?_, ?_⟩) rfl rfl rfl rfl
  · unfold updateClaim
    rw [show (Machine.closedLast before c s).card.updates = [] from hu]
    exact decide_eq_false (Nat.not_lt_zero _)
  · unfold scanClaim
    rw [show (Machine.closedLast before c s).store.scan = none from hscan]; rfl
  · unfold passClaim
    rw [show (Machine.closedLast before c s).card.slot = none from hslot]; rfl

include hx in
/-- With the reserve free, its conditions stand. -/
theorem StoreJudged.closedLast (hj : StoreJudged s) (hr : s.store.tab.reserve ≤ s.store.free.length) :
    StoreJudged (closedLast before c s) := by
  have hk : lockedOf (Machine.closedLast before c s).store.index = s.store.lockedExtents := by
    show lockedOf (before ++ [{ c with state := .closed }]) = lockedOf s.store.index
    rw [hx, lockedOf_append, lockedOf_append]
    unfold lockedOf
    cases hl : c.locked <;> simp [hl]
  refine ⟨?_, ?_⟩
  · refine (hj.1.trans (storeLowNow_of_reserve hr)).trans (storeLowNow_of_reserve (s := Machine.closedLast before c s) hr).symm
  · refine hj.2.trans ?_
    unfold lockNearNow
    rw [← hk]; rfl
end

/-- Settles O41: the record closed with its report, the writer IDLE, and rest. -/
theorem finalTrailerClosesTheClip : Obligations.FinalTrailerClosesTheClip := by
  intro dt before c e o r s hp h hbusy ho hsrc hu hslot hst hw hx hb hc hr hd hbuf hret hscan hfl hres hj hrep hl
  have ht : AtRest (closedLast before c (s.tick dt)) :=
    (h.tick dt).closedLast hb (by rw [tick_store, hw]; nofun) hu hslot hscan
  have hjt : StoreJudged (closedLast before c (s.tick dt)) := StoreJudged.closedLast (s := s.tick dt) hx hj hres
  have hclose := closeClip_newest (s := (s.tick dt).mapCard Card.rested) hx hb hr
  have hreport : report (.clipClosed c.number r c.flags c.extentCount c.dataBlocks c.duration false)
        (((s.tick dt).mapCard Card.rested).mapStore fun st => { st with index := before ++ [{ c with state := .closed }] }) =
      reported _ (((s.tick dt).mapCard Card.rested).mapStore fun st =>
        { st with index := before ++ [{ c with state := .closed }] }) := report_of_departed ht.2.2 hrep
  refine (ht.reported (p := .clipClosed c.number r c.flags c.extentCount c.dataBlocks c.duration false)).act hp ?_
  rw [takeCompletion_writer (s := s.tick dt) hl ho hsrc]
  unfold writerOk
  dsimp only
  rw [clearRetry_none (s := (s.tick dt).mapCard Card.rested) hret, hclose, hreport,
    countFlush_none (by rw [reported_store]; exact hfl)]
  refine afterClose_stopping (by rw [reported_store]; exact closedLast_closed (s := s) hb) (by rw [reported_store]; exact hw) ?_
    ht.reported.2.1 (hjt.congr (reported_store ..))
  rw [← reported_mapStore]; rfl
end Sys2Proof.Machine

/-! PROOF. Operations that end with ERROR on a card that goes on: the count, the report and a condition that nothing watches
(R117, R133). -/

namespace Sys2Proof.Machine

/-! ### A report that is issued or lost (R177) -/

/-- A report issued where nothing waits in the room: it leaves, joins its queue, or is lost against a full one. -/
def issued (p : Payload) (s : State) : State :=
  if s.link.reports.length < Config.reportLimit then reported p s
  else s.mapLink fun l => { l with lost := satAdd l.lost 1 }

section
variable (p : Payload) (s : State)

theorem report_eq_issued (h : departed s = true) : report p s = issued p s := by
  unfold issued
  split
  · next hr => exact report_of_departed h hr
  · next hr =>
    have ho : atOnce s = false := by
      by_contra hc
      have := (departed_open h (by simpa using hc)).2.2.1
      simp [this, Config.reportLimit] at hr
    exact report_full ho (Nat.le_of_not_lt hr)

theorem issued_eq_reported (h : s.link.reports.length < 32) : issued p s = reported p s := if_pos h

@[simp] theorem issued_store : (issued p s).store = s.store := by
  unfold issued; split
  · exact reported_store p s
  · rfl
@[simp] theorem issued_intake : (issued p s).intake = s.intake := by
  unfold issued; split
  · exact reported_intake p s
  · rfl
@[simp] theorem issued_card : (issued p s).card = s.card := by
  unfold issued; split
  · exact reported_card p s
  · rfl
@[simp] theorem issued_trig : (issued p s).trig = s.trig := by unfold issued reported; split <;> (try split) <;> rfl
@[simp] theorem issued_partTime : (issued p s).partTime = s.partTime := by unfold issued reported; split <;> (try split) <;> rfl
@[simp] theorem issued_counters : (issued p s).counters = s.counters := by unfold issued reported; split <;> (try split) <;> rfl
@[simp] theorem issued_answers : (issued p s).link.answers = s.link.answers := by
  unfold issued reported; split <;> (try split) <;> rfl

theorem issued_departed (h : departed s = true) : departed (issued p s) = true := by
  unfold issued
  split
  · unfold reported
    split
    · exact h
    · next ho => unfold departed; rw [show atOnce (s.mapLink _) = atOnce s from rfl, Bool.eq_false_iff.2 ho]; rfl
  · next hr =>
    have ho : atOnce s = false := by
      by_contra hc
      have := (departed_open h (by simpa using hc)).2.2.1
      simp [this, Config.reportLimit] at hr
    unfold departed; rw [show atOnce (s.mapLink _) = atOnce s from rfl, ho]; rfl

theorem issued_mapCard (f : Card → Card) : issued p (s.mapCard f) = (issued p s).mapCard f := by
  unfold issued reported
  rw [show (s.mapCard f).link = s.link from rfl, show atOnce (s.mapCard f) = atOnce s from rfl]
  split <;> (try split) <;> rfl
theorem issued_mapStore (f : Store → Store) : issued p (s.mapStore f) = (issued p s).mapStore f := by
  unfold issued reported
  rw [show (s.mapStore f).link = s.link from rfl, show atOnce (s.mapStore f) = atOnce s from rfl]
  split <;> (try split) <;> rfl
end

theorem AtRest.issued {p : Payload} {s : State} (h : AtRest s) : AtRest (issued p s) := by
  rw [← report_eq_issued p s h.2.2]; exact (h.kept.report p).rest

/-! ### A condition that nothing watches -/

/-- Bits that two masks share with none. -/
theorem and_eq_zero_of_cover {a b m : BitVec 16} (ha : a &&& m = 0#16) (hb : b &&& ~~~m = 0#16) : a &&& b = 0#16 := by
  ext j hj
  have h2 := congrArg (fun v : BitVec 16 => v[j]) ha
  have h3 := congrArg (fun v : BitVec 16 => v[j]) hb
  simp only [BitVec.getElem_and, BitVec.getElem_not, BitVec.getElem_zero] at h2 h3 ⊢
  revert h2 h3
  cases a[j] <;> cases b[j] <;> cases m[j] <;> simp

theorem lastAfter_unwatched {changed conds m : BitVec 16} {es : List TrigEntry} (ls : List Bool)
    (h : ∀ e ∈ es, e.mask &&& m = 0#16) (hc : changed &&& ~~~m = 0#16) : lastAfter changed conds es ls = ls := by
  induction es generalizing ls with
  | nil => unfold lastAfter; rfl
  | cons e es ih =>
    cases ls with
    | nil => rfl
    | cons l ls =>
      have he : e.mask &&& changed = 0#16 := and_eq_zero_of_cover (h e (List.mem_cons_self ..)) hc
      show (if e.mask &&& changed ≠ 0#16 then _ else l) :: lastAfter changed conds es ls = l :: ls
      rw [if_neg (not_not.2 he), ih ls fun d hd => h d (List.mem_cons_of_mem _ hd)]

/-- The conditions with those of `m` at the value `b`. -/
def withCond (m : BitVec 16) (b : Bool) (s : State) : State :=
  s.mapTrig fun t => { t with conds := (setCond m b).apply t.conds }

theorem apply_setCond (m x : BitVec 16) (b : Bool) :
    (setCond m b).apply x = if b then x ||| m else x &&& ~~~m := by
  unfold setCond Change.apply condIf
  ext j hj
  cases b <;> simp only [if_true, if_false, Bool.false_eq_true, BitVec.getElem_and, BitVec.getElem_or, BitVec.getElem_not,
    BitVec.getElem_zero]
  · simp
  · cases x[j] <;> cases m[j] <;> rfl

/-- A change of a condition that no entry watches changes its value alone. -/
theorem takeChange_unwatched {m : BitVec 16} {s : State} (h : ∀ e ∈ s.trig.entries, e.mask &&& m = 0#16) (b : Bool) :
    takeChange (setCond m b) s = withCond m b s := by
  have hc : ((setCond m b).apply s.trig.conds ^^^ s.trig.conds) &&& ~~~m = 0#16 := by
    rw [apply_setCond]
    ext j hj
    cases b <;> simp only [if_true, if_false, Bool.false_eq_true, BitVec.getElem_and, BitVec.getElem_or, BitVec.getElem_not,
      BitVec.getElem_zero, BitVec.getElem_xor] <;> cases s.trig.conds[j] <;> cases m[j] <;> rfl
  have hf : fired (setCond m b) s = [] :=
    fired_quiet (m := m) (fun e he _ => h e he) (by unfold setCond; simp)
  rw [takeChange_eq, hf, List.foldl_nil]
  show { s with trig := { s.trig with conds := _, last := lastAfter _ _ s.trig.entries s.trig.last } } = _
  rw [lastAfter_unwatched _ h hc]
  rfl

theorem takeWaiting_nil {n : Nat} {s : State} (h : s.trig.waiting = []) : takeWaiting n s = s := by
  cases n with
  | zero => rfl
  | succ n => unfold takeWaiting; rw [h]

theorem takeWaiting_cons {n : Nat} {s : State} {x : Change} {xs : List Change} (h : s.trig.waiting = x :: xs) :
    takeWaiting (n + 1) s = takeWaiting n (takeChange x (s.mapTrig fun t => { t with waiting := xs })) := by
  rw [takeWaiting, h]

theorem mapTrig_mapTrig (f g : Trig → Trig) (s : State) : (s.mapTrig f).mapTrig g = s.mapTrig fun t => g (f t) := rfl

theorem mapTrig_self {f : Trig → Trig} {s : State} (h : f s.trig = s.trig) : s.mapTrig f = s := by
  unfold State.mapTrig; rw [h]

/-- A momentary condition that is false and that no entry watches rises and falls without a trace. -/
theorem pulse_unwatched {m : BitVec 16} {s : State} (h : Unwatched m s) (hw : s.trig.waiting = []) : pulse m s = s := by
  obtain ⟨h0, he⟩ := h
  have hconds : (s.trig.conds ||| m) &&& ~~~m = s.trig.conds := by
    ext j hj
    have h2 := congrArg (fun v : BitVec 16 => v[j]) h0
    simp only [BitVec.getElem_and, BitVec.getElem_or, BitVec.getElem_not, BitVec.getElem_zero] at h2 ⊢
    revert h2
    cases s.trig.conds[j] <;> cases m[j] <;> simp
  unfold pulse hand riseAndFall Config.settleBound
  rw [takeWaiting_cons (x := setCond m true) (xs := [setCond m false]) (by rw [State.mapTrig_trig, hw]; rfl),
    takeChange_unwatched (by exact he), takeWaiting_cons (x := setCond m false) (xs := []) rfl,
    takeChange_unwatched (by exact he), takeWaiting_nil rfl]
  unfold withCond
  simp only [mapTrig_mapTrig]
  refine mapTrig_self ?_
  rw [apply_setCond, apply_setCond, if_pos rfl, if_neg (by nofun), hconds, ← hw]

/-! ### ERROR on a card that goes on (R117) -/

/-- The part after operation `o` has ended with ERROR: counted, the report issued, the card IDLE with the failure counted. -/
@[irreducible] def failedOnce (o : CardOp) (timeout : Bool) (s : State) : State :=
  (issued (.cardError o.cls o.kind o.addr o.count timeout (s.card.fails + 1))
    (s.mapCounters fun k => { k with cardErrors := satAdd k.cardErrors 1 })).mapCard fun k =>
    { k with state := .idle, op := none, fails := s.card.fails + 1 }

theorem opError_unwatched {o : CardOp} {timeout : Bool} {s : State} (hu : Unwatched condCardError s)
    (hw : s.trig.waiting = []) (hd : departed s = true) (hf : s.card.fails + 1 < 3) :
    opError o timeout s = tellError o (failedOnce o timeout s) := by
  unfold opError
  dsimp only
  rw [if_pos (show s.card.fails + 1 < Config.failLimit from hf)]
  refine congrArg (tellError o) ?_
  unfold failedOnce
  rw [report_eq_issued _ _ (by exact hd), pulse_unwatched (by
    unfold Unwatched; rw [issued_trig]; exact hu) (by rw [issued_trig]; exact hw), issued_mapCard]
  rfl

theorem takeCompletion_error {o : CardOp} {data : Bytes} {s : State} (hl : s.card.timedOut ≠ some s.partTime)
    (ho : s.card.op = some o) : takeCompletion false data s = opError o false s := by
  unfold takeCompletion
  rw [if_neg hl, ho]
  rfl

section
variable (o : CardOp) (timeout : Bool) (s : State)

@[simp] theorem failedOnce_store : (failedOnce o timeout s).store = s.store := by unfold failedOnce; exact issued_store ..
@[simp] theorem failedOnce_intake : (failedOnce o timeout s).intake = s.intake := by unfold failedOnce; exact issued_intake ..
@[simp] theorem failedOnce_partTime : (failedOnce o timeout s).partTime = s.partTime := by
  unfold failedOnce; exact issued_partTime ..
@[simp] theorem failedOnce_counters : (failedOnce o timeout s).counters =
    { s.counters with cardErrors := satAdd s.counters.cardErrors 1 } := by unfold failedOnce; exact issued_counters ..
@[simp] theorem failedOnce_card : (failedOnce o timeout s).card =
    { s.card with state := .idle, op := none, fails := s.card.fails + 1 } := by
  unfold failedOnce
  exact congrArg (fun k : Card => { k with state := .idle, op := none, fails := s.card.fails + 1 }) (issued_card ..)
@[simp] theorem failedOnce_trig : (failedOnce o timeout s).trig = s.trig := by unfold failedOnce; exact issued_trig ..
@[simp] theorem failedOnce_answers : (failedOnce o timeout s).link.answers = s.link.answers := by
  unfold failedOnce; exact issued_answers ..

theorem failedOnce_departed (h : departed s = true) : departed (failedOnce o timeout s) = true := by
  unfold failedOnce; exact issued_departed _ _ h

/-- A failure whose report finds room. -/
theorem failedOnce_reported (h : s.link.reports.length < 32) : failedOnce o timeout s =
    (reported (.cardError o.cls o.kind o.addr o.count timeout (s.card.fails + 1))
      (s.mapCounters fun k => { k with cardErrors := satAdd k.cardErrors 1 })).mapCard fun k =>
      { k with state := .idle, op := none, fails := s.card.fails + 1 } := by
  unfold failedOnce
  rw [issued_eq_reported _ (s.mapCounters fun k => { k with cardErrors := satAdd k.cardErrors 1 }) h]
end

section
variable (s : State)
@[simp] theorem outbox_mapStore (f : Store → Store) : (s.mapStore f).outbox = s.outbox := rfl
@[simp] theorem outbox_mapIntake (f : Intake → Intake) : (s.mapIntake f).outbox = s.outbox := rfl
@[simp] theorem outbox_mapCard (f : Card → Card) : (s.mapCard f).outbox = s.outbox := rfl
@[simp] theorem outbox_mapCounters (f : Counters → Counters) : (s.mapCounters f).outbox = s.outbox := rfl
@[simp] theorem outbox_mapTrig (f : Trig → Trig) : (s.mapTrig f).outbox = s.outbox := rfl
end

/-- The buffer cause of HOLD stands where the occupancy does. -/
theorem AtRest.bufCause {s t : State} (h : AtRest s) (hs : s.store.writer ≠ .emergency) (hw : t.store.writer ≠ .emergency)
    (hi : t.intake = s.intake) (hm : t.store.tab = s.store.tab) : bufCauseNow t = s.intake.bufCause := by
  rw [bufCauseNow_congr (s := s) hs hw (by rw [hi]) (by rw [hi]) hm]
  exact ((judgeHold_eq_self_iff s).1 h.2.1).1.symm

/-- What a part behind a failure keeps of rest: nothing waits, and HOLD is as judged. -/
theorem AtRest.behind_failure {s t : State} {o : CardOp} {timeout : Bool} (h : AtRest s)
    (hp : pumpStep t = none) (hb : bufCauseNow t = s.intake.bufCause) (hi : t.intake = s.intake)
    (ht : t.trig.waiting = s.trig.waiting) (ho : t.outbox = (failedOnce o timeout s).outbox) : AtRest t := by
  have hk := outbox_congr ho
  refine ⟨(settleStep_eq_none_iff t).2 ⟨ht.trans h.waiting, hp⟩, ?_, hk.2.1.trans (failedOnce_departed o timeout s h.2.2)⟩
  exact judgeHold_of_bufCause h.2.1 hb (hk.2.2.trans (failedOnce_answers ..)) (by rw [hi]; exact ⟨rfl, rfl, rfl⟩)
end Sys2Proof.Machine

/-! PROOF. The endings of trailer updates (R123, R124). -/

namespace Sys2Proof.Machine

section
variable {s : State} (hscan : s.store.scan = none) (hslot : s.card.slot = none)
include hscan hslot

/-- With nothing of the scan and no passthrough, trailer updates alone may claim the card. -/
theorem no_other_claims : scanClaim s = false ∧ passClaim s = false := by
  unfold scanClaim passClaim; rw [hscan, hslot]; exact ⟨rfl, rfl⟩

theorem claims_of_update (hw : s.store.writer = .idle) (ho : s.card.op = none) (hu : s.card.updates ≠ []) :
    claimClasses s = [3] := by
  obtain ⟨hs, hp⟩ := no_other_claims hscan hslot
  have hfree : writerFree s = false := by simp [writerFree, hw]
  have hup : updateClaim s = true := by
    unfold updateClaim Card.updating
    rw [ho]
    exact decide_eq_true (List.length_pos_iff.2 hu)
  simp [claimClasses, claimList, writerClass, dueWrite, hfree, hup, hs, hp]
end

theorem updateClaim_nil {s : State} (h : s.card.updates = []) : updateClaim s = false := by
  unfold updateClaim; rw [h]; exact decide_eq_false (Nat.not_lt_zero _)

/-- The rewrite of the only entry of the queue starts. -/
theorem startUpdate_eq {s : State} {u : Update} {c : Clip} {e : Nat} (hu : s.card.updates = [u])
    (hf : s.store.find u.clip = some c) (he : c.lastExtent = some e) : startUpdate s =
      startOp (.update u.clip) 3 .write (s.store.trailerAddress e) 1
        (trailerBlock s.store.generation (s.store.trailerOf c e (s.store.dataOf e) (!c.flags.unfinished)))
        (countRetry u.failed (s.mapCard fun k => { k with updates := [{ u with started := true }] })) := by
  unfold startUpdate
  rw [hu]
  dsimp only
  rw [hf]
  dsimp only
  rw [he]

/-- What the endings of the only trailer update are given: nothing recorded, its rewrite in flight, and nothing else at the
card. -/
structure Updating (u : Update) (c : Clip) (e : Nat) (o : CardOp) (s : State) : Prop where
  rest : AtRest s
  idle : NoRecording s
  op : s.card.op = some o
  source : o.source = .update u.clip
  updates : s.card.updates = [u]
  slot : s.card.slot = none
  scan : s.store.scan = none
  found : s.store.find u.clip = some c
  last : c.lastExtent = some e

section
variable {u : Update} {c : Clip} {e : Nat} {o : CardOp} {s : State} (h : Updating u c e o s)
include h

theorem Updating.writer : s.store.writer = .idle := h.idle.idle

omit h in
/-- With the queue empty nothing is left to do beside an IDLE writer. -/
theorem pumpStep_ended {t : State} (hw : t.store.writer = .idle) (hx : ∀ d ∈ t.store.index, d.state = .closed)
    (hk : t.store.scan = none) (hslot : t.card.slot = none) (hu : t.card.updates = []) : pumpStep t = none := by
  obtain ⟨hs, hp⟩ := no_other_claims hk hslot
  exact (pumpStep_of_idle hw).2 ⟨emptyClosing_of_closed hx, fun _ => ⟨updateClaim_nil hu, hs, hp⟩⟩

/-- An update that ends with OK leaves the queue. -/
theorem Updating.ok {dt : Nat} (hp : s.powered = true) (hl : NotLate dt s) :
    exec (.cardOpCompletion dt true []) s = .next ((s.tick dt).mapCard fun k =>
      { k with state := .idle, op := none, fails := 0, updates := [] }) := by
  obtain ⟨-, hps⟩ := no_other_claims h.scan h.slot
  refine AtRest.act ((h.rest.tick dt).at_idle (by rw [tick_store, h.writer]; nofun) h.writer
    (emptyClosing_of_closed h.idle.settled) (fun _ => ⟨updateClaim_nil rfl, ?_, hps⟩) rfl rfl rfl rfl) hp ?_
  · unfold scanClaim
    rw [State.mapCard_store, tick_store, h.scan]; rfl
  rw [takeCompletion_ok (s := s.tick dt) hl h.op]
  unfold opOk tellOk
  rw [h.source]
  show { s.tick dt with card := { s.card with state := .idle, op := none, fails := 0, updates := s.card.updates.drop 1 } } = _
  rw [h.updates]; rfl

/-- What the source of the update is told of its failure. -/
theorem Updating.error_eq {dt : Nat} (hl : NotLate dt s) (hw : Unwatched condCardError s) (hf : s.card.fails + 1 < 3) :
    takeCompletion false [] (s.tick dt) =
      if u.failed then setCardFlag u.clip (popUpdate (failedOnce o false (s.tick dt)))
      else (failedOnce o false (s.tick dt)).mapCard fun k => { k with updates := [{ u with failed := true }] } := by
  rw [takeCompletion_error (s := s.tick dt) hl h.op,
    opError_unwatched (s := s.tick dt) hw h.rest.waiting (h.rest.tick dt).2.2 hf]
  unfold tellError
  rw [h.source]
  unfold updateError
  have hu : (failedOnce o false (s.tick dt)).card.updates = [u] := by rw [failedOnce_card]; exact h.updates
  rw [hu]
  dsimp only
  rw [failedOnce_store, tick_store, h.found, if_neg (by nofun)]

/-- An update that fails the second time leaves the queue, and its record takes the CARD flag. -/
theorem Updating.given_up {dt : Nat} (hp : s.powered = true) (hl : NotLate dt s) (hw : Unwatched condCardError s)
    (hf : s.card.fails + 1 < 3) (hu : u.failed = true) :
    exec (.cardOpCompletion dt false []) s = .next (setCardFlag u.clip (popUpdate (failedOnce o false (s.tick dt)))) := by
  have hstore : (setCardFlag u.clip (popUpdate (failedOnce o false (s.tick dt)))).store =
      { s.store with index := s.store.index.map fun d =>
          if d.number = u.clip then { d with flags := { d.flags with card := true } } else d } := by
    simp [setCardFlag, updateClip, popUpdate]
  have hpump : pumpStep (setCardFlag u.clip (popUpdate (failedOnce o false (s.tick dt)))) = none := by
    refine pumpStep_ended (by rw [hstore]; exact h.writer) (fun d hd => ?_) (by rw [hstore]; exact h.scan) ?_ ?_
    · rw [hstore] at hd
      obtain ⟨b, hb, rfl⟩ := List.mem_map.1 hd
      have hbc := h.idle.settled b hb
      split <;> exact hbc
    · simp [setCardFlag, updateClip, popUpdate, h.slot]
    · simp [setCardFlag, updateClip, popUpdate, h.updates]
  refine AtRest.act ((h.rest.tick dt).behind_failure (o := o) (timeout := false) hpump ?_ ?_ ?_ ?_) hp ?_
  · exact (h.rest.tick dt).bufCause (by rw [tick_store, h.writer]; nofun) (by rw [hstore, h.writer]; nofun)
      (by simp [setCardFlag, updateClip, popUpdate]) (by rw [hstore, tick_store])
  · simp [setCardFlag, updateClip, popUpdate]
  · simp [setCardFlag, updateClip, popUpdate]
  · simp [setCardFlag, updateClip, popUpdate]
  · rw [h.error_eq hl hw hf, if_pos hu]

/-- The queue behind the first failure of its only update. -/
def failedUpdate (u : Update) (o : CardOp) (s : State) : State :=
  (failedOnce o false s).mapCard fun k => { k with updates := [{ u with failed := true }] }

/-- The rewrite that starts again. -/
def retriedUpdate (u : Update) (c : Clip) (e : Nat) (o : CardOp) (s : State) : State :=
  startOp (.update u.clip) 3 .write (s.store.trailerAddress e) 1
    (trailerBlock s.store.generation (s.store.trailerOf c e (s.store.dataOf e) (!c.flags.unfinished)))
    (countRetry true ((failedUpdate u o s).mapCard fun k => { k with updates := [{ u with started := true, failed := true }] }))

/-- An update that fails the first time starts again. -/
theorem Updating.retried {dt : Nat} (hp : s.powered = true) (hl : NotLate dt s) (hw : Unwatched condCardError s)
    (hf : s.card.fails + 1 < 3) (hu : u.failed = false) :
    exec (.cardOpCompletion dt false []) s = .next (retriedUpdate u c e o (s.tick dt)) := by
  have hstore : (failedUpdate u o (s.tick dt)).store = s.store := by simp [failedUpdate]
  have hcard : (failedUpdate u o (s.tick dt)).card =
      { s.card with state := .idle, op := none, fails := s.card.fails + 1, updates := [{ u with failed := true }] } := by
    simp [failedUpdate]
  have hempty : emptyClosing (failedUpdate u o (s.tick dt)) = [] :=
    emptyClosing_of_closed (by rw [hstore]; exact h.idle.settled)
  have hclaims := claims_of_update (s := failedUpdate u o (s.tick dt)) (by rw [hstore]; exact h.scan)
    (by rw [hcard]; exact h.slot) (by rw [hstore]; exact h.writer) (by rw [hcard]) (by rw [hcard]; nofun)
  have hstart : startClaim (failedUpdate u o (s.tick dt)) = retriedUpdate u c e o (s.tick dt) := by
    unfold startClaim
    rw [hclaims]
    show startUpdate _ = _
    rw [startUpdate_eq (u := { u with failed := true }) (c := c) (e := e) (by rw [hcard]) (by rw [hstore]; exact h.found) h.last,
      hstore]
    rfl
  have hwaiting : (failedUpdate u o (s.tick dt)).trig.waiting = [] := by simp [failedUpdate, h.rest.waiting]
  have hstep : settleStep (failedUpdate u o (s.tick dt)) = some (retriedUpdate u c e o (s.tick dt)) := by
    rw [settleStep_of_waiting hwaiting, pumpStep_claims (by rw [hstore]; exact h.writer) hempty (by rw [hcard])
      (by rw [hclaims]; nofun), hstart]
  have hrstore : (retriedUpdate u c e o (s.tick dt)).store = s.store := by
    simp [retriedUpdate, startOp, countRetry, failedUpdate]
  refine AtRest.act_step (t := failedUpdate u o (s.tick dt)) ((h.rest.tick dt).behind_failure (o := o) (timeout := false)
    ?_ ?_ ?_ ?_ ?_) hp ?_ hstep
  · exact (pumpStep_of_idle (by rw [hrstore]; exact h.writer)).2
      ⟨emptyClosing_of_closed (by rw [hrstore]; exact h.idle.settled), nofun⟩
  · exact (h.rest.tick dt).bufCause (by rw [tick_store, h.writer]; nofun) (by rw [hrstore, h.writer]; nofun)
      (by simp [retriedUpdate, startOp, countRetry, failedUpdate]) (by rw [hrstore, tick_store])
  · simp [retriedUpdate, startOp, countRetry, failedUpdate]
  · simp [retriedUpdate, startOp, countRetry, failedUpdate]
  · simp [retriedUpdate, startOp, countRetry, failedUpdate]
  · rw [h.error_eq hl hw hf, if_neg (by rw [hu]; nofun)]; rfl

end

/-- The only entry has left the queue, and the record of clip `n` takes the CARD flag. -/
theorem flagged_popped {n f : Nat} {r : State} {u : Update} (hu : r.card.updates = [u]) :
    setCardFlag n (popUpdate (r.mapCard fun k => { k with state := .idle, op := none, fails := f })) =
      (r.mapStore fun st => { st with index := st.index.map fun d =>
        if d.number = n then { d with flags := { d.flags with card := true } } else d }).mapCard fun k =>
        { k with state := .idle, op := none, fails := f, updates := [] } := by
  have hd : r.card.updates.drop 1 = [] := by rw [hu]; rfl
  exact congrArg (fun l => (r.mapStore fun st => { st with index := st.index.map fun d =>
    if d.number = n then { d with flags := { d.flags with card := true } } else d }).mapCard fun k =>
      { k with state := .idle, op := none, fails := f, updates := l }) hd

/-- The third part of O42: the endings of the only trailer update. -/
theorem updateEndings {dt : Nat} {c : Clip} {e : Nat} {u : Update} {o : CardOp} {s : State} (h : Updating u c e o s)
    (hp : s.powered = true) (hl : NotLate dt s) (hw : Unwatched condCardError s) (hr : s.link.reports.length < 32)
    (hf : s.card.fails + 1 < 3) :
    (u.failed = false → ∃ t p, exec (.cardOpCompletion dt false []) s = .next t ∧ t.store = s.store ∧
      t.card.updates = [{ u with started := true, failed := true }] ∧ t.card.state = .busy ∧ t.card.op = some p ∧
      p.source = .update u.clip ∧ p.cls = 3 ∧ p.kind = .write ∧ p.count = 1 ∧ p.start = s.partTime + dt ∧
      p.addr = s.store.areaStart + e * 16384 + 16383 ∧ t.card.fails = s.card.fails + 1 ∧
      t.counters.cardErrors = satAdd s.counters.cardErrors 1 ∧
      t.counters.cardRetries = satAdd s.counters.cardRetries 1) ∧
    (u.failed = true → exec (.cardOpCompletion dt false []) s = .next
      (((reported (.cardError o.cls o.kind o.addr o.count false (s.card.fails + 1))
        ((s.tick dt).mapCounters fun k => { k with cardErrors := satAdd k.cardErrors 1 })).mapStore fun st =>
        { st with index := st.index.map fun d =>
          if d.number = u.clip then { d with flags := { d.flags with card := true } } else d }).mapCard fun k =>
        { k with state := .idle, op := none, fails := s.card.fails + 1, updates := [] })) := by
  refine ⟨fun hu => ⟨_, _, h.retried hp hl hw hf hu, ?_, ?_, rfl, rfl, rfl, rfl, rfl, rfl, ?_, rfl, ?_, ?_, ?_⟩, fun hu => ?_⟩
  · simp [retriedUpdate, startOp, countRetry, failedUpdate]
  · simp [retriedUpdate, startOp, countRetry, failedUpdate]
  · simp [countRetry, failedUpdate]
  · simp [retriedUpdate, startOp, countRetry, failedUpdate]
  · simp [retriedUpdate, startOp, countRetry, failedUpdate]
  · simp [retriedUpdate, startOp, countRetry, failedUpdate]
  · rw [h.given_up hp hl hw hf hu]
    refine congrArg Host.Outcome.next ?_
    rw [failedOnce_reported o false (s.tick dt) hr]
    exact flagged_popped ((congrArg Card.updates (reported_card ..)).trans h.updates)
end Sys2Proof.Machine

/-! PROOF. The work of a writer with one live clip, the newest of the index: what is due, and what starts (R93, R96, R119,
R120). -/

namespace Sys2Proof.Machine

/-! ### One live clip -/

/-- The clip `c`, the newest of the index behind CLOSED ones, is the only live one of a READY store, and only its blocks are
buffered. -/
structure Solo (before : List Clip) (c : Clip) (s : State) : Prop where
  ready : s.store.state = .ready
  index : s.store.index = before ++ [c]
  others : ∀ d ∈ before, d.state = .closed ∧ d.number ≠ c.number
  live : c.state ≠ .closed
  data : 0 < c.dataBlocks
  blocks : ∀ b ∈ s.intake.buffer, b.clip = c.number

section
variable {before : List Clip} {c : Clip} {s : State} (h : Solo before c s)
include h

theorem Solo.find : s.store.find c.number = some c := by
  unfold Store.find
  rw [h.index, List.find?_append, List.find?_eq_none.2 fun d hd => by simpa using (h.others d hd).2]
  simp

theorem Solo.head (hb : s.intake.buffer ≠ []) : headClip s = some c := by
  obtain ⟨b, l, hbl⟩ := List.exists_cons_of_ne_nil hb
  unfold headClip
  rw [hbl, List.head?_cons, Option.bind_some, h.blocks b (by rw [hbl]; exact List.mem_cons_self ..)]
  exact h.find

theorem Solo.head_of {d : Clip} (hd : headClip s = some d) : d = c := by
  by_cases hb : s.intake.buffer = []
  · unfold headClip at hd
    rw [hb] at hd; cases hd
  · rw [h.head hb] at hd; exact (Option.some.inj hd).symm

theorem Solo.holds (hb : s.intake.buffer ≠ []) : s.intake.holds c.number = true := by
  obtain ⟨b, l, hbl⟩ := List.exists_cons_of_ne_nil hb
  refine List.any_eq_true.2 ⟨b, by rw [hbl]; exact List.mem_cons_self .., ?_⟩
  exact decide_eq_true (h.blocks b (by rw [hbl]; exact List.mem_cons_self ..))

theorem Solo.openClip (ho : c.state = .opened) : s.store.openClip = some c := by
  unfold Store.openClip
  rw [h.index, List.find?_append, List.find?_eq_none.2 fun d hd => by simp [(h.others d hd).1]]
  simp [ho]

/-- Among the records, what a search for CLOSING ones finds can be the newest alone. -/
theorem Solo.find_closing (p : Clip → Bool) : (s.store.index.find? fun d => decide (d.state = .closing) && p d) =
    if c.state = .closing ∧ p c = true then some c else none := by
  rw [h.index, List.find?_append, List.find?_eq_none.2 fun d hd => by simp [(h.others d hd).1], Option.none_or,
    List.find?_singleton]
  simp

theorem Solo.finalDue_none (hf : c.state = .opened ∨ s.intake.buffer ≠ []) : finalDue s = none := by
  unfold finalDue
  simp only [Bool.and_assoc]
  rw [h.find_closing fun d => decide (0 < d.dataBlocks) && !s.intake.holds d.number, if_neg]
  rintro ⟨hc, hp⟩
  obtain hf | hf := hf
  · rw [hf] at hc; cases hc
  · rw [h.holds hf] at hp; simp at hp

theorem Solo.finalDue_some (hc : c.state = .closing) (hb : s.intake.buffer = []) : finalDue s = some c := by
  unfold finalDue
  simp only [Bool.and_assoc]
  rw [h.find_closing fun d => decide (0 < d.dataBlocks) && !s.intake.holds d.number, if_pos]
  have hh : s.intake.holds c.number = false := by unfold Intake.holds; rw [hb]; rfl
  exact ⟨hc, by rw [hh]; simp [h.data]⟩

theorem Solo.emptyClosing_nil : emptyClosing s = [] := (emptyClosing_eq_nil_iff s).2 fun d hd hs h0 => by
  rw [h.index] at hd
  obtain hd | hd := List.mem_append.1 hd
  · rw [(h.others d hd).1] at hs; cases hs
  · rw [List.mem_singleton.1 hd] at h0
    exact absurd h0 (Nat.ne_of_gt h.data)

theorem Solo.unsettled : s.store.settled = false := by
  unfold Store.settled
  rw [h.index, List.all_append]
  simp [live_of_not_closed h.live]

theorem Solo.closeWork_none : closeWork s = false := by
  unfold closeWork; rw [h.emptyClosing_nil, h.unsettled]; rfl

/-- A clip whose extent takes data, or whose trailer is due, calls for no allocation. -/
theorem Solo.allocationDue_none (hp : c.phase ≠ .none ∧ c.phase ≠ .full ∧ c.phase ≠ .weak) : allocationDue s = none := by
  unfold allocationDue
  split
  · rfl
  · cases hd : headClip s with
    | none => rfl
    | some d => rw [h.head_of hd]; simp [hp]

/-- Beside a write of the writer in flight nothing is left to do. -/
theorem Solo.pumpStep_none (hw : s.card.writing = true) (hi : s.card.state ≠ .idle) : pumpStep s = none :=
  pumpStep_beside_write hw hi h.emptyClosing_nil (.inl h.unsettled)

/-! ### The due write -/

theorem Solo.writerFree_true (hw : s.store.writer ≠ .idle) (ho : s.card.op = none) : writerFree s = true := by
  have hwr : s.card.writing = false := by unfold Card.writing; rw [ho]
  simp [writerFree, h.ready, hw, hwr]

/-- With no retry, a clip that records or has blocks left is written as its phase calls for. -/
theorem Solo.dueWrite_phase (hf : writerFree s = true) (hr : s.store.retry = none)
    (hc : c.state = .opened ∨ s.intake.buffer ≠ []) : dueWrite s = phaseWrite c s := by
  unfold dueWrite
  rw [hf, if_neg (by nofun), hr, h.finalDue_none hc]
  by_cases hb : s.intake.buffer = []
  · have hh : headClip s = none := by unfold headClip; rw [hb]; rfl
    rw [hh, h.openClip (hc.resolve_right (not_not.2 hb))]; rfl
  · rw [h.head hb]

/-- With no retry and no block left, a CLOSING clip is ended. -/
theorem Solo.dueWrite_ending (hf : writerFree s = true) (hr : s.store.retry = none) (hc : c.state = .closing)
    (hb : s.intake.buffer = []) : dueWrite s = endingWrite c s := by
  unfold dueWrite
  rw [hf, if_neg (by nofun), hr, h.finalDue_some hc hb]

omit h in
theorem dueWrite_retry {w : WWrite} (hf : writerFree s = true) (hr : s.store.retry = some w) : dueWrite s = some w := by
  unfold dueWrite
  rw [hf, if_neg (by nofun), hr]

/-! ### The class and the start of a write -/

omit h in
/-- The class of a write that waits for no blocks. -/
theorem writerClass_due {w : WWrite} (hd : dueWrite s = some w) (hw : s.store.writer ≠ .emergency)
    (hb : w.isBurst = false ∨ s.store.retry.isSome = true) :
    writerClass s = some (if s.store.tab.urgentMark ≤ s.intake.occupancy then 2 else 6) := by
  unfold writerClass
  rw [hd]
  dsimp only
  rw [if_neg hw]
  by_cases hu : s.store.tab.urgentMark ≤ s.intake.occupancy
  · rw [if_pos hu, if_pos hu]
  · rw [if_neg hu, if_neg hu, if_pos]
    obtain hb | hb := hb <;> simp [hb]

omit h in
/-- The writer's write starts at an IDLE card with no other claim, where no close, no cut and no allocation is due. -/
theorem pumpStep_writes {w : WWrite} {cls : Nat} (hc : closeWork s = false) (hfl : flushSpent s = false)
    (ha : allocationDue s = none) (hi : s.card.state = .idle) (hd : dueWrite s = some w) (hw : writerClass s = some cls)
    (hcls : cls = 1 ∨ cls = 2 ∨ cls = 6) (hu : s.card.updates = []) (hscan : s.store.scan = none) (hslot : s.card.slot = none) :
    pumpStep s = some (startWriter cls w s) := by
  obtain ⟨hs, hp⟩ := no_other_claims hscan hslot
  have hclaims : claimClasses s = [cls] := by
    unfold claimClasses claimList
    rw [hw, updateClaim_nil hu, hs, hp]
    obtain rfl | rfl | rfl := hcls <;> rfl
  have hstart : startClaim s = startWriter cls w s := by
    unfold startClaim
    rw [hclaims, hd]
    obtain rfl | rfl | rfl := hcls <;> rfl
  unfold pumpStep
  rw [if_neg (by rw [hc]; nofun), if_neg (by rw [hfl]; nofun), ha]
  dsimp only
  rw [if_pos ⟨hi, by rw [hclaims]; nofun⟩, hstart]

/-- The class of a write that waits for no blocks, of a writer not in EMERGENCY. -/
def dueClass (s : State) : Nat := if s.store.tab.urgentMark ≤ s.intake.occupancy then 2 else 6

/-- A write that waits for no blocks starts at an IDLE card with no other claim. -/
theorem Solo.starts {w : WWrite} (hw : s.store.writer = .recording ∨ s.store.writer = .stopping)
    (hi : s.card.state = .idle) (hu : s.card.updates = []) (hscan : s.store.scan = none) (hslot : s.card.slot = none)
    (ha : allocationDue s = none) (hd : dueWrite s = some w) (hb : w.isBurst = false ∨ s.store.retry.isSome = true) :
    pumpStep s = some (startWriter (dueClass s) w s) := by
  have hne : s.store.writer ≠ .emergency := by obtain hw | hw := hw <;> rw [hw] <;> nofun
  refine pumpStep_writes h.closeWork_none ?_ ha hi hd (writerClass_due hd hne hb) ?_ hu hscan hslot
  · unfold flushSpent; rw [decide_eq_false hne]; rfl
  · unfold dueClass; split
    · exact .inr (.inl rfl)
    · exact .inr (.inr rfl)

omit h in
/-- A trailer's write of a clip that has its record. -/
theorem startTrailer_some {w : WWrite} {cls n e data : Nat} {final : Bool} {d : Clip} (hf : s.store.find n = some d) :
    startTrailer w cls n e data final s =
      startOp (.writer w) cls .write (s.store.trailerAddress e) 1
        (trailerBlock s.store.generation (s.store.trailerOf d e data final)) s := by
  unfold startTrailer; rw [hf]
end

/-! ### How each write starts (R120) -/

section
variable (s : State)
@[simp] theorem countRetry_store (b : Bool) : (countRetry b s).store = s.store := by unfold countRetry; split <;> rfl
@[simp] theorem countRetry_intake (b : Bool) : (countRetry b s).intake = s.intake := by unfold countRetry; split <;> rfl
@[simp] theorem countRetry_card (b : Bool) : (countRetry b s).card = s.card := by unfold countRetry; split <;> rfl
@[simp] theorem countRetry_trig (b : Bool) : (countRetry b s).trig = s.trig := by unfold countRetry; split <;> rfl
@[simp] theorem countRetry_partTime (b : Bool) : (countRetry b s).partTime = s.partTime := by unfold countRetry; split <;> rfl
@[simp] theorem countRetry_outbox (b : Bool) : (countRetry b s).outbox = s.outbox := by unfold countRetry; split <;> rfl
end

/-- A trailer write of the writer has started in `s`. -/
def trailerStarted (w : WWrite) (cls : Nat) (d : Clip) (e data : Nat) (final : Bool) (s : State) : State :=
  startOp (.writer w) cls .write (s.store.trailerAddress e) 1
    (trailerBlock s.store.generation (s.store.trailerOf d e data final)) s

section
variable {cls n e : Nat} {d : Clip} {s : State}

theorem startWriter_burst (pos k : Nat) (header counted : Bool) (data : Bytes) :
    startWriter cls (.burst n e pos k header counted data) s =
      startOp (.writer (.burst n e pos k header counted data)) cls .write (s.store.extentBase e + pos)
        (k + if header then 1 else 0) data (countRetry s.store.retry.isSome s) := by
  unfold startWriter
  dsimp only
  rw [countRetry_store]

theorem startWriter_openTrailer (hf : s.store.find n = some d) (hr : s.store.retry = none) :
    startWriter cls (.openTrailer n e) s = trailerStarted (.openTrailer n e) cls d e 0 false s := by
  unfold startWriter; rw [hr]; exact startTrailer_some hf

theorem startWriter_fullTrailer (hf : s.store.find n = some d) (hr : s.store.retry = none) :
    startWriter cls (.fullTrailer n e) s = trailerStarted (.fullTrailer n e) cls d e (s.store.dataOf e) false s := by
  unfold startWriter; rw [hr]; exact startTrailer_some hf

theorem startWriter_weakTrailer (hf : s.store.find n = some d) (hr : s.store.retry = none) :
    startWriter cls (.weakTrailer n e) s = trailerStarted (.weakTrailer n e) cls d e (s.store.dataOf e) false s := by
  unfold startWriter; rw [hr]; exact startTrailer_some hf
end

theorem RecordingInto.solo {before : List Clip} {c : Clip} {s : State} (h : RecordingInto before c s) : Solo before c s := by
  obtain ⟨h1, h2, h3, h4, h5, h6, h7, h8, h9, h10⟩ := h
  exact ⟨h1, h3, h4, by rw [h5]; nofun, h6, h8⟩

/-! ### A burst that has ended with OK (R93, R96) -/

/-- The blocks of a burst into extent `e`, of which the entry was `x`, have left the buffer, `left` behind, and are counted. -/
def landed (before : List Clip) (c : Clip) (e : Nat) (x : Owned) (n : Nat) (header : Bool) (left : List Block) (s : State) :
    State :=
  (s.mapIntake fun i => { i with buffer := left }).mapStore fun st =>
    { st with extents := st.extents.set e (.owned { x with data := x.data + (n + if header then 1 else 0) }),
              index := before ++ [{ c with dataBlocks := c.dataBlocks + n }] }

/-- An OWNED entry changed. -/
theorem modify_owned {st : Store} {e : Nat} {x : Owned} (h : st.owned e = some x) (f : Owned → Owned) :
    st.extents.modify e (Extent.mapOwned f) = st.extents.set e (.owned (f x)) := by
  have hx := owned_iff.1 h
  refine List.ext_getElem? fun j => ?_
  rw [List.getElem?_modify, List.getElem?_set]
  by_cases hj : e = j
  · subst hj
    rw [if_pos rfl, if_pos (owned_lt h), hx]
    simp [Extent.mapOwned]
  · rw [if_neg hj]; simp [hj]

theorem landed_owned {before : List Clip} {c : Clip} {e : Nat} {x : Owned} {n : Nat} {header : Bool} {left : List Block}
    {s : State} (he : s.store.owned e = some x) : (landed before c e x n header left s).store.owned e =
      some { x with data := x.data + (n + if header then 1 else 0) } :=
  (owned_set (x := .owned { x with data := x.data + (n + if header then 1 else 0) }) (owned_lt he)).trans (if_pos rfl)

theorem burstDone_eq {before : List Clip} {c : Clip} {e : Nat} {x : Owned} {taken left : List Block} {header counted : Bool}
    {s : State} (hx : s.store.index = before ++ [c]) (hb : ∀ d ∈ before, d.state = .closed ∧ d.number ≠ c.number)
    (he : s.store.owned e = some x) (hbuf : s.intake.buffer = taken ++ left) :
    burstDone c.number e taken.length header counted s =
      (let t := landed before c e x taken.length header left s
       let t := if 16383 ≤ x.data + (taken.length + if header then 1 else 0) then setPhase c.number .fullDue t else t
       judgeHold (if counted then countFlush (fun f => { f with written := f.written + taken.length }) t else t)) := by
  have hland : updateClip c.number (fun d => { d with dataBlocks := d.dataBlocks + taken.length })
      (updateOwned e (fun o => { o with data := o.data + taken.length + (if header then 1 else 0) })
        (s.mapIntake fun i => { i with buffer := i.buffer.drop taken.length })) =
      landed before c e x taken.length header left s := by
    refine mapIntake_mapStore_congr (s := s) (f := fun i => { i with buffer := i.buffer.drop taken.length })
      (f' := fun i => { i with buffer := left })
      (g := fun st => { st with
        extents := st.extents.modify e (Extent.mapOwned fun o =>
          { o with data := o.data + taken.length + (if header then 1 else 0) })
        index := st.index.map fun d => if d.number = c.number then { d with dataBlocks := d.dataBlocks + taken.length } else d })
      (g' := fun st => { st with
        extents := st.extents.set e (.owned { x with data := x.data + (taken.length + if header then 1 else 0) })
        index := before ++ [{ c with dataBlocks := c.dataBlocks + taken.length }] })
      ?_ ?_
    · rw [hbuf, List.drop_left]
    · rw [modify_owned he, hx, map_newest fun d hd => (hb d hd).2, Nat.add_assoc]
  have hdata : (landed before c e x taken.length header left s).store.dataOf e =
      x.data + (taken.length + if header then 1 else 0) := by
    unfold Store.dataOf; rw [landed_owned he]; rfl
  unfold burstDone
  dsimp only
  rw [hland, hdata]
  rfl
end Sys2Proof.Machine

/-! PROOF. The endings of a burst of the OPEN clip: counted, tried once more, or given up with its extent weak (R93, R96, R117,
R121). -/

namespace Sys2Proof.Machine

theorem formBurst_isBurst {c : Clip} {e : Nat} {s : State} {w : WWrite} (h : formBurst c e s = some w) : w.isBurst = true := by
  unfold formBurst at h
  split at h
  · cases h
  · dsimp only at h
    obtain ⟨-, h⟩ := Option.ite_none_left_eq_some.1 h
    rw [← Option.some.inj h]; rfl

/-- A clear buffer cause stays clear where the occupancy falls. -/
theorem bufCauseNow_of_fewer {s t : State} (hs : bufCauseNow s = false) (hb : s.intake.bufCause = false)
    (hw : s.store.writer ≠ .emergency) (ho : t.intake.occupancy ≤ s.intake.occupancy) (hwt : t.store.writer ≠ .emergency)
    (hm : t.store.tab = s.store.tab) (hbt : t.intake.bufCause = s.intake.bufCause) : bufCauseNow t = false := by
  unfold bufCauseNow Intake.freeBlocks at *
  rw [if_neg hw] at hs
  rw [if_neg hwt, hm, hbt, hb]
  split at hs
  · cases hs
  · rw [if_neg (by omega)]; exact ite_self _

/-- A burst of the OPEN clip `c` from its last extent `e` is in flight, its blocks `taken` at the head of the Segment Buffer, and
no other work waits at the card. -/
structure Bursting (before : List Clip) (c : Clip) (e pos : Nat) (header : Bool) (bytes : Bytes) (x : Owned)
    (taken left : List Block) (o : CardOp) (s : State) : Prop where
  rest : AtRest s
  records : RecordingInto before c s
  last : c.lastExtent = some e
  buffer : s.intake.buffer = taken ++ left
  op : s.card.op = some o
  source : o.source = .writer (.burst c.number e pos taken.length header false bytes)
  owned : s.store.owned e = some x
  updates : s.card.updates = []
  slot : s.card.slot = none
  scan : s.store.scan = none

section
variable {before : List Clip} {c : Clip} {e pos : Nat} {header : Bool} {bytes : Bytes} {x : Owned} {taken left : List Block}
  {o : CardOp} {s : State} (h : Bursting before c e pos header bytes x taken left o s)
include h

theorem Bursting.recording : s.store.writer = .recording := h.records.recording

theorem Bursting.opened : c.state = .opened := by obtain ⟨-, -, -, -, ho, -⟩ := h.records; exact ho

theorem Bursting.phase : c.phase = .writing := by obtain ⟨-, -, -, -, -, -, hp, -⟩ := h.records; exact hp

theorem Bursting.judged : StoreJudged s := by obtain ⟨-, -, -, -, -, -, -, -, -, hj⟩ := h.records; exact hj

/-- The part behind the blocks that have landed has one live clip still. -/
theorem Bursting.solo_landed (f : Card → Card) :
    Solo before { c with dataBlocks := c.dataBlocks + taken.length } (landed before c e x taken.length header left (s.mapCard f)) := by
  have hsolo := h.records.solo
  refine ⟨?_, rfl, h.records.others, hsolo.live, Nat.lt_of_lt_of_le hsolo.data (Nat.le_add_right ..), fun b hb => ?_⟩
  · exact hsolo.ready
  · exact hsolo.blocks b (by rw [h.buffer]; exact List.mem_append_right _ hb)

/-- With too few blocks left for a claim the writer waits. -/
theorem Bursting.writerClass_landed (f : Card → Card) (hr : s.store.retry = none)
    (hb : left.length + 1 < s.store.tab.burstSize) (hm : left.length + 1 < s.store.tab.urgentMark) :
    writerClass (landed before c e x taken.length header left (s.mapCard f)) = none := by
  have hsolo := h.solo_landed f
  have hocc : (landed before c e x taken.length header left (s.mapCard f)).intake.occupancy ≤ left.length + 1 := by
    show left.length + _ ≤ _
    refine Nat.add_le_add_left ?_ _
    split <;> omega
  have htab : (landed before c e x taken.length header left (s.mapCard f)).store.tab = s.store.tab := rfl
  have hw : (landed before c e x taken.length header left (s.mapCard f)).store.writer = .recording :=
    h.recording
  have hret : (landed before c e x taken.length header left (s.mapCard f)).store.retry = none := hr
  have hwant : ∀ d, headClip (landed before c e x taken.length header left (s.mapCard f)) = some d →
      burstWanted d (landed before c e x taken.length header left (s.mapCard f)) = false := fun d hd => by
    rw [hsolo.head_of hd]
    unfold burstWanted
    rw [hw, htab, if_neg (by nofun), decide_eq_false (by omega), decide_eq_false (by omega)]
    simp [h.opened]
  have hburst : ∀ w, dueWrite (landed before c e x taken.length header left (s.mapCard f)) = some w → w.isBurst = true := fun w hd => by
    by_cases hf : writerFree (landed before c e x taken.length header left (s.mapCard f)) = true
    · rw [hsolo.dueWrite_phase hf hret (.inl h.opened)] at hd
      unfold phaseWrite at hd
      rw [show ({ c with dataBlocks := c.dataBlocks + taken.length } : Clip).lastExtent = some e from h.last,
        show ({ c with dataBlocks := c.dataBlocks + taken.length } : Clip).phase = .writing from h.phase] at hd
      exact formBurst_isBurst hd
    · unfold dueWrite at hd
      rw [if_pos (by simpa using hf)] at hd; cases hd
  have hany : (headClip (landed before c e x taken.length header left (s.mapCard f))).any (fun d =>
      burstWanted d (landed before c e x taken.length header left (s.mapCard f))) = false := by
    cases hd : headClip (landed before c e x taken.length header left (s.mapCard f)) with
    | none => rfl
    | some d => exact hwant d hd
  unfold writerClass
  split
  · rfl
  · next w hd =>
    rw [hw, if_neg (by nofun), htab, if_neg (by omega), hret, hburst w hd, if_neg (by nofun), hany]
    rfl

/-- The buffer cause of HOLD stays clear where blocks leave. -/
theorem Bursting.judgeHold_landed (f : Card → Card) (hb : s.intake.bufCause = false) :
    judgeHold (landed before c e x taken.length header left (s.mapCard f)) =
      landed before c e x taken.length header left (s.mapCard f) := by
  refine judgeHold_of_bufCause h.rest.2.1 ?_ rfl ⟨rfl, rfl, rfl⟩
  have hnow : bufCauseNow s = false := by rw [← hb]; exact ((judgeHold_eq_self_iff s).1 h.rest.2.1).1.symm
  rw [hb]
  refine bufCauseNow_of_fewer (s := s) hnow hb (by rw [h.recording]; nofun) ?_ (by show s.store.writer ≠ _; rw [h.recording]; nofun)
    rfl rfl
  show left.length + _ ≤ s.intake.buffer.length + _
  rw [h.buffer, List.length_append]
  exact Nat.add_le_add_right (Nat.le_add_left ..) _
/-- The part rests with the blocks landed, too few being left for a claim. -/
theorem Bursting.rest_landed (hr : s.store.retry = none) (hb : s.intake.bufCause = false)
    (hburst : left.length + 1 < s.store.tab.burstSize) (hm : left.length + 1 < s.store.tab.urgentMark) :
    AtRest (landed before c e x taken.length header left (s.mapCard Card.rested)) := by
  have hsolo := h.solo_landed Card.rested
  obtain ⟨hs, hp⟩ := no_other_claims (s := landed before c e x taken.length header left (s.mapCard Card.rested)) h.scan h.slot
  refine ⟨(settleStep_eq_none_iff _).2 ⟨h.rest.waiting, (pumpStep_eq_none_iff _).2 ⟨hsolo.closeWork_none, ?_, ?_, ?_⟩⟩,
    h.judgeHold_landed Card.rested hb, h.rest.2.2⟩
  · show (decide (s.store.writer = .emergency) && _ && _ && _) = false
    rw [h.recording]; rfl
  · refine hsolo.allocationDue_none ?_
    rw [show ({ c with dataBlocks := c.dataBlocks + taken.length } : Clip).phase = .writing from h.phase]
    exact ⟨nofun, nofun, nofun⟩
  · rintro ⟨-, hne⟩
    refine hne ?_
    unfold claimClasses claimList
    rw [h.writerClass_landed Card.rested hr hburst hm, updateClaim_nil (by exact h.updates), hs, hp]
    rfl

/-- What the writer makes of a burst that ends with OK and leaves room in its extent. -/
theorem Bursting.writerOk_eq (hr : s.store.retry = none) (hb : s.intake.bufCause = false)
    (hroom : x.data + (taken.length + if header then 1 else 0) < 16383) :
    writerOk (.burst c.number e pos taken.length header false bytes) (s.mapCard Card.rested) =
      landed before c e x taken.length header left (s.mapCard Card.rested) := by
  unfold writerOk
  rw [clearRetry_none (s := s.mapCard Card.rested) hr]
  refine (burstDone_eq (s := s.mapCard Card.rested) h.records.index h.records.others h.owned h.buffer).trans ?_
  dsimp only
  rw [if_neg (Nat.not_le.2 hroom), if_neg Bool.false_ne_true]
  exact h.judgeHold_landed Card.rested hb
end

theorem Bursting.tick {before : List Clip} {c : Clip} {e pos : Nat} {header : Bool} {bytes : Bytes} {x : Owned}
    {taken left : List Block} {o : CardOp} {s : State} (h : Bursting before c e pos header bytes x taken left o s) (dt : Nat) :
    Bursting before c e pos header bytes x taken left o (s.tick dt) :=
  ⟨h.rest.tick dt, h.records.congr rfl rfl rfl, h.last, h.buffer, h.op, h.source, h.owned, h.updates, h.slot, h.scan⟩

section
variable {before : List Clip} {c : Clip} {e pos : Nat} {header : Bool} {bytes : Bytes} {x : Owned} {taken left : List Block}
  {o : CardOp} {s : State} (h : Bursting before c e pos header bytes x taken left o s)
include h

/-- A burst that ends with OK, too few blocks being left for a claim. -/
theorem Bursting.ok {dt : Nat} (hp : s.powered = true) (hl : NotLate dt s) (hr : s.store.retry = none)
    (hroom : x.data + (taken.length + if header then 1 else 0) < 16383) (hb : s.intake.bufCause = false)
    (hburst : left.length + 1 < s.store.tab.burstSize) (hm : left.length + 1 < s.store.tab.urgentMark) :
    exec (.cardOpCompletion dt true []) s = .next
      (landed before c e x taken.length header left ((s.tick dt).mapCard Card.rested)) := by
  refine ((h.tick dt).rest_landed hr hb hburst hm).act hp ?_
  rw [takeCompletion_writer (s := s.tick dt) hl h.op h.source, (h.tick dt).writerOk_eq hr hb hroom]

/-! ### The first ERROR -/

/-- What the writer is told of a failure. -/
theorem Bursting.error_eq {dt : Nat} (hl : NotLate dt s) (hw : Unwatched condCardError s) (hf : s.card.fails + 1 < 3) :
    takeCompletion false [] (s.tick dt) =
      writerError (.burst c.number e pos taken.length header false bytes) (failedOnce o false (s.tick dt)) := by
  rw [takeCompletion_error (s := s.tick dt) hl h.op,
    opError_unwatched (s := s.tick dt) hw h.rest.waiting (h.rest.tick dt).2.2 hf]
  unfold tellError
  rw [h.source]

/-- The one live clip stays behind a failure, with the store changed by `g` but for the index. -/
theorem Bursting.solo_failed {t : State} (hs : t.store.state = s.store.state) (hx : t.store.index = s.store.index)
    (hi : t.intake = s.intake) : Solo before c t := by
  have hsolo := h.records.solo
  exact ⟨hs.trans hsolo.ready, hx.trans hsolo.index, hsolo.others, hsolo.live, hsolo.data, by rw [hi]; exact hsolo.blocks⟩

/-- A part behind a failure, with a write of the writer started, rests. -/
theorem Bursting.rest_failed {d : Clip} {t : State} (hd : Solo before d t) (hw : t.store.writer = .recording)
    (hwr : t.card.writing = true) (hb : t.card.state ≠ .idle) (hi : t.intake = s.intake) (hm : t.store.tab = s.store.tab)
    (ht : t.trig = s.trig) (ho : t.outbox = (failedOnce o false s).outbox) : AtRest t :=
  h.rest.behind_failure (hd.pumpStep_none hwr hb)
    (h.rest.bufCause (by rw [h.recording]; nofun) (by rw [hw]; nofun) hi hm) hi (by rw [ht]) ho

/-- The burst that has failed once, to be tried again. -/
def retryDue (o : CardOp) (w : WWrite) (s : State) : State :=
  (failedOnce o false s).mapStore fun st => { st with retry := some w }

/-- A burst that fails the first time starts again. -/
theorem Bursting.retried {dt : Nat} (hp : s.powered = true) (hl : NotLate dt s) (hw : Unwatched condCardError s)
    (hf : s.card.fails + 1 < 3) (hr : s.store.retry = none) :
    let w := WWrite.burst c.number e pos taken.length header false bytes
    exec (.cardOpCompletion dt false []) s = .next (startOp (.writer w) (dueClass s) .write (s.store.extentBase e + pos)
      (taken.length + if header then 1 else 0) bytes (countRetry true (retryDue o w (s.tick dt)))) := by
  intro w
  have hv : (retryDue o w (s.tick dt)).store = { s.store with retry := some w } := by simp [retryDue]
  have hvc : (retryDue o w (s.tick dt)).card = { s.card with state := .idle, op := none, fails := s.card.fails + 1 } := by
    simp [retryDue]
  have hvi : (retryDue o w (s.tick dt)).intake = s.intake := by simp [retryDue]
  have hsolo : Solo before c (retryDue o w (s.tick dt)) := h.solo_failed (by rw [hv]) (by rw [hv]) hvi
  have hrec : (retryDue o w (s.tick dt)).store.writer = .recording := by rw [hv]; exact h.recording
  have hdue := dueWrite_retry (w := w) (hsolo.writerFree_true (by rw [hrec]; nofun) (by rw [hvc])) (by rw [hv])
  have halloc : allocationDue (retryDue o w (s.tick dt)) = none :=
    hsolo.allocationDue_none (by rw [h.phase]; exact ⟨nofun, nofun, nofun⟩)
  have hstep := hsolo.starts (.inl hrec) (by rw [hvc]) (by rw [hvc]; exact h.updates) (by rw [hv]; exact h.scan)
    (by rw [hvc]; exact h.slot) halloc hdue (.inr (by rw [hv]; rfl))
  have hcls : dueClass (retryDue o w (s.tick dt)) = dueClass s := by unfold dueClass; rw [hv, hvi]
  rw [hcls] at hstep
  have hstart : startWriter (dueClass s) w (retryDue o w (s.tick dt)) =
      startOp (.writer w) (dueClass s) .write (s.store.extentBase e + pos)
        (taken.length + if header then 1 else 0) bytes (countRetry true (retryDue o w (s.tick dt))) := by
    rw [startWriter_burst, hv]; rfl
  refine AtRest.act_step (t := retryDue o w (s.tick dt)) ?_ hp ?_
    ((settleStep_of_waiting (by simp [retryDue, h.rest.waiting])).trans (hstep.trans (congrArg some hstart)))
  · refine (h.tick dt).rest_failed (d := c) ?_ ?_ rfl nofun ?_ ?_ ?_ ?_
    · exact h.solo_failed (by simp [startOp, countRetry, hv]) (by simp [startOp, countRetry, hv]) (by simp [startOp, countRetry, hvi])
    · simp [startOp, countRetry, hrec]
    · simp [startOp, countRetry, hvi]
    · simp [startOp, countRetry, hv]
    · simp [startOp, countRetry, retryDue]
    · simp [startOp, countRetry, retryDue]
  · rw [h.error_eq hl hw hf]
    unfold writerError
    rw [failedOnce_store, tick_store, hr, if_neg (by nofun)]; rfl

/-! ### The second ERROR of a burst with confirmed blocks -/

/-- The burst given up: the extent weak, its weak trailer due. -/
def weakened (before : List Clip) (c : Clip) (e : Nat) (x : Owned) (o : CardOp) (s : State) : State :=
  (failedOnce o false s).mapStore fun st =>
    { st with retry := none, extents := st.extents.set e (.owned { x with weak := true }),
              index := before ++ [{ c with phase := .weakDue }] }

theorem Bursting.giveUp_weak {r : State} (hr : r.store = s.store) (hx : 0 < x.data) :
    giveUp (.burst c.number e pos taken.length header false bytes) r = r.mapStore fun st =>
      { st with retry := none, extents := st.extents.set e (.owned { x with weak := true }),
                index := before ++ [{ c with phase := .weakDue }] } := by
  have hown : (clearRetry r).store.owned e = some x := by
    rw [← h.owned, ← hr]; rfl
  unfold giveUp
  dsimp only
  rw [if_neg (by unfold Store.dataOf; rw [hown]; exact Nat.ne_of_gt hx)]
  unfold setPhase
  rw [updateClip_newest (before := before) (c := c) (by
    show r.store.index = _; rw [hr]; exact h.records.index) h.records.others]
  refine mapStore_congr (s := r) (f := fun st => { st with
    retry := none, extents := st.extents.modify e (Extent.mapOwned fun o => { o with weak := true })
    index := before ++ [{ c with phase := .weakDue }] }) ?_
  rw [modify_owned (by rw [hr]; exact h.owned)]

/-- A burst with confirmed blocks that fails the second time leaves its extent weak, and the weak trailer starts. -/
theorem Bursting.weak_started {dt : Nat} (hp : s.powered = true) (hl : NotLate dt s) (hw : Unwatched condCardError s)
    (hf : s.card.fails + 1 < 3) (hr : s.store.retry ≠ none) (hx : 0 < x.data) :
    exec (.cardOpCompletion dt false []) s = .next (trailerStarted (.weakTrailer c.number e) (dueClass s)
      { c with phase := .weakDue } e x.data false (weakened before c e x o (s.tick dt))) := by
  have hv : (weakened before c e x o (s.tick dt)).store = { s.store with
      retry := none, extents := s.store.extents.set e (.owned { x with weak := true })
      index := before ++ [{ c with phase := .weakDue }] } := by simp [weakened]
  have hvc : (weakened before c e x o (s.tick dt)).card =
      { s.card with state := .idle, op := none, fails := s.card.fails + 1 } := by simp [weakened]
  have hvi : (weakened before c e x o (s.tick dt)).intake = s.intake := by simp [weakened]
  have hs := h.records.solo
  have hsolo : Solo before { c with phase := .weakDue } (weakened before c e x o (s.tick dt)) :=
    ⟨by rw [hv]; exact hs.ready, by rw [hv], hs.others, hs.live, hs.data, by rw [hvi]; exact hs.blocks⟩
  have hrec : (weakened before c e x o (s.tick dt)).store.writer = .recording := by rw [hv]; exact h.recording
  have hdue : dueWrite (weakened before c e x o (s.tick dt)) = some (.weakTrailer c.number e) := by
    rw [hsolo.dueWrite_phase (hsolo.writerFree_true (by rw [hrec]; nofun) (by rw [hvc])) (by rw [hv]) (.inl h.opened)]
    unfold phaseWrite
    rw [show ({ c with phase := .weakDue } : Clip).lastExtent = some e from h.last]
  have hstep := hsolo.starts (.inl hrec) (by rw [hvc]) (by rw [hvc]; exact h.updates) (by rw [hv]; exact h.scan)
    (by rw [hvc]; exact h.slot) (hsolo.allocationDue_none ⟨nofun, nofun, nofun⟩) hdue (.inl rfl)
  have hcls : dueClass (weakened before c e x o (s.tick dt)) = dueClass s := by unfold dueClass; rw [hv, hvi]
  have hdata : (weakened before c e x o (s.tick dt)).store.dataOf e = x.data := by
    unfold Store.dataOf
    rw [hv]
    exact congrArg (fun y : Option Owned => (y.map Owned.data).getD 0)
      ((owned_set (x := .owned { x with weak := true }) (owned_lt h.owned)).trans (if_pos rfl))
  rw [hcls, startWriter_weakTrailer hsolo.find (by rw [hv]), hdata] at hstep
  refine AtRest.act_step (t := weakened before c e x o (s.tick dt)) ?_ hp ?_
    ((settleStep_of_waiting (by simp [weakened, h.rest.waiting])).trans hstep)
  · refine (h.tick dt).rest_failed (d := { c with phase := .weakDue }) ?_ ?_ rfl nofun ?_ ?_ ?_ ?_
    · exact ⟨by simp [trailerStarted, startOp, hv, hs.ready], by simp [trailerStarted, startOp, hv], hs.others, hs.live, hs.data,
        by simpa [trailerStarted, startOp, hvi] using hs.blocks⟩
    · simp [trailerStarted, startOp, hrec]
    · simp [trailerStarted, startOp, hvi]
    · simp [trailerStarted, startOp, hv]
    · simp [trailerStarted, startOp, weakened]
    · simp [trailerStarted, startOp, weakened]
  · rw [h.error_eq hl hw hf]
    unfold writerError
    rw [if_pos (by rw [failedOnce_store]; exact Option.isSome_iff_ne_none.2 hr)]
    exact (h.tick dt).giveUp_weak (by rw [failedOnce_store]) hx

end
end Sys2Proof.Machine

/-! PROOF. Settling by several steps, and the changes of STORE_LOW and LOCK_NEAR that no enabled entry watches (R95, R102,
R132, R136). -/

namespace Sys2Proof.Machine

/-! ### Settling by several steps -/

/-- Settling goes from `s` to `t` in `k` steps. -/
def Leads (k : Nat) (s t : State) : Prop := ∀ n, quiesce (n + k) s = quiesce n t

theorem Leads.refl (s : State) : Leads 0 s s := fun _ => rfl

theorem Leads.step {s t : State} (h : settleStep s = some t) : Leads 1 s t := fun n => by
  show quiesce (n + 1) s = _
  rw [quiesce, h]

theorem Leads.trans {k j : Nat} {s t u : State} (h : Leads k s t) (h' : Leads j t u) : Leads (j + k) s u := fun n => by
  rw [← Nat.add_assoc, h, h']

/-- A command whose own effect leads to rest answers the state it leads to. -/
theorem AtRest.act_leads {s t u : State} {dt k : Nat} {f : State → State} (h : AtRest u) (hp : s.powered = true)
    (hf : f (s.tick dt) = t) (ht : Leads k t u) (hk : k ≤ 4096) : Machine.act dt f s = .next u := by
  have hs : settle t = u := by
    have h1 : quiesce (4096 - k + k) t = quiesce (4096 - k) u := ht (4096 - k)
    rw [Nat.sub_add_cancel hk] at h1
    refine h1.trans ?_
    cases 4096 - k with
    | zero => rfl
    | succ n => rw [quiesce, h.1]
  unfold Machine.act
  rw [live_powered hp, hf]
  unfold Machine.finish
  rw [hs]
  exact congrArg _ (h.2.2 |> fun hd => by rw [depart_of_departed hd, settle_of_rest h.1, depart_of_departed hd])

/-- The conditions `conds` and the last values `last` stand, and no change waits. -/
def conditioned (conds : BitVec 16) (last : List Bool) (s : State) : State :=
  s.mapTrig fun t => { t with conds := conds, last := last, waiting := [] }

theorem takeChange_quiet {m : BitVec 16} {c : Change} {s : State} (h : Quiet m s) (hc : c.mask &&& ~~~m = 0#16) :
    takeChange c s = applied c s := by
  rw [takeChange_eq, fired_quiet h hc, List.foldl_nil]

/-- Waiting changes that no enabled entry watches are taken one by one. -/
theorem leads_quiet {m : BitVec 16} {cs : List Change} {s : State} (h : Quiet m s) (hw : s.trig.waiting = cs)
    (hc : ∀ c ∈ cs, c.mask &&& ~~~m = 0#16) : ∃ conds last, Leads cs.length s (conditioned conds last s) := by
  induction cs generalizing s with
  | nil =>
    refine ⟨s.trig.conds, s.trig.last, ?_⟩
    have : conditioned s.trig.conds s.trig.last s = s := mapTrig_self (by rw [← hw])
    rw [this]; exact .refl s
  | cons c cs ih =>
    have hstep : settleStep s = some (applied c (s.mapTrig fun t => { t with waiting := cs })) := by
      unfold settleStep
      rw [hw]
      dsimp only
      rw [takeChange_quiet (m := m) (by exact h) (hc c (List.mem_cons_self ..))]
    obtain ⟨conds, last, hl⟩ := ih (s := applied c (s.mapTrig fun t => { t with waiting := cs })) h rfl
      fun d hd => hc d (List.mem_cons_of_mem _ hd)
    exact ⟨conds, last, (Leads.step hstep).trans hl⟩

/-! ### A report is seen -/

theorem Issued.issued {p q : Payload} {s : State} (h : Issued p s) : Issued p (issued q s) := by
  unfold Issued
  rw [issued_partTime]
  unfold Machine.issued reported
  split
  · split
    · exact h.imp_right fun hc => List.mem_append_left _ hc
    · exact h.imp_left fun hc => List.mem_append_left _ hc
  · exact h

theorem issued_of_room {p : Payload} {s : State} (h : s.link.reports.length < 32) : Issued p (issued p s) := by
  unfold Issued
  rw [issued_partTime, issued_eq_reported p s h]
  unfold reported
  split
  · exact .inr (List.mem_append_right _ (List.mem_singleton.2 rfl))
  · exact .inl (List.mem_append_right _ (List.mem_singleton.2 rfl))

@[simp] theorem issued_frame (p : Payload) (s : State) : (issued p s).frame = s.frame := by
  unfold issued reported; split <;> (try split) <;> rfl
@[simp] theorem issued_filter (p : Payload) (s : State) : (issued p s).filter = s.filter := by
  unfold issued reported; split <;> (try split) <;> rfl

/-! ### STORE_LOW and LOCK_NEAR -/

/-- The conditions of the store. -/
def storeConds : BitVec 16 := condStoreLow ||| condLockNear

/-- From `s` to `t`, besides the store and the counters, only reports are issued and changes of STORE_LOW and LOCK_NEAR, at
most `k` of them, come to wait. -/
structure Noted (k : Nat) (s t : State) : Prop where
  intake : t.intake = s.intake
  card : t.card = s.card
  partTime : t.partTime = s.partTime
  answers : t.link.answers = s.link.answers
  frame : t.frame = s.frame
  filter : t.filter = s.filter
  departed : departed t = true
  entries : t.trig.entries = s.trig.entries
  waits : ∃ cs, t.trig.waiting = s.trig.waiting ++ cs ∧ cs.length ≤ k ∧ ∀ c ∈ cs, c.mask &&& ~~~storeConds = 0#16
  issued : ∀ p, Issued p s → Issued p t

theorem Noted.refl {s : State} (h : Machine.departed s = true) : Noted 0 s s :=
  ⟨rfl, rfl, rfl, rfl, rfl, rfl, h, rfl, ⟨[], by simp⟩, fun _ h => h⟩

section
variable {k : Nat} {s t : State} (h : Noted k s t)
include h

theorem Noted.trans {j : Nat} {u : State} (h' : Noted j t u) : Noted (k + j) s u where
  intake := h'.intake.trans h.intake
  card := h'.card.trans h.card
  partTime := h'.partTime.trans h.partTime
  answers := h'.answers.trans h.answers
  frame := h'.frame.trans h.frame
  filter := h'.filter.trans h.filter
  departed := h'.departed
  entries := h'.entries.trans h.entries
  waits := by
    obtain ⟨cs, hc, hl, hm⟩ := h.waits
    obtain ⟨ds, hd, hl', hm'⟩ := h'.waits
    refine ⟨cs ++ ds, by rw [hd, hc, List.append_assoc], by rw [List.length_append]; omega, fun c hcd => ?_⟩
    exact (List.mem_append.1 hcd).elim (hm c) (hm' c)
  issued p hp := h'.issued p (h.issued p hp)

theorem Noted.mapStore (f : Store → Store) : Noted k s (t.mapStore f) :=
  ⟨h.intake, h.card, h.partTime, h.answers, h.frame, h.filter, h.departed, h.entries, h.waits, h.issued⟩

theorem Noted.mapCounters (f : Counters → Counters) : Noted k s (t.mapCounters f) :=
  ⟨h.intake, h.card, h.partTime, h.answers, h.frame, h.filter, h.departed, h.entries, h.waits, h.issued⟩

theorem Noted.report (p : Payload) : Noted k s (report p t) := by
  rw [report_eq_issued p t h.departed]
  exact ⟨by rw [issued_intake]; exact h.intake, by rw [issued_card]; exact h.card, by rw [issued_partTime]; exact h.partTime,
    by rw [issued_answers]; exact h.answers, by rw [issued_frame]; exact h.frame, by rw [issued_filter]; exact h.filter,
    issued_departed p t h.departed, by rw [issued_trig]; exact h.entries, by rw [issued_trig]; exact h.waits,
    fun q hq => (h.issued q hq).issued⟩

theorem Noted.notify {c : Change} (hc : c.mask &&& ~~~storeConds = 0#16) : Noted (k + 1) s (notify c t) where
  intake := h.intake
  card := h.card
  partTime := h.partTime
  answers := h.answers
  frame := h.frame
  filter := h.filter
  departed := h.departed
  entries := h.entries
  waits := by
    obtain ⟨cs, hw, hl, hm⟩ := h.waits
    refine ⟨cs ++ [c], ?_, by simpa using hl, fun d hd => ?_⟩
    · show t.trig.waiting ++ [c] = _
      rw [hw, List.append_assoc]
    · obtain hd | hd := List.mem_append.1 hd
      · exact hm d hd
      · rw [List.mem_singleton.1 hd]; exact hc
  issued := h.issued

theorem Noted.weaken {j : Nat} (hj : k ≤ j) : Noted j s t := by
  obtain ⟨cs, hw, hl, hm⟩ := h.waits
  exact { h with waits := ⟨cs, hw, hl.trans hj, hm⟩ }

theorem Noted.judgeStore : Noted (k + 1) s (judgeStore t) := by
  have hmask : ∀ a b : Bool, (condIf condStoreLow a ||| condIf condLockNear b) &&& ~~~storeConds = 0#16 := by decide
  unfold Machine.judgeStore
  dsimp only
  have h1 := h.mapStore fun st => { st with storeLow := storeLowNow t, lockNear := lockNearNow t }
  have h2 : Noted k s (if (storeLowNow t && (storeLowNow t != t.store.storeLow)) = true then
      Machine.report (.storeLow t.store.free.length t.store.lockedExtents)
        (t.mapStore fun st => { st with storeLow := storeLowNow t, lockNear := lockNearNow t })
      else t.mapStore fun st => { st with storeLow := storeLowNow t, lockNear := lockNearNow t }) := by
    split
    · exact h1.report _
    · exact h1
  split
  · exact h2.notify (hmask _ _)
  · exact h2.weaken (Nat.le_succ k)
end

/-- The store with the values of STORE_LOW and LOCK_NEAR. -/
def Store.lit (low near : Bool) (st : Store) : Store := { st with storeLow := low, lockNear := near }

theorem judgeStore_store {s : State} (h : departed s = true) :
    (judgeStore s).store = s.store.lit (storeLowNow s) (lockNearNow s) := by
  unfold judgeStore
  dsimp only
  have h1 : ∀ p, (report p (s.mapStore fun st => { st with storeLow := storeLowNow s, lockNear := lockNearNow s })).store =
      s.store.lit (storeLowNow s) (lockNearNow s) := fun p => by
    rw [report_eq_issued p _ (by exact h), issued_store]; rfl
  split <;> split
  · exact h1 _
  · rfl
  · exact h1 _
  · rfl

theorem judgeStore_counters {s : State} (h : departed s = true) : (judgeStore s).counters = s.counters := by
  unfold judgeStore
  dsimp only
  have h1 : ∀ p, (report p (s.mapStore fun st => { st with storeLow := storeLowNow s, lockNear := lockNearNow s })).counters =
      s.counters := fun p => by
    rw [report_eq_issued p _ (by exact h), issued_counters]; rfl
  split <;> split
  · exact h1 _
  · rfl
  · exact h1 _
  · rfl
end Sys2Proof.Machine

/-! PROOF. Reclaim and allocation by what they make of the store (R94, R95). -/

namespace Sys2Proof.Machine

/-! ### STORE_LOW and LOCK_NEAR beside a reclaim -/

section
variable (low near : Bool) (st : Store)

theorem lit_release (i : Nat) : (st.lit low near).release i = (st.release i).lit low near := by
  unfold Store.release
  rw [show (st.lit low near).owned i = st.owned i from rfl]
  split
  · split <;> rfl
  · rfl

theorem lit_releaseAll (m : List Nat) : (st.lit low near).releaseAll m = (st.releaseAll m).lit low near := by
  induction m generalizing st with
  | nil => rfl
  | cons i m ih =>
    show ((st.lit low near).release i).releaseAll m = ((st.release i).releaseAll m).lit low near
    rw [lit_release, ih]

theorem lit_chain (n : Nat) (i : Option Nat) : (st.lit low near).chain n i = st.chain n i :=
  chain_congr fun _ _ => rfl

theorem lit_dropped (c : Clip) : (st.lit low near).dropped c = (st.dropped c).lit low near := by
  unfold Store.dropped
  dsimp only
  rw [show (st.lit low near).chainOf c = st.chainOf c from lit_chain low near st _ _, lit_releaseAll]
  rfl

theorem lit_self : (st.lit low near).lit st.storeLow st.lockNear = st := rfl
end

/-! ### Reclaim -/

/-- The records `cs` are reclaimed one after the other from `st`, which leaves `st'`: each was the oldest reclaimable one while
the Free List held fewer than `want` extents. -/
inductive Reclaims (want : Nat) : Store → List Clip → Store → Prop
  | done {st : Store} (h : want ≤ st.free.length ∨ st.oldestReclaimable = none) : Reclaims want st [] st
  | next {st st' : Store} {c : Clip} {cs : List Clip} (hf : st.free.length < want) (ho : st.oldestReclaimable = some c)
      (h : Reclaims want (st.dropped c) cs st') : Reclaims want st (c :: cs) st'

theorem Reclaims.lit {want : Nat} {st st' : Store} {cs : List Clip} (h : Reclaims want st cs st') (low near : Bool) :
    Reclaims want (st.lit low near) cs (st'.lit low near) := by
  induction h with
  | done h => exact .done h
  | next hf ho _ ih => exact .next hf ho (by rw [lit_dropped]; exact ih)

/-- What removals of CLOSED records keep, reclaims keep. -/
theorem Reclaims.keeps {want : Nat} {st st' : Store} {cs : List Clip} (h : Reclaims want st cs st') {P : Store → Prop}
    (hp : ∀ (u : Store) (c : Clip), P u → c ∈ u.index → c.state = .closed → c.locked = false → P (u.dropped c)) (h0 : P st) : P st' := by
  induction h with
  | done => exact h0
  | next _ ho _ ih =>
    obtain ⟨hm, hr⟩ := oldestReclaimable_mem ho
    exact ih (hp _ _ h0 hm hr.1 hr.2)

theorem withdrawUpdates_nil {n : Nat} {s : State} (h : s.card.updates = []) : withdrawUpdates n s = s := by
  unfold withdrawUpdates
  show { s with card := { s.card with updates := s.card.updates.filter _ } } = s
  rw [h, List.filter_nil, ← h]

theorem dropped_length {st : Store} {c : Clip} (h : c ∈ st.index) : (st.dropped c).index.length < st.index.length := by
  rw [dropped_index]
  exact List.length_filter_lt_length_iff_exists.2 ⟨c, h, by simp⟩

section
variable {c : Clip} {s : State} (hd : departed s = true) (hu : s.card.updates = [])
include hd hu

theorem noted_reclaim : Noted 1 s (reclaim c s) := by
  unfold reclaim
  rw [dropClip_eq, withdrawUpdates_nil (by exact hu)]
  exact (((Noted.refl hd).mapStore _).judgeStore).mapCounters _

theorem reclaim_store : (reclaim c s).store = (s.store.dropped c).lit (storeLowNow (s.mapStore (Store.dropped c)))
    (lockNearNow (s.mapStore (Store.dropped c))) := by
  unfold reclaim
  rw [dropClip_eq, withdrawUpdates_nil (by exact hu)]
  exact judgeStore_store (s := s.mapStore (Store.dropped c)) hd

theorem reclaim_counters : (reclaim c s).counters =
    { s.counters with reclaimedClips := satAdd s.counters.reclaimedClips 1 } := by
  unfold reclaim
  rw [dropClip_eq, withdrawUpdates_nil (by exact hu)]
  exact congrArg (fun k : Counters => { k with reclaimedClips := satAdd k.reclaimedClips 1 })
    (judgeStore_counters (s := s.mapStore (Store.dropped c)) hd)
end

/-- `n` clips more are counted as reclaimed. -/
def Counters.reclaimed (n : Nat) (k : Counters) : Counters :=
  { k with reclaimedClips := (fun m => satAdd m 1)^[n] k.reclaimedClips }

/-- What the reclaims for `want` extents make of a part with no trailer update. -/
theorem reclaimUntil_spec {want n : Nat} {s : State} (hn : s.store.index.length ≤ n) (hd : departed s = true)
    (hu : s.card.updates = []) : ∃ cs st low near, Reclaims want s.store cs st ∧
      (reclaimUntil want n s).store = st.lit low near ∧ Noted cs.length s (reclaimUntil want n s) ∧
      (reclaimUntil want n s).counters = s.counters.reclaimed cs.length := by
  induction n generalizing s with
  | zero =>
    refine ⟨[], s.store, s.store.storeLow, s.store.lockNear, .done (.inr ?_), rfl, .refl hd, rfl⟩
    unfold Store.oldestReclaimable
    rw [List.length_eq_zero_iff.1 (Nat.le_zero.1 hn)]; rfl
  | succ n ih =>
    unfold reclaimUntil
    split
    · next hf =>
      split
      · next c ho =>
        have hstore := reclaim_store (c := c) hd hu
        have hnote := noted_reclaim (c := c) hd hu
        have hlen : (reclaim c s).store.index.length ≤ n := by
          rw [hstore]
          exact Nat.le_of_lt_succ ((dropped_length (oldestReclaimable_mem ho).1).trans_le hn)
        obtain ⟨cs, st, low, near, hr, hst, hk, hc⟩ := ih hlen hnote.departed (hnote.card ▸ hu)
        rw [hstore] at hr
        refine ⟨c :: cs, st.lit s.store.storeLow s.store.lockNear, low, near, .next hf ho ?_, hst, ?_, ?_⟩
        · have hl := hr.lit s.store.storeLow s.store.lockNear
          have hself : ∀ a b, ((s.store.dropped c).lit a b).lit s.store.storeLow s.store.lockNear = s.store.dropped c :=
            fun a b => by
              have h1 : (s.store.dropped c).storeLow = s.store.storeLow := dropped_keeps Store.storeLow (fun _ _ => rfl) s.store
              have h2 : (s.store.dropped c).lockNear = s.store.lockNear := dropped_keeps Store.lockNear (fun _ _ => rfl) s.store
              rw [← h1, ← h2]; rfl
          rw [hself] at hl
          exact hl
        · rw [List.length_cons, Nat.add_comm]; exact hnote.trans hk
        · rw [hc, reclaim_counters hd hu]
          unfold Counters.reclaimed
          rw [List.length_cons, Function.iterate_succ_apply]
      · next ho => exact ⟨[], s.store, s.store.storeLow, s.store.lockNear, .done (.inr ho), rfl, .refl hd, rfl⟩
    · next hf => exact ⟨[], s.store, s.store.storeLow, s.store.lockNear, .done (.inl (Nat.le_of_not_lt hf)), rfl, .refl hd, rfl⟩

/-! ### Allocation -/

/-- The store with its Free List's head `e` chained as the last extent of record `c`. -/
def Store.chained (c : Clip) (e : Nat) (st : Store) : Store :=
  { st with
    extents := (st.linkTo c e).set e (.owned ⟨false, c.number, c.extentCount, none, 0⟩)
    free := st.free.drop 1
    index := st.index.map fun d => if d.number = c.number then d.chained e else d }

/-- What an allocation below the quota makes of a part with no trailer update and an extent to take. -/
theorem allocate_spec {c : Clip} {s : State} (hd : departed s = true) (hu : s.card.updates = [])
    (hq : (c.locked && decide (s.store.quotaEff < s.store.lockedExtents + 1)) = false) :
    ∃ cs A, Reclaims 1 s.store cs A ∧ ∀ e es, A.free = e :: es → ∃ ds B low near,
      Reclaims A.tab.reserve (A.chained c e) ds B ∧ (allocate c s).store = B.lit low near ∧
      Noted (cs.length + 1 + ds.length) s (allocate c s) ∧
      (allocate c s).counters = (s.counters.reclaimed cs.length).reclaimed ds.length := by
  obtain ⟨cs, A, low, near, hr, hst, hk, hc⟩ := reclaimUntil_spec (want := 1) (Nat.le_refl s.store.index.length) hd hu
  refine ⟨cs, A, hr, fun e es he => ?_⟩
  unfold allocate
  dsimp only
  rw [if_neg (by rw [hq]; nofun)]
  generalize hr1 : reclaimUntil 1 s.store.index.length s = r at *
  have hfree : r.store.free = e :: es := by rw [hst]; exact he
  rw [hfree]
  dsimp only
  have hch : chainExtent c e r = r.mapStore (Store.chained c e) := chainExtent_eq c e r
  have hnote : Noted (cs.length + 1) s (judgeStore (chainExtent c e r)) := by
    rw [hch]; exact (hk.mapStore _).judgeStore
  have hstore : ∃ low near, (judgeStore (chainExtent c e r)).store = (A.chained c e).lit low near := by
    rw [judgeStore_store (by rw [hch]; exact hk.departed), hch, State.mapStore_store, hst]
    exact ⟨_, _, rfl⟩
  have hcount : (judgeStore (chainExtent c e r)).counters = s.counters.reclaimed cs.length := by
    rw [judgeStore_counters (by rw [hch]; exact hk.departed), hch, ← hc]; rfl
  generalize judgeStore (chainExtent c e r) = q at hnote hstore hcount
  obtain ⟨low', near', hstq⟩ := hstore
  obtain ⟨ds, B, low'', near'', hrq, hstr, hkq, hcq⟩ := reclaimUntil_spec (want := q.store.tab.reserve)
    (Nat.le_refl q.store.index.length) hnote.departed (hnote.card ▸ hu)
  rw [hstq] at hrq
  refine ⟨ds, B.lit (A.chained c e).storeLow (A.chained c e).lockNear, low'', near'', ?_, hstr, hnote.trans hkq, ?_⟩
  · have hl := hrq.lit (A.chained c e).storeLow (A.chained c e).lockNear
    exact hl
  · rw [hcq, hcount]
end Sys2Proof.Machine

/-! PROOF. A burst without a confirmed block is given up: its extent is BAD and out of the chain (R96, R121). -/

namespace Sys2Proof.Machine

/-! ### Settling keeps what its steps keep -/

theorem quiesce_keeps {P : State → Prop} (hs : ∀ t u, P t → settleStep t = some u → P u) {s : State} (h : P s) (n : Nat) :
    P (quiesce n s) := by
  induction n generalizing s with
  | zero => exact h
  | succ n ih =>
    unfold quiesce
    split
    · next t ht => exact ih (hs _ _ h ht)
    · exact h

/-- What the steps of settling keep in a part of which nothing waits to leave, a command's end keeps. -/
theorem finish_keeps_steps {P : State → Prop} (hs : ∀ t u, P t → settleStep t = some u → P u)
    (hd : ∀ t, P t → departed t = true) {s : State} (h : P s) : P (finish s) := by
  have hset : ∀ {t : State}, P t → P (depart (settle t)) := fun ht => by
    have h1 := quiesce_keeps hs ht Config.settleBound
    unfold settle
    rw [depart_of_departed (hd _ h1)]; exact h1
  unfold finish
  exact hset (hset h)

/-! ### The work of a writer that is alone at the card -/

/-- With one live clip and no other claim, the writer RECORDING or STOPPING, the work is an allocation or the start of the due
write. -/
theorem Solo.pump_cases {before : List Clip} {c : Clip} {s u : State} (h : Solo before c s)
    (hw : s.store.writer = .recording) (hu : s.card.updates = []) (hscan : s.store.scan = none)
    (hslot : s.card.slot = none) (hp : pumpStep s = some u) :
    (allocationDue s = some c ∧ u = allocate c s) ∨ ∃ cls w, dueWrite s = some w ∧ u = startWriter cls w s := by
  unfold pumpStep at hp
  rw [if_neg (by rw [h.closeWork_none]; nofun),
    if_neg (by unfold flushSpent; rw [hw]; nofun)] at hp
  split at hp
  · next d hd =>
    cases hp
    have hdc : d = c := by
      unfold allocationDue at hd
      split at hd
      · cases hd
      · split at hd
        · next e he =>
          obtain ⟨-, hed⟩ := Option.ite_none_right_eq_some.1 hd
          rw [← Option.some.inj hed]; exact h.head_of he
        · cases hd
    exact .inl ⟨by rw [hd, hdc], by rw [hdc]⟩
  · split at hp
    · next hc =>
      cases hp
      obtain ⟨hs, hpa⟩ := no_other_claims hscan hslot
      have hclass := hc.2
      unfold claimClasses claimList at hclass
      rw [updateClaim_nil hu, hs, hpa] at hclass
      cases hd : dueWrite s with
      | none => simp [writerClass, hd] at hclass
      | some w =>
        refine .inr ?_
        have hcl : claimClasses s = (if writerClass s = some 1 then [1] else []) ++ (if writerClass s = some 2 then [2] else []) ++
            (if writerClass s = some 6 then [6] else []) := by
          unfold claimClasses claimList; rw [updateClaim_nil hu, hs, hpa]; simp
        have hcase : claimClasses s = [] ∨ claimClasses s = [1] ∨ claimClasses s = [2] ∨ claimClasses s = [6] := by
          rw [hcl]
          by_cases h1 : writerClass s = some 1
          · simp [h1]
          · by_cases h2 : writerClass s = some 2
            · simp [h2]
            · by_cases h6 : writerClass s = some 6
              · simp [h6]
              · simp [h1, h2, h6]
        unfold startClaim
        obtain h0 | h1 | h2 | h6 := hcase
        · exact absurd h0 hc.2
        · rw [h1, hd]; exact ⟨1, w, rfl, rfl⟩
        · rw [h2, hd]; exact ⟨2, w, rfl, rfl⟩
        · rw [h6, hd]; exact ⟨6, w, rfl, rfl⟩
    · cases hp

/-! ### An extent out of its chain -/

/-- What a removal of another record keeps of a store in which extent `e` is BAD and the OPEN clip `d` has no part in it. -/
def BadIn (e : Nat) (d : Clip) (t : Store) (u : Store) : Prop :=
  (∃ l, u.index = l ++ [d] ∧ ∀ b ∈ l, b.state = .closed ∧ b.number ≠ d.number) ∧ u.extents[e]? = some .bad ∧ e ∉ u.free ∧
    u.state = t.state ∧ u.writer = t.writer ∧ u.retry = t.retry ∧ u.scan = t.scan

theorem release_bad {e i : Nat} {st : Store} (h : st.extents[e]? = some .bad ∧ e ∉ st.free) :
    (st.release i).extents[e]? = some .bad ∧ e ∉ (st.release i).free := by
  unfold Store.release
  split
  · next o ho =>
    have hi : e ≠ i := fun hei => by
      have := owned_iff.1 ho
      rw [← hei, h.1] at this; cases this
    split
    · exact ⟨by rw [List.getElem?_set_ne (Ne.symm hi)]; exact h.1, h.2⟩
    · refine ⟨by rw [List.getElem?_set_ne (Ne.symm hi)]; exact h.1, fun hm => ?_⟩
      exact (List.mem_append.1 hm).elim h.2 fun h1 => hi (List.mem_singleton.1 h1)
  · exact h

theorem releaseAll_bad {e : Nat} {st : Store} (m : List Nat) (h : st.extents[e]? = some .bad ∧ e ∉ st.free) :
    (st.releaseAll m).extents[e]? = some .bad ∧ e ∉ (st.releaseAll m).free := by
  induction m generalizing st with
  | nil => exact h
  | cons i m ih => exact ih (release_bad h)

theorem BadIn.dropped {e : Nat} {c d : Clip} {t u : Store} (h : BadIn e d t u) (ho : d.state = .opened) (hc : c ∈ u.index)
    (hs : c.state = .closed) : BadIn e d t (u.dropped c) := by
  obtain ⟨⟨l, hx, hl⟩, hb, hf, h1, h2, h3, h4⟩ := h
  obtain ⟨hb', hf'⟩ := releaseAll_bad (u.chainOf c) ⟨hb, hf⟩
  have hne : d.number ≠ c.number := by
    rw [hx] at hc
    obtain hc | hc := List.mem_append.1 hc
    · exact Ne.symm (hl c hc).2
    · rw [List.mem_singleton.1 hc, ho] at hs; cases hs
  refine ⟨⟨l.filter fun b => b.number ≠ c.number, ?_, fun b hb => hl b (List.mem_filter.1 hb).1⟩, hb', hf', ?_, ?_, ?_, ?_⟩
  · rw [dropped_index, hx, List.filter_append, List.filter_singleton]
    simp [hne]
  · exact (dropped_keeps Store.state (fun _ _ => rfl) u).trans h1
  · exact (dropped_keeps Store.writer (fun _ _ => rfl) u).trans h2
  · exact (dropped_keeps Store.retry (fun _ _ => rfl) u).trans h3
  · exact (dropped_keeps Store.scan (fun _ _ => rfl) u).trans h4

/-- Extent `e` is BAD, out of the Free List and out of the chain of the OPEN clip `n`, whose `m` blocks count and whose extent
the part is to replace. -/
structure Severed (e n m fails : Nat) (buffer : List Block) (t : State) : Prop where
  ready : t.store.state = .ready
  writer : t.store.writer = .recording
  retry : t.store.retry = none
  scan : t.store.scan = none
  updates : t.card.updates = []
  slot : t.card.slot = none
  fails : t.card.fails = fails
  buffer : t.intake.buffer = buffer
  quiet : Quiet storeConds t
  waits : ∀ c ∈ t.trig.waiting, c.mask &&& ~~~storeConds = 0#16
  departed : departed t = true
  bad : t.store.extents[e]? = some .bad
  free : e ∉ t.store.free
  clip : ∃ l d, t.store.index = l ++ [d] ∧ (∀ b ∈ l, b.state = .closed ∧ b.number ≠ d.number) ∧ d.number = n ∧
    d.state = .opened ∧ d.locked = false ∧ d.firstExtent ≠ some e ∧ d.lastExtent ≠ some e ∧ d.dataBlocks = m ∧
    ((d.phase = .none ∨ d.phase = .full ∨ d.phase = .weak) ∧ t.store.free ≠ [] ∨ d.phase = .opening)

section
variable {e n m fails : Nat} {buffer : List Block} {t : State}

theorem Severed.noted {k : Nat} {u : State} (h : Severed e n m fails buffer t) (hk : Noted k t u) {B : Store} {low near : Bool}
    (hs : u.store = B.lit low near) {d : Clip} (hb : BadIn e d t.store B) (hn : d.number = n) (ho : d.state = .opened)
    (hl : d.locked = false) (hfirst : d.firstExtent ≠ some e) (hlast : d.lastExtent ≠ some e) (hm : d.dataBlocks = m)
    (hp : d.phase = .opening) : Severed e n m fails buffer u := by
  obtain ⟨⟨l, hx, hcl⟩, hbad, hfree, h1, h2, h3, h4⟩ := hb
  obtain ⟨cs, hw, -, hcs⟩ := hk.waits
  refine ⟨?_, ?_, ?_, ?_, by rw [hk.card]; exact h.updates, by rw [hk.card]; exact h.slot, by rw [hk.card]; exact h.fails,
    by rw [hk.intake]; exact h.buffer, fun x hx => h.quiet x (hk.entries ▸ hx), fun x hx => ?_, hk.departed, ?_, ?_,
    l, d, by rw [hs]; exact hx, hcl, hn, ho, hl, hfirst, hlast, hm, .inr hp⟩
  · rw [hs]; exact h1.trans h.ready
  · rw [hs]; exact h2.trans h.writer
  · rw [hs]; exact h3.trans h.retry
  · rw [hs]; exact h4.trans h.scan
  · rw [hw] at hx
    exact (List.mem_append.1 hx).elim (h.waits x) (hcs x)
  · rw [hs]; exact hbad
  · rw [hs]; exact hfree

/-- A change that waits is taken without a firing. -/
theorem Severed.take {c : Change} {cs : List Change} (h : Severed e n m fails buffer t) (hw : t.trig.waiting = c :: cs) :
    Severed e n m fails buffer (takeChange c (t.mapTrig fun q => { q with waiting := cs })) := by
  have hm := h.waits
  rw [hw] at hm
  rw [takeChange_quiet (m := storeConds) (by exact h.quiet) (hm c (List.mem_cons_self ..))]
  exact ⟨h.ready, h.writer, h.retry, h.scan, h.updates, h.slot, h.fails, h.buffer, h.quiet,
    fun x hx => hm x (List.mem_cons_of_mem _ hx), h.departed, h.bad, h.free, h.clip⟩

/-- STORE_LOW and LOCK_NEAR are judged. -/
theorem Severed.judgeStore (h : Severed e n m fails buffer t) : Severed e n m fails buffer (judgeStore t) := by
  have hk := (Noted.refl h.departed).judgeStore
  have hs := judgeStore_store h.departed
  obtain ⟨cs, hw, -, hcs⟩ := hk.waits
  refine ⟨by rw [hs]; exact h.ready, by rw [hs]; exact h.writer, by rw [hs]; exact h.retry, by rw [hs]; exact h.scan,
    by rw [hk.card]; exact h.updates, by rw [hk.card]; exact h.slot, by rw [hk.card]; exact h.fails,
    by rw [hk.intake]; exact h.buffer, fun x hx => h.quiet x (hk.entries ▸ hx), fun x hx => ?_, hk.departed,
    by rw [hs]; exact h.bad, by rw [hs]; exact h.free, by rw [hs]; exact h.clip⟩
  rw [hw] at hx
  exact (List.mem_append.1 hx).elim (h.waits x) (hcs x)

theorem linkTo_bad {c : Clip} {f : Nat} {st : Store} (h : st.extents[e]? = some .bad) : (st.linkTo c f)[e]? = some .bad := by
  unfold Store.linkTo
  split
  · next p _ =>
    rw [List.getElem?_modify, h]
    split <;> rfl
  · exact h

/-- An allocation chains another extent. -/
theorem Severed.allocate {l : List Clip} {d : Clip} (h : Severed e n m fails buffer t) (hx : t.store.index = l ++ [d])
    (hl : ∀ b ∈ l, b.state = .closed ∧ b.number ≠ d.number) (hn : d.number = n) (ho : d.state = .opened)
    (hk : d.locked = false) (hfirst : d.firstExtent ≠ some e) (hm : d.dataBlocks = m) (hf : t.store.free ≠ []) :
    Severed e n m fails buffer (allocate d t) := by
  obtain ⟨f, es, hfe⟩ := List.exists_cons_of_ne_nil hf
  have hef : e ≠ f := fun hc => h.free (by rw [hfe, hc]; exact List.mem_cons_self ..)
  obtain ⟨cs, A, hr, hall⟩ := allocate_spec (c := d) h.departed h.updates (by rw [hk]; rfl)
  have hA : A = t.store := by
    cases hr with
    | done => rfl
    | next hlt => rw [hfe, List.length_cons] at hlt; omega
  subst hA
  obtain ⟨ds, B, low, near, hrB, hs, hnote, -⟩ := hall f es hfe
  have h0 : BadIn e (d.chained f) t.store (t.store.chained d f) := by
    refine ⟨⟨l, ?_, hl⟩, ?_, ?_, rfl, rfl, rfl, rfl⟩
    · show (t.store.index.map fun b => if b.number = d.number then b.chained f else b) = _
      rw [hx, map_newest fun b hb => (hl b hb).2]
    · show ((t.store.linkTo d f).set f _)[e]? = _
      rw [List.getElem?_set_ne (Ne.symm hef)]
      exact linkTo_bad h.bad
    · exact fun hc => h.free (List.mem_of_mem_drop hc)
  refine h.noted hnote hs (hrB.keeps (P := BadIn e (d.chained f) t.store) (fun u c hu hc hcl _ => hu.dropped ho hc hcl) h0) hn ho hk ?_ ?_ hm rfl
  · show some (d.firstExtent.getD f) ≠ some e
    cases hd : d.firstExtent with
    | none => exact fun hc => hef (Option.some.inj hc).symm
    | some a => rw [hd] at hfirst; exact hfirst
  · exact fun hc => hef (Option.some.inj hc).symm

/-- Settling keeps the extent out. -/
theorem Severed.step {u : State} (hb : ∀ b ∈ buffer, b.clip = n) (hm0 : 0 < m) (h : Severed e n m fails buffer t)
    (hu : settleStep t = some u) : Severed e n m fails buffer u := by
  unfold settleStep at hu
  split at hu
  · next hw => cases hu; exact h.take hw
  · obtain ⟨l, d, hx, hl, hn, ho, hk, hfirst, hlast, hm, hphase⟩ := h.clip
    have hsolo : Solo l d t := ⟨h.ready, hx, hl, by rw [ho]; nofun, by rw [hm]; exact hm0,
      fun b hbm => by rw [hn]; exact hb b (h.buffer ▸ hbm)⟩
    obtain ⟨hd, rfl⟩ | ⟨cls, w, hd, rfl⟩ := hsolo.pump_cases h.writer h.updates h.scan h.slot hu
    · refine h.allocate hx hl hn ho hk hfirst hm ?_
      obtain ⟨-, hf⟩ | hp := hphase
      · exact hf
      · rw [hsolo.allocationDue_none (by rw [hp]; exact ⟨nofun, nofun, nofun⟩)] at hd; cases hd
    · have hfree : writerFree t = true := by
        unfold dueWrite at hd
        split at hd
        · cases hd
        · next hf => simpa using hf
      rw [hsolo.dueWrite_phase hfree h.retry (.inl ho)] at hd
      unfold phaseWrite at hd
      split at hd
      · cases hd
      · next a ha =>
        obtain ⟨hp, -⟩ | hp := hphase
        · obtain hp | hp | hp := hp <;> rw [hp] at hd <;> cases hd
        · rw [hp] at hd
          cases hd
          rw [startWriter_openTrailer hsolo.find h.retry]
          exact ⟨h.ready, h.writer, h.retry, h.scan, h.updates, h.slot, h.fails, h.buffer, h.quiet, h.waits, h.departed, h.bad,
            h.free, h.clip⟩
end

/-- A burst without a confirmed block that fails the second time leaves the chain with its extent BAD. -/
theorem Bursting.severed {before : List Clip} {c : Clip} {e pos : Nat} {header : Bool} {bytes : Bytes} {x : Owned}
    {taken left : List Block} {o : CardOp} {s : State} (h : Bursting before c e pos header bytes x taken left o s) {dt : Nat}
    (hp : s.powered = true) (hl : NotLate dt s) (hw : Unwatched condCardError s) (hf : s.card.fails + 1 < 3)
    (hr : s.store.retry ≠ none) (hx : x.data = 0) (hnext : x.next = none) (hk : c.locked = false) (hfree : e ∉ s.store.free)
    (hroom : s.store.free ≠ []) (hq : Quiet storeConds s) {l : List Nat}
    (hchain : s.store.chain c.extentCount c.firstExtent = l ++ [e]) (hel : e ∉ l) :
    ∃ t, exec (.cardOpCompletion dt false []) s = .next t ∧
      Severed e c.number c.dataBlocks (s.card.fails + 1) s.intake.buffer t := by
  have hfind := h.records.solo.find
  have hgive : takeCompletion false [] (s.tick dt) =
      leaveChain c.number e (clearRetry (failedOnce o false (s.tick dt))) := by
    rw [h.error_eq hl hw hf]
    unfold writerError
    rw [if_pos (by rw [failedOnce_store]; exact Option.isSome_iff_ne_none.2 hr)]
    unfold giveUp
    dsimp only
    rw [if_pos]
    show (clearRetry (failedOnce o false (s.tick dt))).store.dataOf e = 0
    unfold Store.dataOf clearRetry
    rw [State.mapStore_store, failedOnce_store]
    exact congrArg (fun y : Option Owned => (y.map Owned.data).getD 0) h.owned |>.trans hx
  have hv : (clearRetry (failedOnce o false (s.tick dt))).store = { s.store with retry := none } := by simp [clearRetry]
  generalize hr1 : clearRetry (failedOnce o false (s.tick dt)) = r at hgive hv
  have hrc : r.card = { s.card with state := .idle, op := none, fails := s.card.fails + 1 } := by
    rw [← hr1]; simp [clearRetry]
  have hri : r.intake = s.intake := by rw [← hr1]; simp [clearRetry]
  have hrt : r.trig = s.trig := by rw [← hr1]; simp [clearRetry]
  have hrd : departed r = true := by rw [← hr1]; exact failedOnce_departed o false (s.tick dt) (h.rest.tick dt).2.2
  have hfr : r.store.find c.number = some c := by rw [hv]; exact hfind
  have hown : r.store.owned e = some x := by rw [hv]; exact h.owned
  have hchainr : r.store.chain c.extentCount c.firstExtent = l ++ [e] := by
    rw [← hchain]; exact chain_congr fun _ _ => by rw [hv]; rfl
  have hprev : r.store.prevOf c e = l.getLast? := prevOf_last hchainr hel (by rw [hown]; simp [hnext])
  have hle : l.getLast? ≠ some e := fun hc => hel (List.mem_of_getLast? hc)
  have helt := owned_lt hown
  have hsev : Severed e c.number c.dataBlocks (s.card.fails + 1) s.intake.buffer (leaveChain c.number e r) := by
    rw [leaveChain_some hfr]
    refine Severed.judgeStore ?_
    rw [hprev]
    generalize hph : ({ r.store with extents := r.store.unlinked l.getLast? e } : Store).phaseAfter l.getLast? = ph
    have hpq : ph = .none ∨ ph = .full ∨ ph = .weak := by
      rw [← hph]
      unfold Store.phaseAfter
      split
      · split
        · exact .inr (.inr rfl)
        · exact .inr (.inl rfl)
      · exact .inl rfl
    have hbad : (r.store.unlinked l.getLast? e)[e]? = some .bad := by
      unfold Store.unlinked
      split
      · next p hp =>
        rw [List.getElem?_modify, List.getElem?_set_self helt]
        exact congrArg some (if_neg fun hc => hle (hp.trans (congrArg some hc)))
      · exact List.getElem?_set_self helt
    have hst : ∀ {α : Type} (f : Store → α), f r.store = f { s.store with retry := none } := fun f => by rw [hv]
    refine ⟨(hst Store.state).trans h.records.solo.ready, (hst Store.writer).trans h.recording, hst Store.retry,
      (hst Store.scan).trans h.scan, by show r.card.updates = []; rw [hrc]; exact h.updates,
      by show r.card.slot = none; rw [hrc]; exact h.slot, by show r.card.fails = _; rw [hrc],
      by show r.intake.buffer = _; rw [hri], fun y hy => hq y (by rw [← hrt]; exact hy),
      fun y hy => ?_, hrd, hbad, ?_, before, c.unchained l.getLast? ph, ?_, h.records.others, rfl, h.opened, hk, ?_, hle, rfl,
      .inl ⟨hpq, ?_⟩⟩
    · have hy' : y ∈ r.trig.waiting := hy
      rw [hrt, h.rest.waiting] at hy'
      exact absurd hy' List.not_mem_nil
    · show e ∉ r.store.free
      rw [hv]; exact hfree
    · show (r.store.index.map fun d => if d.number = c.number then d.unchained l.getLast? ph else d) = _
      rw [hv]
      show (s.store.index.map _) = _
      rw [h.records.index, map_newest fun d hd => (h.records.others d hd).2]
    · show (if l.getLast?.isSome then c.firstExtent else none) ≠ some e
      split
      · next hsome =>
        intro hc
        cases l with
        | nil => cases hsome
        | cons a l' =>
          rw [hc] at hchain
          cases hn : c.extentCount with
          | zero => rw [hn, chain_zero] at hchain; simp at hchain
          | succ n =>
            rw [hn, chain_some] at hchain
            exact hel (by rw [(List.cons.inj hchain).1]; exact List.mem_cons_self ..)
      · nofun
    · show r.store.free ≠ []
      rw [hv]; exact hroom
  refine ⟨_, ?_, finish_keeps_steps (fun t u ht hu => ht.step h.records.solo.blocks h.records.solo.data hu)
    (fun t ht => ht.departed) hsev⟩
  have hact : exec (.cardOpCompletion dt false []) s = Machine.act dt (takeCompletion false []) s := rfl
  rw [hact]
  unfold Machine.act
  rw [live_powered hp, hgive]
end Sys2Proof.Machine

/-! PROOF. CARD_OP_COMPLETION of a burst and of a trailer update (R93, R96, R117, R121, R124). -/

namespace Sys2Proof.Machine

section
variable {before : List Clip} {c : Clip} {e pos : Nat} {header : Bool} {bytes : Bytes} {x : Owned} {taken left : List Block}
  {o : CardOp} {s : State} (h : Bursting before c e pos header bytes x taken left o s)
include h

omit h in
/-- The burst that starts again, block by block. -/
theorem retriedBurst_blocks {dt : Nat} (hb : s.card.state = .busy) (hr : s.link.reports.length < 32) :
    startOp (.writer (.burst c.number e pos taken.length header false bytes)) (dueClass s) .write (s.store.extentBase e + pos)
      (taken.length + if header then 1 else 0) bytes
      (countRetry true (retryDue o (.burst c.number e pos taken.length header false bytes) (s.tick dt))) =
    (((reported (.cardError o.cls o.kind o.addr o.count false (s.card.fails + 1))
      ((s.tick dt).mapCounters fun k => { k with cardErrors := satAdd k.cardErrors 1 })).mapCounters fun k =>
        { k with cardRetries := satAdd k.cardRetries 1 }).mapStore fun st =>
        { st with retry := some (.burst c.number e pos taken.length header false bytes) }).mapCard fun k =>
        { k with fails := s.card.fails + 1,
                 op := some ⟨.writer (.burst c.number e pos taken.length header false bytes),
                   if s.store.tab.urgentMark ≤ s.intake.occupancy then 2 else 6, .write,
                   s.store.areaStart + e * 16384 + pos, taken.length + if header then 1 else 0, s.partTime + dt,
                   1000 * s.store.tab.cardTimeout, bytes⟩ } := by
  have hp : (countRetry true (retryDue o (.burst c.number e pos taken.length header false bytes) (s.tick dt))).partTime =
      s.partTime + dt := by simp [retryDue]
  have ht : (countRetry true (retryDue o (.burst c.number e pos taken.length header false bytes) (s.tick dt))).store.tab =
      s.store.tab := by simp [retryDue]
  unfold startOp
  rw [hp, ht]
  unfold retryDue
  rw [failedOnce_reported (s := s.tick dt) o false hr]
  have hc : (reported (.cardError o.cls o.kind o.addr o.count false (s.card.fails + 1))
      ((s.tick dt).mapCounters fun k => { k with cardErrors := satAdd k.cardErrors 1 })).card.state = .busy := by
    rw [reported_card]; exact hb
  have hcls : dueClass s = if s.store.tab.urgentMark ≤ s.intake.occupancy then 2 else 6 := rfl
  rw [hcls]
  rw [show (s.tick dt).card = s.card from rfl]
  generalize reported (.cardError o.cls o.kind o.addr o.count false (s.card.fails + 1))
      ((s.tick dt).mapCounters fun k => { k with cardErrors := satAdd k.cardErrors 1 }) = r at hc
  unfold countRetry ms
  rw [if_pos rfl, Nat.mul_comm 1000]
  unfold State.mapCard State.mapStore State.mapCounters
  dsimp only
  rw [hc]
  rfl

/-- A burst that is given up with confirmed blocks: what the part is left with. -/
theorem Bursting.weak {dt : Nat} (hp : s.powered = true) (hl : NotLate dt s) (hw : Unwatched condCardError s)
    (hf : s.card.fails + 1 < 3) (hr : s.store.retry ≠ none) (hx : 0 < x.data) :
    ∃ t p, exec (.cardOpCompletion dt false []) s = .next t ∧ t.store.retry = none ∧
      t.store.extents = s.store.extents.set e (.owned { x with weak := true }) ∧
      t.store.index = before ++ [{ c with phase := .weakDue }] ∧ t.intake = s.intake ∧ t.card.state = .busy ∧
      t.card.op = some p ∧ p.source = .writer (.weakTrailer c.number e) ∧
      p.cls = (if s.store.tab.urgentMark ≤ s.intake.occupancy then 2 else 6) ∧ p.kind = .write ∧
      p.addr = s.store.areaStart + e * 16384 + 16383 ∧ p.count = 1 ∧ p.start = s.partTime + dt := by
  have hs : (weakened before c e x o (s.tick dt)).store = { s.store with
      retry := none, extents := s.store.extents.set e (.owned { x with weak := true })
      index := before ++ [{ c with phase := .weakDue }] } := by simp [weakened]
  refine ⟨_, _, h.weak_started hp hl hw hf hr hx, ?_, ?_, ?_, ?_, rfl, rfl, rfl, rfl, rfl, ?_, rfl, ?_⟩
  · exact congrArg Store.retry hs
  · exact congrArg Store.extents hs
  · exact congrArg Store.index hs
  · simp [trailerStarted, startOp, weakened]
  · show (weakened before c e x o (s.tick dt)).store.trailerAddress e = _
    rw [hs]; rfl
  · show (weakened before c e x o (s.tick dt)).partTime = _
    simp [weakened]
end

/-- Settles O42: a burst by its ending and its tries, and a trailer update likewise. -/
theorem cardEndingsReachTheirSource : Obligations.CardEndingsReachTheirSource := by
  refine ⟨fun dt before c e pos header bytes x taken left o s hp hrest hrec hlast hbuf hbusy hop hsrc hown hu hslot hscan hl => ?_,
    fun dt c e u o s hp hrest hrec hbusy hop hsrc hu hslot hscan hfind hlast hl => ?_⟩
  · have h : Bursting before c e pos header bytes x taken left o s :=
      ⟨hrest, hrec, hlast, hbuf, hop, hsrc, hown, hu, hslot, hscan⟩
    refine ⟨fun hr hroom hb hburst hm => h.ok hp hl hr hroom hb hburst hm, fun hw hrep hf hr => ?_,
      fun hw hf hr _ => ⟨fun hx => h.weak hp hl hw hf hr hx, fun hx hnext hk hfree hroom hq ⟨l, hchain, hel⟩ => ?_⟩⟩
    · exact (h.retried hp hl hw hf hr).trans (congrArg Host.Outcome.next (retriedBurst_blocks hbusy hrep))
    · obtain ⟨t, ht, hsev⟩ := h.severed hp hl hw hf hr hx hnext hk hfree hroom hq hchain hel
      obtain ⟨l', d, hi, -, hn, ho, -, h1, h2, hm, -⟩ := hsev.clip
      exact ⟨t, ht, hsev.retry, hsev.bad, hsev.free, hsev.buffer, hsev.fails, d, by rw [hi]; simp, hn, ho, h1, h2, hm⟩
  · have h : Updating u c e o s := ⟨hrest, hrec, hop, hsrc, hu, hslot, hscan, hfind, hlast⟩
    exact ⟨h.ok hp hl, fun hw hr hf => updateEndings h hp hl hw hr hf⟩
end Sys2Proof.Machine

/-! PROOF. A burst that fills its extent, and the full trailer that follows (R93, R94, R96). -/

namespace Sys2Proof.Machine

/-! ### A trailer's write, started -/

section
variable {before : List Clip} {d : Clip} {w : WWrite} {e data : Nat} {final : Bool} {s : State}

theorem trailerStarted_spec :
    TrailerStarted w e (s.store.trailerOf d e data final) (trailerStarted w (dueClass s) d e data final s) := by
  refine ⟨rfl, ?_⟩
  unfold trailerStarted startOp ms dueClass
  rw [Nat.mul_comm _ 1000]
  rfl

/-- Beside the trailer's write nothing is left to do. -/
theorem Solo.rest_started {cls : Nat} (h : Solo before d s) (hw : s.trig.waiting = []) (hj : judgeHold s = s)
    (hd : departed s = true) : AtRest (trailerStarted w cls d e data final s) := by
  have ht : Solo before d (trailerStarted w cls d e data final s) := ⟨h.ready, h.index, h.others, h.live, h.data, h.blocks⟩
  exact ⟨(settleStep_eq_none_iff _).2 ⟨hw, ht.pumpStep_none rfl nofun⟩, judgeHold_rest_congr (s := s) rfl rfl rfl hj, hd⟩
end

/-! ### The burst that fills an extent -/

/-- The blocks of a burst of `c` that fills its last extent `e` have landed, and its full trailer is due. -/
def filledUp (before : List Clip) (c : Clip) (e : Nat) (x : Owned) (n : Nat) (header : Bool) (left : List Block) (s : State) :
    State :=
  (landed before c e x n header left s).mapStore fun st =>
    { st with retry := none, index := before ++ [{ c with dataBlocks := c.dataBlocks + n, phase := .fullDue }] }

theorem writerOk_filledUp {before : List Clip} {c : Clip} {e pos : Nat} {x : Owned} {taken left : List Block}
    {header counted : Bool} {bytes : Bytes} {s : State} (hx : s.store.index = before ++ [c])
    (hb : ∀ d ∈ before, d.state = .closed ∧ d.number ≠ c.number) (he : s.store.owned e = some x)
    (hbuf : s.intake.buffer = taken ++ left) (hf : s.store.flush = none)
    (hfull : x.data + taken.length + (if header then 1 else 0) = 16383) :
    writerOk (.burst c.number e pos taken.length header counted bytes) s =
      judgeHold (filledUp before c e x taken.length header left s) := by
  unfold writerOk
  dsimp only
  rw [burstDone_eq (s := clearRetry s) hx hb he hbuf]
  dsimp only
  rw [if_pos (show 16383 ≤ x.data + (taken.length + if header then 1 else 0) by omega)]
  refine congrArg judgeHold ?_
  have hphase : setPhase c.number .fullDue (landed before c e x taken.length header left (clearRetry s)) =
      filledUp before c e x taken.length header left s := by
    unfold setPhase
    rw [updateClip_newest (before := before) (c := { c with dataBlocks := c.dataBlocks + taken.length }) rfl hb]
    rfl
  rw [hphase]
  by_cases hc : counted = true
  · rw [if_pos hc]; exact countFlush_none (s := filledUp before c e x taken.length header left s) hf
  · rw [if_neg hc]

section
variable {before : List Clip} {c : Clip} {e : Nat} {x : Owned} {taken left : List Block} {header : Bool} {s : State}

theorem filledUp_owned (he : s.store.owned e = some x) (j : Nat) : (filledUp before c e x taken.length header left s).store.owned j =
    if j = e then some { x with data := x.data + (taken.length + if header then 1 else 0) } else s.store.owned j :=
  owned_set (x := .owned { x with data := x.data + (taken.length + if header then 1 else 0) }) (owned_lt he)

/-- The chain that a fill leaves is as it was. -/
theorem filledUp_chain (he : s.store.owned e = some x) (n : Nat) (i : Option Nat) :
    (filledUp before c e x taken.length header left s).store.chain n i = s.store.chain n i := by
  refine chain_congr fun j _ => ?_
  rw [filledUp_owned he]
  by_cases hj : j = e
  · subst hj; rw [if_pos rfl, he]; rfl
  · rw [if_neg hj]

/-- The trailer of an extent that is filled. -/
theorem filledUp_trailer {l : List Nat} (he : s.store.owned e = some x) (hnext : x.next = none)
    (hchain : s.store.chain c.extentCount c.firstExtent = l ++ [e]) (hel : e ∉ l)
    (hfull : x.data + taken.length + (if header then 1 else 0) = 16383) (m : Nat) :
    (filledUp before c e x taken.length header left s).store.trailerOf { c with dataBlocks := m, phase := .fullDue } e
      ((filledUp before c e x taken.length header left s).store.dataOf e) false =
    ⟨c.number, x.seq, l.getLast?, 16383, false, c.locked, c.flags, c.start, c.duration⟩ := by
  have hown := filledUp_owned (before := before) (c := c) (taken := taken) (left := left) (header := header) he e
  rw [if_pos rfl] at hown
  have hprev : (filledUp before c e x taken.length header left s).store.prevOf { c with dataBlocks := m, phase := .fullDue } e =
      l.getLast? :=
    prevOf_last ((filledUp_chain he _ _).trans hchain) hel (by rw [hown]; simp [hnext])
  unfold Store.trailerOf
  rw [hprev]
  unfold Store.dataOf
  rw [hown]
  simp only [Option.map_some, Option.getD_some]
  rw [show x.data + (taken.length + if header then 1 else 0) = 16383 by omega]
end

/-- The first part of O43: the burst that fills its extent has the full trailer's write started. -/
theorem fullTrailer_started {dt : Nat} {before : List Clip} {c : Clip} {e pos : Nat} {header counted : Bool} {bytes : Bytes}
    {x : Owned} {taken left : List Block} {l : List Nat} {o : CardOp} {s : State} (hp : s.powered = true) (hrest : AtRest s)
    (hrec : RecordingInto before c s) (hlast : c.lastExtent = some e) (hbuf : s.intake.buffer = taken ++ left)
    (hop : s.card.op = some o) (hsrc : o.source = .writer (.burst c.number e pos taken.length header counted bytes))
    (hown : s.store.owned e = some x) (hnext : x.next = none)
    (hchain : s.store.chain c.extentCount c.firstExtent = l ++ [e]) (hel : e ∉ l) (hu : s.card.updates = [])
    (hslot : s.card.slot = none) (hscan : s.store.scan = none) (hflush : s.store.flush = none) (hb : s.intake.bufCause = false)
    (hl : NotLate dt s) (hfull : x.data + taken.length + (if header then 1 else 0) = 16383) :
    ∃ t, exec (.cardOpCompletion dt true []) s = .next t ∧ t.intake.buffer = left ∧ t.store.retry = none ∧
      t.store.extents = s.store.extents.set e (.owned { x with data := 16383 }) ∧
      t.store.index = before ++ [{ c with dataBlocks := c.dataBlocks + taken.length, phase := .fullDue }] ∧
      TrailerStarted (.fullTrailer c.number e) e
        ⟨c.number, x.seq, l.getLast?, 16383, false, c.locked, c.flags, c.start, c.duration⟩ t := by
  have hr := hrec.solo
  have hso : Solo before { c with dataBlocks := c.dataBlocks + taken.length, phase := .fullDue }
      (filledUp before c e x taken.length header left ((s.tick dt).mapCard Card.rested)) :=
    ⟨hr.ready, rfl, hr.others, hr.live, Nat.lt_of_lt_of_le hr.data (Nat.le_add_right ..),
      fun b hbm => hr.blocks b (by rw [hbuf]; exact List.mem_append_right _ hbm)⟩
  have hopened : c.state = .opened := by obtain ⟨-, -, -, -, ho, -⟩ := hrec; exact ho
  have hwriter : (filledUp before c e x taken.length header left ((s.tick dt).mapCard Card.rested)).store.writer = .recording :=
    hrec.recording
  have hidle : (filledUp before c e x taken.length header left ((s.tick dt).mapCard Card.rested)).card.state = .idle := rfl
  have hhold : judgeHold (filledUp before c e x taken.length header left ((s.tick dt).mapCard Card.rested)) =
      filledUp before c e x taken.length header left ((s.tick dt).mapCard Card.rested) := by
    refine judgeHold_of_bufCause hrest.2.1 ?_ rfl ⟨rfl, rfl, rfl⟩
    rw [hb]
    refine bufCauseNow_of_fewer (s := s) ?_ hb (by rw [hrec.recording]; nofun) ?_ (by rw [hwriter]; nofun) rfl rfl
    · rw [← hb]; exact ((judgeHold_eq_self_iff s).1 hrest.2.1).1.symm
    · show left.length + _ ≤ s.intake.buffer.length + _
      rw [hbuf, List.length_append]
      exact Nat.add_le_add_right (Nat.le_add_left ..) _
  have hdue : dueWrite (filledUp before c e x taken.length header left ((s.tick dt).mapCard Card.rested)) =
      some (.fullTrailer c.number e) := by
    rw [hso.dueWrite_phase (hso.writerFree_true (by rw [hwriter]; nofun) rfl) rfl (.inl hopened)]
    unfold phaseWrite
    rw [show ({ c with dataBlocks := c.dataBlocks + taken.length, phase := .fullDue } : Clip).lastExtent = some e from hlast]
  have hstep := hso.starts (.inl hwriter) hidle hu hscan hslot (hso.allocationDue_none ⟨nofun, nofun, nofun⟩) hdue (.inl rfl)
  rw [startWriter_fullTrailer hso.find rfl] at hstep
  refine ⟨_, AtRest.act_step (hso.rest_started (s := filledUp before c e x taken.length header left _) hrest.waiting hhold
    hrest.2.2) hp ?_ ((settleStep_of_waiting (s := filledUp before c e x taken.length header left
    ((s.tick dt).mapCard Card.rested)) hrest.waiting).trans hstep), rfl, rfl, ?_, rfl, ?_⟩
  · rw [takeCompletion_writer (s := s.tick dt) hl hop hsrc,
      writerOk_filledUp (s := (s.tick dt).mapCard Card.rested) hrec.index hrec.others hown hbuf hflush hfull, hhold]
  · show s.store.extents.set e (.owned { x with data := x.data + (taken.length + if header then 1 else 0) }) = _
    rw [show x.data + (taken.length + if header then 1 else 0) = 16383 by omega]
  · rw [← filledUp_trailer (before := before) (left := left) (s := (s.tick dt).mapCard Card.rested) hown hnext hchain hel hfull
      (c.dataBlocks + taken.length)]
    exact trailerStarted_spec
end Sys2Proof.Machine

/-! PROOF. The records that an allocation reclaims, and what is left of the Extent Map and the Free List (R91, R94, R95). -/

namespace Sys2Proof.Machine

/-! ### Several records reclaimed -/

/-- The store after the removal of the records `cs`, one after the other. -/
def Store.droppedAll (st : Store) (cs : List Clip) : Store := cs.foldl (fun st c => st.dropped c) st

/-- What removals keep of the store. -/
theorem droppedAll_keeps {α : Type} (f : Store → α) (hf : ∀ (st : Store) (l : List Clip), f { st.unmapped with index := l } = f st)
    (cs : List Clip) (st : Store) : f (st.droppedAll cs) = f st := by
  induction cs generalizing st with
  | nil => rfl
  | cons c cs ih => exact (ih (st.dropped c)).trans (dropped_keeps f hf st)

section
variable {st : Store} {c : Clip} (h : Parted st) (hn : (st.index.map Clip.number).Nodup) (hc : c ∈ st.index)
include h hc

theorem dropped_extents (i : Nat) : (st.dropped c).extents[i]? =
    if i ∈ st.chainOf c then (st.owned i).map Owned.freed else st.extents[i]? := by
  refine (releaseAll_spec (h.placed hc).nodup fun e he => ?_).2 i
  obtain ⟨o, ho, -⟩ := (h.placed hc).owned he
  rw [ho]; nofun

theorem dropped_free : (st.dropped c).free = st.free ++ st.sound (st.chainOf c) := by
  refine (releaseAll_spec (h.placed hc).nodup fun e he => ?_).1
  obtain ⟨o, ho, -⟩ := (h.placed hc).owned he
  rw [ho]; nofun

include hn

theorem Parted.dropped' : Parted (st.dropped c) := h.dropped hc fun _ hd he => List.inj_on_of_nodup_map hn hd hc he

/-- The chains of two records have no extent in common. -/
theorem Parted.disjoint {d : Clip} (hd : d ∈ st.index) (hne : d ≠ c) {i : Nat} (hi : i ∈ st.chainOf d) : i ∉ st.chainOf c :=
  fun hic => hne (List.inj_on_of_nodup_map hn hd hc ((h.placed hd).number_eq (h.placed hc) hi hic))

theorem dropped_owned_other {d : Clip} (hd : d ∈ st.index) (hne : d ≠ c) {i : Nat} (hi : i ∈ st.chainOf d) :
    (st.dropped c).owned i = st.owned i :=
  owned_congr (by rw [dropped_extents h hc, if_neg (h.disjoint hn hc hd hne hi)])

theorem dropped_chainOf {d : Clip} (hd : d ∈ st.index) (hne : d ≠ c) : (st.dropped c).chainOf d = st.chainOf d :=
  chain_congr fun _ hi => by rw [dropped_owned_other h hn hc hd hne hi]

omit h in
theorem dropped_index_ne : (st.dropped c).index = st.index.filter fun d => d ≠ c := by
  rw [dropped_index]
  refine List.filter_congr fun d hd => ?_
  rw [decide_eq_decide]
  exact not_congr ⟨fun he => List.inj_on_of_nodup_map hn hd hc he, fun he => by rw [he]⟩
end

/-- What the removal of the records `cs` of the index leaves: their weak extents BAD, the others FREE at the Free List's tail in
chain order, and every other extent as it was. -/
theorem droppedAll_spec {cs : List Clip} {st : Store} (h : Parted st) (hn : (st.index.map Clip.number).Nodup)
    (hcs : cs.Nodup) (hs : ∀ c ∈ cs, c ∈ st.index) :
    Parted (st.droppedAll cs) ∧ (st.droppedAll cs).index = st.index.filter (fun d => d ∉ cs) ∧
      (st.droppedAll cs).free = st.free ++ st.sound (cs.flatMap st.chainOf) ∧
      ∀ i, (st.droppedAll cs).extents[i]? =
        if i ∈ cs.flatMap st.chainOf then (st.owned i).map Owned.freed else st.extents[i]? := by
  induction cs generalizing st with
  | nil => exact ⟨h, by simp [Store.droppedAll], by simp [Store.droppedAll, Store.sound], by simp [Store.droppedAll]⟩
  | cons c cs ih =>
    obtain ⟨hc, hcs⟩ := List.nodup_cons.1 hcs
    have hci := hs c (List.mem_cons_self ..)
    have hne : ∀ d ∈ cs, d ≠ c := fun d hd he => hc (he ▸ hd)
    have hsi : ∀ d ∈ cs, d ∈ st.index := fun d hd => hs d (List.mem_cons_of_mem _ hd)
    have hx := dropped_index_ne hn hci
    have hflat : cs.flatMap (st.dropped c).chainOf = cs.flatMap st.chainOf :=
      List.flatMap_congr fun d hd => dropped_chainOf h hn hci (hsi d hd) (hne d hd)
    have hown : ∀ i ∈ cs.flatMap st.chainOf, (st.dropped c).owned i = st.owned i ∧ i ∉ st.chainOf c := fun i hi => by
      obtain ⟨d, hd, hid⟩ := List.mem_flatMap.1 hi
      exact ⟨dropped_owned_other h hn hci (hsi d hd) (hne d hd) hid, h.disjoint hn hci (hsi d hd) (hne d hd) hid⟩
    obtain ⟨h1, h2, h3, h4⟩ := ih (st := st.dropped c) (h.dropped' hn hci)
      (by rw [hx]; exact hn.sublist (List.filter_sublist.map _)) hcs
      (fun d hd => by rw [hx]; exact List.mem_filter.2 ⟨hsi d hd, by simpa using hne d hd⟩)
    refine ⟨h1, h2.trans ?_, h3.trans ?_, fun i => (h4 i).trans ?_⟩
    · rw [hx, List.filter_filter]
      refine List.filter_congr fun d _ => ?_
      simp only [List.mem_cons, not_or]
      rw [Bool.and_comm, ← Bool.decide_and]
    · rw [dropped_free h hci, hflat, List.append_assoc, List.flatMap_cons]
      have hsound : (st.dropped c).sound (cs.flatMap st.chainOf) = st.sound (cs.flatMap st.chainOf) :=
        List.filter_congr fun i hi => by rw [(hown i hi).1]
      rw [hsound]
      exact congrArg (st.free ++ ·) (List.filter_append ..).symm
    · rw [hflat, List.flatMap_cons]
      by_cases hi : i ∈ cs.flatMap st.chainOf
      · rw [if_pos hi, if_pos (List.mem_append_right _ hi), (hown i hi).1]
      · rw [if_neg hi, dropped_extents h hci]
        simp [hi]

/-! ### Which records are reclaimed -/

theorem Reclaims.eq_droppedAll {want : Nat} {st st' : Store} {cs : List Clip} (h : Reclaims want st cs st') :
    st' = st.droppedAll cs := by
  induction h with
  | done => rfl
  | next _ _ _ ih => exact ih

/-- The records reclaimed are the oldest reclaimable ones, as many as it takes. -/
theorem Reclaims.takes {want : Nat} {st st' : Store} {cs : List Clip} (h : Reclaims want st cs st')
    (hn : (st.index.map Clip.number).Nodup) :
    cs = (st.index.filter Clip.reclaimable).take cs.length ∧ cs.length ≤ (st.index.filter Clip.reclaimable).length ∧
      (∀ j < cs.length, (st.droppedAll ((st.index.filter Clip.reclaimable).take j)).free.length < want) ∧
      (want ≤ st'.free.length ∨ cs.length = (st.index.filter Clip.reclaimable).length) := by
  induction h with
  | done h =>
    refine ⟨rfl, Nat.zero_le _, fun j hj => absurd hj (Nat.not_lt_zero j), h.imp_right fun ho => ?_⟩
    rw [List.filter_eq_nil_iff.2 fun c hc => by simpa using List.find?_eq_none.1 ho c hc]
  | @next st st' c cs hf ho _ ih =>
    have hold : st.index.filter Clip.reclaimable = c :: ((st.dropped c).index.filter Clip.reclaimable) := by
      have hhead : (st.index.filter Clip.reclaimable).head? = some c := by rw [List.head?_filter]; exact ho
      obtain ⟨l, hl⟩ := List.head?_eq_some_iff.1 hhead
      have hnd : ((c :: l).map Clip.number).Nodup := hl ▸ hn.sublist (List.filter_sublist.map _)
      obtain ⟨hcl, -⟩ := List.nodup_cons.1 hnd
      have hkeep : l.filter (fun d => d.number ≠ c.number) = l :=
        List.filter_eq_self.2 fun d hd => decide_eq_true fun he => hcl (he ▸ List.mem_map_of_mem hd)
      rw [dropped_index, List.filter_filter, hl]
      have hcomm : (st.index.filter fun d => Clip.reclaimable d && decide (d.number ≠ c.number)) =
          (st.index.filter Clip.reclaimable).filter fun d => decide (d.number ≠ c.number) := by
        rw [List.filter_filter]
        exact List.filter_congr fun d _ => Bool.and_comm ..
      rw [hcomm, hl, List.filter_cons_of_neg (by simp), hkeep]
    have hn' : ((st.dropped c).index.map Clip.number).Nodup := by
      rw [dropped_index]; exact hn.sublist (List.filter_sublist.map _)
    obtain ⟨h1, h2, h3, h4⟩ := ih hn'
    rw [hold]
    refine ⟨?_, Nat.succ_le_succ h2, fun j hj => ?_, h4.imp_right (congrArg (· + 1))⟩
    · rw [List.length_cons, List.take_succ_cons, ← h1]
    · cases j with
      | zero => exact hf
      | succ j => exact h3 j (Nat.lt_of_succ_lt_succ hj)
end Sys2Proof.Machine

/-! PROOF. What an allocation makes of the store: the records reclaimed, the extent chained, and the Free List (R94, R95). -/

namespace Sys2Proof.Machine

section
variable {st : Store} {cs : List Clip} (h : Parted st) (hn : (st.index.map Clip.number).Nodup) (hcs : cs.Nodup)
  (hs : ∀ c ∈ cs, c ∈ st.index)
include h hn hcs hs

theorem droppedAll_owned_other {d : Clip} (hd : d ∈ st.index) (hne : d ∉ cs) {i : Nat} (hi : i ∈ st.chainOf d) :
    i ∉ cs.flatMap st.chainOf ∧ (st.droppedAll cs).owned i = st.owned i := by
  have hno : i ∉ cs.flatMap st.chainOf := fun hc => by
    obtain ⟨b, hb, hib⟩ := List.mem_flatMap.1 hc
    exact h.disjoint hn (hs b hb) hd (fun he => hne (he ▸ hb)) hi hib
  exact ⟨hno, owned_congr (by rw [(droppedAll_spec h hn hcs hs).2.2.2, if_neg hno])⟩

theorem droppedAll_chainOf {d : Clip} (hd : d ∈ st.index) (hne : d ∉ cs) : (st.droppedAll cs).chainOf d = st.chainOf d :=
  chain_congr fun _ hi => by rw [(droppedAll_owned_other h hn hcs hs hd hne hi).2]
end

/-! ### The extent chained -/

section
variable {A : Store} {c : Clip} {f : Nat}

theorem chained_eq (A : Store) (c : Clip) (f : Nat) :
    A.chained c f = (chainExtent c f (State.mapStore (fun _ => A) State.reset)).store := by rw [chainExtent_eq]; rfl

theorem owned_chained (hf : f < A.extents.length) (j : Nat) : (A.chained c f).owned j =
    if j = f then some ⟨false, c.number, c.extentCount, none, 0⟩
    else if c.lastExtent = some j then (A.owned j).map fun o => { o with next := some f } else A.owned j := by
  rw [chained_eq]; exact owned_chainExtent (s := State.mapStore (fun _ => A) State.reset) hf j

/-- Every entry but the one chained and the one before it stays. -/
theorem extents_chained {i : Nat} (hf : i ≠ f) (hl : c.lastExtent ≠ some i) : (A.chained c f).extents[i]? = A.extents[i]? := by
  show ((A.linkTo c f).set f _)[i]? = _
  rw [List.getElem?_set_ne (Ne.symm hf)]
  unfold Store.linkTo
  split
  · next p hp =>
    rw [List.getElem?_modify]
    cases A.extents[i]? with
    | none => rfl
    | some y => exact congrArg some (if_neg fun hc => hl (hp.trans (congrArg some hc)))
  · rfl
end

theorem filter_not_mem_take {l : List Clip} (h : l.Nodup) (k : Nat) : l.filter (fun d => d ∉ l.take k) = l.drop k := by
  have hd := List.nodup_append.1 ((List.take_append_drop k l).symm ▸ h)
  conv_lhs => arg 2; rw [← List.take_append_drop k l]
  rw [List.filter_append, List.filter_eq_nil_iff.2 fun d hm => by simpa using hm, List.nil_append, List.filter_eq_self]
  exact fun d hm => by simpa using fun ht => hd.2.2 d ht d hm rfl

/-- What is reclaimed, and what the Free List then holds, when `k` of the records `old` are reclaimed. -/
def Store.goneOf (st : Store) (old : List Clip) (k : Nat) : List Nat := (old.take k).flatMap st.chainOf
def Store.poolOf (st : Store) (old : List Clip) (k : Nat) : List Nat := st.free ++ st.sound (st.goneOf old k)

/-- What an allocation is given: a store in order whose newest record `c`, with last extent `e`, is the one live. -/
structure Chaining (before : List Clip) (c : Clip) (e : Nat) (x : Owned) (st : Store) : Prop where
  parted : Parted st
  nodup : (st.index.map Clip.number).Nodup
  index : st.index = before ++ [c]
  closed : ∀ d ∈ before, d.state = .closed
  opened : c.state = .opened
  last : c.lastExtent = some e
  owned : st.owned e = some x

section
variable {before : List Clip} {c : Clip} {e : Nat} {x : Owned} {st : Store} (h : Chaining before c e x st)
include h

theorem Chaining.mem : c ∈ st.index := by rw [h.index]; simp

theorem Chaining.others : ∀ d ∈ before, d.number ≠ c.number := fun d hd he => by
  have hn := h.nodup
  rw [h.index, List.map_append] at hn
  exact (List.nodup_append.1 hn).2.2 _ (List.mem_map_of_mem hd) _ (List.mem_singleton.2 rfl) he

theorem Chaining.mem_chain : e ∈ st.chainOf c := List.mem_of_getLast? ((h.parted.placed h.mem).last.trans h.last)

/-- The records that may be reclaimed. -/
theorem Chaining.old : st.index.filter Clip.reclaimable = before.filter fun d => !d.locked := by
  rw [h.index, List.filter_append, List.filter_cons_of_neg (by simp [Clip.reclaimable, h.opened]), List.filter_nil,
    List.append_nil]
  exact List.filter_congr fun d hd => by simp [Clip.reclaimable, h.closed d hd]

theorem Chaining.old_nodup : (before.filter fun d => !d.locked).Nodup := by
  rw [← h.old]; exact (List.Nodup.of_map _ h.nodup).filter _

/-- Records of `before` among the unlocked ones leave, and `c` stays. -/
theorem Chaining.droppedAll {cs : List Clip} (hcs : cs.Nodup) (hb : ∀ d ∈ cs, d ∈ before) :
    Chaining (before.filter fun d => d ∉ cs) c e x (st.droppedAll cs) ∧
      (∀ i, (st.droppedAll cs).extents[i]? =
        if i ∈ cs.flatMap st.chainOf then (st.owned i).map Owned.freed else st.extents[i]?) ∧
      (st.droppedAll cs).free = st.free ++ st.sound (cs.flatMap st.chainOf) := by
  have hs : ∀ d ∈ cs, d ∈ st.index := fun d hd => by rw [h.index]; exact List.mem_append_left _ (hb d hd)
  have hc : c ∉ cs := fun hc => h.others c (hb c hc) rfl
  obtain ⟨h1, h2, h3, h4⟩ := droppedAll_spec h.parted h.nodup hcs hs
  have hx : (st.droppedAll cs).index = before.filter (fun d => d ∉ cs) ++ [c] := by
    rw [h2, h.index, List.filter_append, List.filter_cons_of_pos (by simpa using hc), List.filter_nil]
  refine ⟨⟨h1, ?_, hx, fun d hd => h.closed d (List.mem_filter.1 hd).1, h.opened, h.last, ?_⟩, h4, h3⟩
  · rw [h2]; exact h.nodup.sublist (List.filter_sublist.map _)
  · rw [(droppedAll_owned_other h.parted h.nodup hcs hs h.mem hc h.mem_chain).2]; exact h.owned

/-- A free extent is chained. -/
theorem Chaining.chained {f : Nat} {es : List Nat} (hf : st.free = f :: es) :
    f < st.extents.length ∧ (∀ d ∈ st.index, f ∉ st.chainOf d) ∧
    Parted (st.chained c f) ∧ (st.chained c f).index = before ++ [c.chained f] ∧
      (st.chained c f).chainOf (c.chained f) = st.chainOf c ++ [f] ∧
      ∀ d ∈ before, (st.chained c f).chainOf d = st.chainOf d := by
  have hu : ∀ d ∈ st.index, d.number = c.number → d = c := fun d hd he => List.inj_on_of_nodup_map h.nodup hd h.mem he
  have hfe : st.extents[f]? = some Extent.free := (h.parted.free f).1 (by rw [hf]; exact List.mem_cons_self ..)
  have hlt : f < st.extents.length := (List.getElem?_eq_some_iff.1 hfe).1
  have hfree : ∀ d ∈ st.index, f ∉ st.chainOf d := fun d hd hfd => by
    obtain ⟨o, ho, -⟩ := (h.parted.placed hd).owned hfd
    rw [owned_iff.1 ho] at hfe; cases hfe
  refine ⟨hlt, hfree, ?_, ?_, ?_, fun d hd => chain_congr fun i hi => ?_⟩
  · rw [chained_eq]
    exact Parted.chained (s := State.mapStore (fun _ => st) State.reset) h.parted h.mem hu hf
  · show (st.index.map fun d => if d.number = c.number then d.chained f else d) = _
    rw [h.index, map_newest h.others]
  · rw [chained_eq]
    have hp := Placed.chained (s := State.mapStore (fun _ => st) State.reset) (h.parted.placed h.mem) hlt (hfree c h.mem)
    exact hp.chain_eq
  · have hdi : d ∈ st.index := by rw [h.index]; exact List.mem_append_left _ hd
    have hif : i ≠ f := fun hc => hfree d hdi (hc ▸ hi)
    rw [owned_chained hlt, if_neg hif, if_neg fun hc => ?_]
    rw [h.last] at hc
    exact h.parted.disjoint h.nodup h.mem hdi (fun he => h.others d hd (he ▸ rfl)) hi ((Option.some.inj hc) ▸ h.mem_chain)
end

section
variable {before : List Clip} {c : Clip} {e : Nat} {x : Owned} {st : Store}

/-- The store with an extent chained is in order, with that extent the last. -/
theorem Chaining.chain_one (h : Chaining before c e x st) {f : Nat} {es : List Nat} (hf : st.free = f :: es) :
    Chaining before (c.chained f) f ⟨false, c.number, c.extentCount, none, 0⟩ (st.chained c f) := by
  obtain ⟨hlt, -, hp, hx, -, -⟩ := h.chained hf
  refine ⟨hp, ?_, hx, h.closed, h.opened, rfl, (owned_chained hlt f).trans (if_pos rfl)⟩
  have hn := h.nodup
  rw [h.index, List.map_append] at hn
  rw [hx, List.map_append]; exact hn
end

/-- What an allocation makes of the store, with `k` records reclaimed and `f` chained. -/
structure Allocated (before : List Clip) (c : Clip) (e : Nat) (x : Owned) (st : Store) (k f : Nat) (B : Store) : Prop where
  le : k ≤ (before.filter fun d => !d.locked).length
  head : (st.poolOf (before.filter fun d => !d.locked) k).head? = some f
  few : ∀ j < k, (st.poolOf (before.filter fun d => !d.locked) j).length ≤ st.tab.reserve
  enough : st.tab.reserve < (st.poolOf (before.filter fun d => !d.locked) k).length ∨
    k = (before.filter fun d => !d.locked).length
  free : B.free = (st.poolOf (before.filter fun d => !d.locked) k).drop 1
  index : B.index = before.filter (fun d => d ∉ (before.filter fun d => !d.locked).take k) ++ [c.chained f]
  head_owned : B.owned f = some ⟨false, c.number, c.extentCount, none, 0⟩
  last_owned : B.owned e = some { x with next := some f }
  prev : B.prevOf (c.chained f) f = some e
  others : ∀ i, i ≠ f → i ≠ e → B.extents[i]? =
    if i ∈ st.goneOf (before.filter fun d => !d.locked) k then (st.owned i).map Owned.freed else st.extents[i]?

theorem Chaining.allocated {before : List Clip} {c : Clip} {e : Nat} {x : Owned} {st A B : Store} {cs ds : List Clip} {f : Nat}
    {es : List Nat} (h : Chaining before c e x st) (hA : Reclaims 1 st cs A) (hf : A.free = f :: es)
    (hB : Reclaims A.tab.reserve (A.chained c f) ds B) : Allocated before c e x st (cs.length + ds.length) f B := by
  obtain ⟨hcs, hcsl, hcsf, -⟩ := hA.takes h.nodup
  rw [h.old] at hcs hcsl hcsf
  have hold := h.old_nodup
  generalize holdeq : (before.filter fun d => !d.locked) = old at hcs hcsl hcsf hold
  have hob : ∀ d ∈ old, d ∈ before := fun d hd => by rw [← holdeq] at hd; exact (List.mem_filter.1 hd).1
  have hcb : ∀ d ∈ cs, d ∈ before := fun d hd => hob d (List.mem_of_mem_take (hcs ▸ hd))
  have hcn : cs.Nodup := by rw [hcs]; exact hold.sublist (List.take_sublist ..)
  have hAeq := hA.eq_droppedAll
  obtain ⟨hCA, hAx, hAf⟩ := h.droppedAll hcn hcb
  rw [← hAeq] at hCA hAx hAf
  obtain ⟨hlt, hffree, -⟩ := hCA.chained hf
  have hCC := hCA.chain_one hf
  have htab : A.tab = st.tab := by rw [hAeq]; exact droppedAll_keeps Store.tab (fun _ _ => rfl) cs st
  have hreclaimable : (before.filter fun d => d ∉ cs).filter (fun d => !d.locked) = old.drop cs.length := by
    rw [← filter_not_mem_take hold, ← hcs, List.filter_filter, ← holdeq, List.filter_filter]
    exact List.filter_congr fun d _ => Bool.and_comm ..
  obtain ⟨hds, hdsl, hdsf, hdse⟩ := hB.takes hCC.nodup
  rw [hCC.old, hreclaimable] at hds hdsl hdsf hdse
  rw [List.length_drop] at hdsl hdse
  have hcut : ∀ i, old.take (cs.length + i) = cs ++ (old.drop cs.length).take i := fun i => by
    rw [List.take_add, ← hcs]
  have hne : e ≠ f := fun he => hffree c hCA.mem (he ▸ hCA.mem_chain)
  have hown : ∀ d ∈ old.drop cs.length, ∀ i ∈ st.chainOf d, (A.chained c f).owned i = st.owned i := fun d hd i hi => by
    rw [← filter_not_mem_take hold, ← hcs] at hd
    obtain ⟨hdo, hdc⟩ := List.mem_filter.1 hd
    have hdc : d ∉ cs := by simpa using hdc
    have hsi : ∀ b ∈ cs, b ∈ st.index := fun b hb => by rw [h.index]; exact List.mem_append_left _ (hcb b hb)
    have hdi : d ∈ st.index := by rw [h.index]; exact List.mem_append_left _ (hob d hdo)
    have hdA : d ∈ A.index := by
      rw [hCA.index]
      exact List.mem_append_left _ (List.mem_filter.2 ⟨hob d hdo, by simpa using hdc⟩)
    have hch : A.chainOf d = st.chainOf d := by rw [hAeq]; exact droppedAll_chainOf h.parted h.nodup hcn hsi hdi hdc
    have hoA : A.owned i = st.owned i := by
      rw [hAeq]; exact (droppedAll_owned_other h.parted h.nodup hcn hsi hdi hdc hi).2
    rw [← hch] at hi
    have hif : i ≠ f := fun hc => hffree d hdA (hc ▸ hi)
    rw [owned_chained hlt, if_neg hif, if_neg fun hc => ?_, hoA]
    rw [h.last] at hc
    refine hCA.parted.disjoint hCA.nodup hCA.mem hdA (fun he => h.others d (hob d hdo) (he ▸ rfl)) hi ?_
    rw [← Option.some.inj hc]; exact hCA.mem_chain
  have hflat : ∀ i, ((old.drop cs.length).take i).flatMap (A.chained c f).chainOf =
      ((old.drop cs.length).take i).flatMap st.chainOf := fun i => List.flatMap_congr fun d hd =>
    chain_congr fun j hj => by rw [hown d (List.mem_of_mem_take hd) j hj]
  have hsound : ∀ i, (A.chained c f).sound (((old.drop cs.length).take i).flatMap st.chainOf) =
      st.sound (((old.drop cs.length).take i).flatMap st.chainOf) := fun i => List.filter_congr fun j hj => by
    obtain ⟨d, hd, hjd⟩ := List.mem_flatMap.1 hj
    rw [hown d (List.mem_of_mem_take hd) j hjd]
  have hpool : ∀ i, st.poolOf old (cs.length + i) =
      f :: (es ++ st.sound (((old.drop cs.length).take i).flatMap st.chainOf)) := fun i => by
    unfold Store.poolOf Store.goneOf
    rw [hcut, List.flatMap_append]
    unfold Store.sound
    rw [List.filter_append, ← List.append_assoc]
    exact congrArg (· ++ _) (hAf.symm.trans hf)
  have hdrop := fun i => hCC.droppedAll (cs := (old.drop cs.length).take i)
    ((hold.sublist (List.drop_sublist ..)).sublist (List.take_sublist ..))
    (fun d hd => by
      rw [← hreclaimable] at hd
      exact (List.mem_filter.1 (List.mem_of_mem_take hd)).1)
  have hfreeC : ∀ i, ((A.chained c f).droppedAll ((old.drop cs.length).take i)).free =
      (st.poolOf old (cs.length + i)).drop 1 := fun i => by
    rw [(hdrop i).2.2, hflat, hsound, hpool]
    show A.free.drop 1 ++ _ = _
    rw [hf]; rfl
  have hBeq : B = (A.chained c f).droppedAll ((old.drop cs.length).take ds.length) := by rw [← hds]; exact hB.eq_droppedAll
  obtain ⟨hCB, hBx, -⟩ := hdrop ds.length
  rw [← hBeq] at hCB hBx
  have hfB := hfreeC ds.length
  rw [← hBeq] at hfB
  have hdn : ((old.drop cs.length).take ds.length).Nodup := (hold.sublist (List.drop_sublist ..)).sublist (List.take_sublist ..)
  have hgone : st.goneOf old (cs.length + ds.length) = cs.flatMap st.chainOf ++ ds.flatMap st.chainOf := by
    unfold Store.goneOf; rw [hcut, ← hds, List.flatMap_append]
  have hCi : ∀ d ∈ ds, d ∈ (A.chained c f).index := fun d hd => by
    rw [hCC.index]
    rw [hds, ← hreclaimable] at hd
    exact List.mem_append_left _ (List.mem_filter.1 (List.mem_of_mem_take hd)).1
  have hcds : c.chained f ∉ ds := fun hc => by
    rw [hds, ← hreclaimable] at hc
    exact hCC.others _ (List.mem_filter.1 (List.mem_of_mem_take hc)).1 rfl
  rw [← hds] at hdn
  have hBeq' : B = (A.chained c f).droppedAll ds := by rw [hds]; exact hBeq
  have hkeepC : ∀ i ∈ (A.chained c f).chainOf (c.chained f), B.owned i = (A.chained c f).owned i := fun i hi => by
    rw [hBeq']; exact (droppedAll_owned_other hCC.parted hCC.nodup hdn hCi hCC.mem hcds hi).2
  obtain ⟨-, -, -, -, hchainC, -⟩ := hCA.chained hf
  have hchainB : B.chainOf (c.chained f) = A.chainOf c ++ [f] := by
    rw [← hchainC, hBeq']; exact droppedAll_chainOf hCC.parted hCC.nodup hdn hCi hCC.mem hcds
  constructor
  · rw [holdeq]; omega
  · rw [holdeq, hpool]; rfl
  · rw [holdeq]
    intro j hj
    by_cases hjc : j < cs.length
    · have hfew := hcsf j hjc
      have hfr := (h.droppedAll (hold.sublist (List.take_sublist j _)) fun d hd => hob d (List.mem_of_mem_take hd)).2.2
      rw [hfr] at hfew
      exact (Nat.le_of_lt_succ hfew).trans (Nat.zero_le _)
    · obtain ⟨i, rfl⟩ := Nat.exists_eq_add_of_le (Nat.le_of_not_lt hjc)
      have hfew := hdsf i (by omega)
      rw [hfreeC, List.length_drop, htab] at hfew
      omega
  · rw [holdeq]
    refine hdse.imp (fun hle => ?_) fun he => by omega
    rw [hfB, List.length_drop, htab] at hle
    have hpos : 0 < (st.poolOf old (cs.length + ds.length)).length := by rw [hpool]; exact Nat.succ_pos _
    omega
  · rw [holdeq]; exact hfB
  · rw [holdeq, hcut, ← hds, hCB.index, ← hds, List.filter_filter]
    refine congrArg (· ++ _) (List.filter_congr fun d _ => ?_)
    rw [← Bool.decide_and, decide_eq_decide, List.mem_append, not_or, And.comm]
  · exact hCB.owned
  · rw [hkeepC e (by rw [hchainC]; exact List.mem_append_left _ hCA.mem_chain), owned_chained hlt, if_neg hne, if_pos h.last,
      hCA.owned]; rfl
  · have hp := prevOf_last hchainB (fun hc => hffree c hCA.mem hc) (by rw [hCB.owned]; nofun)
    rw [hp, (hCA.parted.placed hCA.mem).last]; exact h.last
  · intro i hif hie
    rw [holdeq, hgone, hBx, ← hds, show ds.flatMap (A.chained c f).chainOf = ds.flatMap st.chainOf by rw [hds]; exact hflat _]
    have hle : c.lastExtent ≠ some i := fun hc => hie (Option.some.inj (h.last.symm.trans hc)).symm
    by_cases hi : i ∈ ds.flatMap st.chainOf
    · obtain ⟨d, hd, hid⟩ := List.mem_flatMap.1 hi
      rw [if_pos hi, if_pos (List.mem_append_right _ hi), hown d (List.mem_of_mem_take (hds ▸ hd)) i hid]
    · rw [if_neg hi, extents_chained hif hle, hAx]
      simp [hi]
end Sys2Proof.Machine

/-! PROOF. The allocation behind a full trailer: the extent chained and its open trailer (R94, R96, R119). -/

namespace Sys2Proof.Machine

theorem chained_keeps {α : Type} (g : Store → α) (hg : ∀ (st : Store) (l : List Clip), g { st.unmapped with index := l } = g st)
    (A : Store) (c : Clip) (f : Nat) : g (A.chained c f) = g A := (hg (A.chained c f) []).symm.trans (hg A [])

theorem lit_prevOf (low near : Bool) (st : Store) (c : Clip) (i : Nat) : (st.lit low near).prevOf c i = st.prevOf c i := by
  unfold Store.prevOf
  rw [show (st.lit low near).chainOf c = st.chainOf c from lit_chain low near st _ _]
  rfl

/-! ### An allocation that is due -/

/-- An allocation is due for the OPEN clip `c`, whose last extent `e` is full, at an IDLE card with no other claim. -/
structure Due (before : List Clip) (c : Clip) (e : Nat) (x : Owned) (u : State) : Prop where
  solo : Solo before c u
  chaining : Chaining before c e x u.store
  phase : c.phase = .full
  recording : u.store.writer = .recording
  retry : u.store.retry = none
  scan : u.store.scan = none
  updates : u.card.updates = []
  slot : u.card.slot = none
  idle : u.card.state = .idle
  op : u.card.op = none
  few : u.store.index.length ≤ 512
  buffer : u.intake.buffer ≠ []
  marks : u.store.tab.urgentMark ≤ u.intake.occupancy ∨ u.store.tab.burstSize ≤ u.intake.occupancy
  waiting : u.trig.waiting = []
  quiet : Quiet storeConds u
  hold : judgeHold u = u
  departed : departed u = true
  clear : u.intake.bufCause = false

section
variable {before : List Clip} {c : Clip} {e : Nat} {x : Owned} {u : State} (h : Due before c e x u)
include h

theorem Due.opened : c.state = .opened := h.chaining.opened

/-- The allocation is the part's next work. -/
theorem Due.step : settleStep u = some (allocate c u) := by
  have hne : u.store.writer ≠ .idle := by rw [h.recording]; nofun
  have hdue : allocationDue u = some c := by
    unfold allocationDue
    rw [h.solo.writerFree_true hne h.op, h.retry, h.solo.finalDue_none (.inr h.buffer), h.solo.head h.buffer]
    dsimp only
    rw [if_neg (by nofun), if_pos]
    have hw : burstWanted c u = true := by
      unfold burstWanted
      rw [if_neg (by rw [h.recording]; nofun)]
      obtain hm | hm := h.marks <;> simp [hm]
    simp [h.phase, hw, Clip.live, h.opened]
  rw [settleStep_of_waiting h.waiting]
  unfold pumpStep
  rw [if_neg (by rw [h.solo.closeWork_none]; nofun), if_neg (by unfold flushSpent; rw [h.recording]; nofun), hdue]

/-- Quiet changes that the allocation leaves are taken. -/
theorem Due.settles {k : Nat} {t : State} (ht : Noted k u t) :
    ∃ conds last n, n ≤ k ∧ Leads n t (conditioned conds last t) := by
  obtain ⟨cs, hw, hl, hm⟩ := ht.waits
  rw [h.waiting, List.nil_append] at hw
  obtain ⟨conds, last, hlead⟩ := leads_quiet (s := t) (m := storeConds) (fun y hy => h.quiet y (ht.entries ▸ hy)) hw hm
  exact ⟨conds, last, cs.length, hl, hlead⟩

/-- HOLD stands with the Segment Buffer as it is and the writer not in EMERGENCY. -/
theorem Due.hold_of {t : State} (hw : t.store.writer ≠ .emergency) (hm : t.store.tab = u.store.tab)
    (ho : t.intake.occupancy ≤ u.intake.occupancy) (ha : t.link.answers = u.link.answers)
    (hi : t.intake.bufCause = u.intake.bufCause ∧ t.intake.ansCause = u.intake.ansCause ∧ t.intake.hold = u.intake.hold) :
    judgeHold t = t := by
  refine judgeHold_of_bufCause h.hold ?_ ha hi
  rw [h.clear]
  refine bufCauseNow_of_fewer (s := u) ?_ h.clear (by rw [h.recording]; nofun) ho hw hm hi.1
  rw [← h.clear]; exact ((judgeHold_eq_self_iff u).1 h.hold).1.symm

/-- The allocation chains an extent, and its open trailer starts. -/
theorem Due.chains (hq : c.locked = false ∨ u.store.lockedExtents < u.store.quotaEff)
    (hpool : u.store.poolOf (before.filter fun d => !d.locked) (before.filter fun d => !d.locked).length ≠ []) :
    ∃ t n k f B, n ≤ 4096 ∧ Leads n u t ∧ AtRest t ∧ Allocated before c e x u.store k f B ∧
      (∀ i, t.store.owned i = B.owned i) ∧ t.store.extents = B.extents ∧ t.store.free = B.free ∧ t.store.index = B.index ∧
      t.counters = u.counters.reclaimed k ∧ t.intake = u.intake ∧ t.store.writer = .recording ∧ t.partTime = u.partTime ∧
      TrailerStarted (.openTrailer c.number f) f
        ⟨c.number, c.extentCount, some e, 0, false, c.locked, c.flags, c.start, c.duration⟩ t := by
  obtain ⟨cs, A, hA, hall⟩ := allocate_spec (c := c) h.departed h.updates (by
    obtain hl | hl := hq
    · rw [hl]; rfl
    · rw [decide_eq_false (by omega)]; exact Bool.and_false _)
  have hne : A.free ≠ [] := by
    obtain ⟨hcs, -, -, hend⟩ := hA.takes h.chaining.nodup
    rw [h.chaining.old] at hcs hend
    obtain hlen | hlen := hend
    · exact List.ne_nil_of_length_pos hlen
    · rw [hlen, List.take_length] at hcs
      have hfree := (h.chaining.droppedAll h.chaining.old_nodup fun d hd => (List.mem_filter.1 hd).1).2.2
      rw [← hcs, ← hA.eq_droppedAll] at hfree
      rw [hfree]
      unfold Store.poolOf Store.goneOf at hpool
      rw [List.take_length, ← hcs] at hpool
      exact hpool
  obtain ⟨f, es, hf⟩ := List.exists_cons_of_ne_nil hne
  obtain ⟨ds, B, low, near, hB, hst, hnote, hcount⟩ := hall f es hf
  have hal := h.chaining.allocated hA hf hB
  obtain ⟨conds, last, n, hn, hlead⟩ := h.settles hnote
  have hkeep : ∀ {α : Type} (g : Store → α), (∀ (st : Store) (l : List Clip), g { st.unmapped with index := l } = g st) →
      g B = g u.store := fun g hg => by
    rw [hB.eq_droppedAll, droppedAll_keeps g hg, chained_keeps g hg, hA.eq_droppedAll, droppedAll_keeps g hg]
  have hv : (conditioned conds last (allocate c u)).store = B.lit low near := hst
  have hvc : (conditioned conds last (allocate c u)).card = u.card := hnote.card
  have hvi : (conditioned conds last (allocate c u)).intake = u.intake := hnote.intake
  have hwr : (conditioned conds last (allocate c u)).store.writer = .recording := by
    rw [hv]; exact (hkeep Store.writer fun _ _ => rfl).trans h.recording
  have hsolo : Solo (before.filter fun d => d ∉ (before.filter fun d => !d.locked).take (cs.length + ds.length)) (c.chained f)
      (conditioned conds last (allocate c u)) := by
    refine ⟨?_, by rw [hv]; exact hal.index, fun d hd => h.solo.others d (List.mem_filter.1 hd).1, h.solo.live, h.solo.data,
      by rw [hvi]; exact h.solo.blocks⟩
    rw [hv]; exact (hkeep Store.state fun _ _ => rfl).trans h.solo.ready
  have hretry : (conditioned conds last (allocate c u)).store.retry = none := by
    rw [hv]; exact (hkeep Store.retry fun _ _ => rfl).trans h.retry
  have hscan : (conditioned conds last (allocate c u)).store.scan = none := by
    rw [hv]; exact (hkeep Store.scan fun _ _ => rfl).trans h.scan
  have hdue : dueWrite (conditioned conds last (allocate c u)) = some (.openTrailer c.number f) :=
    (hsolo.dueWrite_phase (hsolo.writerFree_true (by rw [hwr]; nofun) (by rw [hvc]; exact h.op)) hretry (.inl h.opened)).trans rfl
  have hstep := hsolo.starts (.inl hwr) (by rw [hvc]; exact h.idle) (by rw [hvc]; exact h.updates) hscan
    (by rw [hvc]; exact h.slot) (hsolo.allocationDue_none ⟨nofun, nofun, nofun⟩) hdue (.inl rfl)
  rw [startWriter_openTrailer (n := c.number) hsolo.find hretry] at hstep
  have hjudge : judgeHold (conditioned conds last (allocate c u)) = conditioned conds last (allocate c u) := by
    refine h.hold_of (by rw [hwr]; nofun) ?_ (by rw [hvi]) hnote.answers (by rw [hvi]; exact ⟨rfl, rfl, rfl⟩)
    rw [hv]; exact hkeep Store.tab fun _ _ => rfl
  have hrest := hsolo.rest_started (w := .openTrailer c.number f) (e := f) (data := 0) (final := false)
    (cls := dueClass (conditioned conds last (allocate c u))) rfl hjudge hnote.departed
  have hlead' := ((Leads.step h.step).trans hlead).trans (Leads.step ((settleStep_of_waiting rfl).trans hstep))
  have hlen : (before.filter fun d => !d.locked).length ≤ 511 := by
    have h1 := List.length_filter_le (fun d : Clip => !d.locked) before
    have h2 := h.few
    rw [h.chaining.index, List.length_append, List.length_singleton] at h2
    omega
  have hk := hal.le
  refine ⟨_, _, cs.length + ds.length, f, B, ?_, hlead', hrest, hal, fun i => ?_, ?_, ?_, ?_, ?_, hvi, hwr, hnote.partTime, ?_⟩
  · omega
  · show (conditioned conds last (allocate c u)).store.owned i = _
    rw [hv]; rfl
  · show (conditioned conds last (allocate c u)).store.extents = _
    rw [hv]; rfl
  · show (conditioned conds last (allocate c u)).store.free = _
    rw [hv]; rfl
  · show (conditioned conds last (allocate c u)).store.index = _
    rw [hv]; rfl
  · refine hcount.trans ?_
    unfold Counters.reclaimed
    dsimp only
    rw [← Function.iterate_add_apply, Nat.add_comm]
  · have htr : (conditioned conds last (allocate c u)).store.trailerOf (c.chained f) f 0 false =
        ⟨c.number, c.extentCount, some e, 0, false, c.locked, c.flags, c.start, c.duration⟩ := by
      rw [hv]
      unfold Store.trailerOf
      rw [lit_prevOf, hal.prev, show (B.lit low near).owned f = B.owned f from rfl, hal.head_owned]
      rfl
    rw [← htr]
    exact trailerStarted_spec
end
end Sys2Proof.Machine

/-! PROOF. An allocation with nothing to take closes the clip, and its final trailer starts (R96, R100, R106). -/

namespace Sys2Proof.Machine

/-- Where no CLOSING record is to be removed and one is live, a close leaves the conditions of the store to be judged. -/
theorem afterClose_judges {s : State} (he : emptyClosing s = []) (hs : s.store.settled = false) (hj : judgeHold s = s) :
    afterClose s = judgeStore s := by
  have hr : reapEmpty s = s := by unfold reapEmpty; rw [he]; rfl
  have hw : restWriter s = s := if_pos (by rw [hs]; rfl)
  unfold afterClose
  rw [hr, hw, hj]

/-! ### The final trailer -/

theorem startWriter_finalTrailer {cls n e : Nat} {d : Clip} {s t : State}
    (hu : updateClip n (fun c => { c with finalBegun := true }) s = t) (hf : t.store.find n = some d)
    (hr : s.store.retry = none) :
    startWriter cls (.finalTrailer n e) s = trailerStarted (.finalTrailer n e) cls d e (s.store.dataOf e) true t := by
  unfold startWriter
  rw [hr]
  show startTrailer _ cls n e (s.store.dataOf e) true (updateClip n (fun c => { c with finalBegun := true }) s) = _
  rw [hu]
  exact startTrailer_some hf

/-- The last extent of a chain holds the last written block where it has data. -/
theorem lastWritten_last {st : Store} {d : Clip} {l : List Nat} {e : Nat} (h : st.chainOf d = l ++ [e]) (he : 0 < st.dataOf e) :
    st.lastWritten d = some e := by
  unfold Store.lastWritten findLast
  rw [h, List.reverse_append]
  exact List.find?_cons_of_pos (p := fun i => decide (0 < st.dataOf i)) (decide_eq_true he)

/-- What the final trailer of `d` is formed from, in a part where an extent is its last. -/
theorem finalTrailer_info {st : Store} {d : Clip} {l : List Nat} {e : Nat} {x : Owned} (h : st.chainOf d = l ++ [e])
    (hel : e ∉ l) (hx : st.owned e = some x) (hn : x.next = none) : st.trailerOf d e x.data true =
      ⟨d.number, x.seq, l.getLast?, x.data, true, d.locked, d.flags, d.start, d.duration⟩ := by
  unfold Store.trailerOf
  rw [prevOf_last h hel (by rw [hx]; simp [hn]), hx]
  rfl

section
variable {before : List Clip} {c : Clip} {e : Nat} {x : Owned} {st : Store} (h : Chaining before c e x st)
include h

theorem Chaining.chain_last : st.chainOf c = (st.chainOf c).dropLast ++ [e] ∧ e ∉ (st.chainOf c).dropLast ∧ x.next = none := by
  have hp := h.parted.placed h.mem
  have hl : (st.chainOf c).getLast? = some e := hp.last.trans h.last
  obtain ⟨l, hl⟩ := List.getLast?_eq_some_iff.1 hl
  rw [hl, List.dropLast_concat]
  have hnd := hp.nodup
  rw [hl] at hnd
  refine ⟨rfl, fun hm => (List.nodup_append.1 hnd).2.2 e hm e (List.mem_singleton_self e) rfl, ?_⟩
  rw [hl] at hp
  obtain ⟨o, ho, -, -, hx⟩ := hp.runs l.length e (by simp)
  rw [h.owned] at ho
  rw [Option.some.inj ho, hx]
  simp
end

theorem prevOf_congr {st st' : Store} (h : ∀ i, st'.owned i = st.owned i) (c : Clip) (i : Nat) : st'.prevOf c i = st.prevOf c i := by
  have hc : st'.chainOf c = st.chainOf c := chain_congr fun j _ => by rw [h j]
  have hp : (fun j => decide ((st'.owned j).bind Owned.next = some i)) = fun j => decide ((st.owned j).bind Owned.next = some i) :=
    funext fun j => by rw [h j]
  unfold Store.prevOf
  rw [hc, hp]

/-! ### The final trailer behind an allocation -/

/-- The close that an allocation makes leaves `r`, in which the final trailer of `d` is due. -/
structure Ending (d : Clip) (e : Nat) (x : Owned) (u r : State) : Prop where
  departed : departed r = true
  trig : r.trig = u.trig
  card : r.card = u.card
  hold : judgeHold r = r
  empty : emptyClosing r = []
  unsettled : r.store.settled = false
  ready : r.store.state = .ready
  writer : r.store.writer = .recording ∨ r.store.writer = .stopping
  retry : r.store.retry = none
  scan : r.store.scan = none
  due : finalDue r = some d
  phase : d.phase = .full
  chain : ∃ l, r.store.chainOf d = l ++ [e]
  owned : r.store.owned e = some x
  data : 0 < x.data
  found : (updateClip d.number (fun c => { c with finalBegun := true }) r).store.find d.number = some { d with finalBegun := true }

/-- The final trailer of `d` has begun in `r`. -/
def withFinal (d : Clip) (r : State) : State := updateClip d.number (fun c => { c with finalBegun := true }) r

section
variable {d : Clip} {r : State}

theorem withFinal_empty (h : emptyClosing r = []) : emptyClosing (withFinal d r) = [] := by
  rw [emptyClosing_eq_nil_iff] at h ⊢
  intro b hb hc h0
  obtain ⟨a, ha, rfl⟩ := List.mem_map.1 hb
  by_cases hn : a.number = d.number
  · rw [if_pos hn] at hc h0 ⊢; exact h a ha hc h0
  · rw [if_neg hn] at hc h0 ⊢; exact h a ha hc h0

theorem withFinal_settled : (withFinal d r).store.settled = r.store.settled := by
  show (r.store.index.map _).all _ = _
  rw [List.all_map]
  refine congrArg (List.all r.store.index) (funext fun b => ?_)
  dsimp only [Function.comp]
  split <;> rfl
end

section
variable {before : List Clip} {c d : Clip} {e : Nat} {x : Owned} {u r : State} (h : Due before c e x u) (hr : Ending d e x u r)
include h hr

/-- Its final trailer starts behind the changes of STORE_LOW and LOCK_NEAR. -/
theorem Due.ends (ha : allocate c u = judgeStore r) : ∃ t n low near, n ≤ 4096 ∧ Leads n u t ∧ AtRest t ∧
    t.store = (withFinal d r).store.lit low near ∧ t.intake = r.intake ∧ t.partTime = r.partTime ∧ (∀ p, Issued p r → Issued p t) ∧
    TrailerStarted (.finalTrailer d.number e) e (r.store.trailerOf { d with finalBegun := true } e x.data true) t := by
  have hnote : Noted 1 r (judgeStore r) := (Noted.refl hr.departed).judgeStore
  have hstore := judgeStore_store hr.departed
  generalize judgeStore r = q at ha hnote hstore
  generalize storeLowNow r = low at hstore
  generalize lockNearNow r = near at hstore
  obtain ⟨cs, hw, hl, hm⟩ := hnote.waits
  rw [hr.trig, h.waiting, List.nil_append] at hw
  obtain ⟨conds, last, hlead⟩ := leads_quiet (s := q) (m := storeConds)
    (fun y hy => h.quiet y (by rw [← hr.trig, ← hnote.entries]; exact hy)) hw hm
  have hv : (conditioned conds last q).store = r.store.lit low near := hstore
  have hvc : (conditioned conds last q).card = u.card := hnote.card.trans hr.card
  have hvi : (conditioned conds last q).intake = r.intake := hnote.intake
  have hvd : Machine.departed (conditioned conds last q) = true := hnote.departed
  have hva : (conditioned conds last q).link.answers = r.link.answers := hnote.answers
  have hvp : (conditioned conds last q).partTime = r.partTime := hnote.partTime
  have hvis : ∀ p, Issued p r → Issued p (conditioned conds last q) := hnote.issued
  have hlead1 := (Leads.step (h.step.trans (congrArg some ha))).trans hlead
  have hvw : (conditioned conds last q).trig.waiting = [] := rfl
  generalize conditioned conds last q = v at hv hvc hvi hvd hva hvp hvis hlead1 hvw
  have hne : v.store.writer ≠ .idle ∧ v.store.writer ≠ .emergency := by
    rw [show v.store.writer = r.store.writer by rw [hv]; rfl]
    obtain hw | hw := hr.writer <;> rw [hw] <;> exact ⟨nofun, nofun⟩
  have hvr : v.store.retry = none := by rw [hv]; exact hr.retry
  have hfree : writerFree v = true := by
    have hwr : v.card.writing = false := by unfold Card.writing; rw [hvc, h.op]
    have hrd : v.store.state = .ready := by rw [hv]; exact hr.ready
    simp [writerFree, hrd, hwr, hne.1]
  have hfin : finalDue v = some d := by
    rw [← hr.due]; unfold finalDue; rw [hv, hvi]; rfl
  have hown : ∀ i, v.store.owned i = r.store.owned i := fun i => by rw [hv]; rfl
  have hdata : v.store.dataOf e = x.data := by unfold Store.dataOf; rw [hown, hr.owned]; rfl
  obtain ⟨l, hl⟩ := hr.chain
  have hchain : v.store.chainOf d = l ++ [e] := by rw [← hl]; exact chain_congr fun i _ => by rw [hown]
  have hdue : dueWrite v = some (.finalTrailer d.number e) := by
    unfold dueWrite
    rw [hfree, if_neg (by nofun), hvr, hfin]
    dsimp only
    unfold endingWrite
    rw [if_neg (by rw [hr.phase]; nofun), lastWritten_last hchain (by rw [hdata]; exact hr.data)]
    rfl
  have halloc : allocationDue v = none := by
    unfold allocationDue
    rw [hfin, if_pos (by simp)]
  have hempty : emptyClosing v = [] := by rw [← hr.empty]; unfold emptyClosing; rw [hv, hvi]; rfl
  have hsettled : v.store.settled = false := by rw [hv]; exact hr.unsettled
  have hstep : pumpStep v = some (startWriter (dueClass v) (.finalTrailer d.number e) v) := by
    refine pumpStep_writes ?_ ?_ halloc (by rw [hvc]; exact h.idle) hdue (writerClass_due hdue hne.2 (.inl rfl)) ?_
      (by rw [hvc]; exact h.updates) (by rw [hv]; exact hr.scan) (by rw [hvc]; exact h.slot)
    · unfold closeWork; rw [hempty, hsettled]; rfl
    · unfold flushSpent; rw [decide_eq_false hne.2]; rfl
    · unfold dueClass; split
      · exact .inr (.inl rfl)
      · exact .inr (.inr rfl)
  have hstart : startWriter (dueClass v) (.finalTrailer d.number e) v =
      trailerStarted (.finalTrailer d.number e) (dueClass (withFinal d v)) { d with finalBegun := true } e x.data true
        (withFinal d v) := by
    rw [startWriter_finalTrailer (t := withFinal d v) rfl ?_ hvr, hdata]
    · rfl
    · rw [← hr.found]
      show (v.store.index.map _).find? _ = _
      rw [hv]; rfl
  rw [hstart] at hstep
  have hbuf : bufCauseNow (withFinal d v) = r.intake.bufCause := by
    have hnr : r.store.writer ≠ .emergency := by obtain hw | hw := hr.writer <;> rw [hw] <;> nofun
    rw [bufCauseNow_congr (s := r) (t := withFinal d v) hnr hne.2 (congrArg Intake.occupancy hvi)
      (congrArg Intake.bufCause hvi) (by show v.store.tab = _; rw [hv]; rfl)]
    exact ((judgeHold_eq_self_iff r).1 hr.hold).1.symm
  refine ⟨_, _, low, near, ?_, hlead1.trans (Leads.step ((settleStep_of_waiting hvw).trans hstep)), ⟨?_, ?_, hvd⟩, ?_, hvi, hvp, hvis, ?_⟩
  · omega
  · refine (settleStep_eq_none_iff _).2 ⟨hvw, pumpStep_beside_write rfl nofun ?_ (.inl ?_)⟩
    · exact withFinal_empty (d := d) hempty
    · exact (withFinal_settled (d := d)).trans hsettled
  · exact judgeHold_of_bufCause hr.hold hbuf hva ⟨congrArg Intake.bufCause hvi, congrArg Intake.ansCause hvi, congrArg Intake.hold hvi⟩
  · show (withFinal d v).store = _
    unfold withFinal updateClip
    rw [State.mapStore_store, hv]; rfl
  · have htr : (withFinal d v).store.trailerOf { d with finalBegun := true } e x.data true =
        r.store.trailerOf { d with finalBegun := true } e x.data true := by
      unfold Store.trailerOf
      rw [prevOf_congr (st' := (withFinal d v).store) (st := r.store) fun i => hown i,
        show (withFinal d v).store.owned e = r.store.owned e from hown e]
    rw [← htr]
    exact trailerStarted_spec
end
end Sys2Proof.Machine

/-! PROOF. The closes that an allocation makes: with FULL, with LOCK_QUOTA and a continuation, and with LOCK_QUOTA alone (R97,
R100, R106). -/

namespace Sys2Proof.Machine

/-! ### The close without a continuation -/

/-- The clip `d` that `c` has become behind `before` closes: its blocks are discarded, the writer STOPPING. -/
def halted (before : List Clip) (d : Clip) (s : State) : State :=
  (s.mapStore fun st => { st with writer := .stopping, index := before ++ [d] }).mapIntake fun i =>
    { i with buffer := [], packing := [], record := none, stallEnd := none }

/-- The record that a clip is at its close by an allocation: CLOSING, with its chain and its blocks. -/
structure Closes (c d : Clip) : Prop where
  number : d.number = c.number
  closing : d.state = .closing
  first : d.firstExtent = c.firstExtent
  count : d.extentCount = c.extentCount
  blocks : d.dataBlocks = c.dataBlocks
  phase : d.phase = c.phase

section
variable {before : List Clip} {c d : Clip} {e : Nat} {x : Owned} {u : State} (h : Due before c e x u)
include h

theorem Due.halted_hold (d : Clip) : judgeHold (halted before d u) = halted before d u :=
  h.hold_of (by show WriterState.stopping ≠ _; nofun) rfl (Nat.zero_le _) rfl ⟨rfl, rfl, rfl⟩

variable (hd : Closes c d)
include hd

theorem Due.solo_halted : Solo before d (halted before d u) :=
  ⟨h.solo.ready, rfl, by rw [hd.number]; exact h.solo.others, by rw [hd.closing]; nofun, by rw [hd.blocks]; exact h.solo.data,
    fun _ hb => absurd hb List.not_mem_nil⟩

omit hd in
/-- The chain of a clip in a store with the same entries. -/
theorem Due.chain_of {st : Store} (hd : d.firstExtent = c.firstExtent ∧ d.extentCount = c.extentCount)
    (ho : ∀ i, st.owned i = u.store.owned i) : st.chainOf d = (u.store.chainOf c).dropLast ++ [e] := by
  rw [← h.chaining.chain_last.1]
  unfold Store.chainOf
  rw [hd.1, hd.2]
  exact chain_congr fun i _ => by rw [ho]

theorem Due.ending_halted (hx : 0 < x.data) : Ending d e x u (halted before d u) where
  departed := h.departed
  trig := rfl
  card := rfl
  hold := h.halted_hold d
  empty := (h.solo_halted hd).emptyClosing_nil
  unsettled := (h.solo_halted hd).unsettled
  ready := h.solo.ready
  writer := .inr rfl
  retry := h.retry
  scan := h.scan
  due := (h.solo_halted hd).finalDue_some hd.closing rfl
  phase := hd.phase.trans h.phase
  chain := ⟨_, h.chain_of ⟨hd.first, hd.count⟩ fun _ => rfl⟩
  owned := h.chaining.owned
  data := hx
  found := by
    have hs := h.solo_halted hd
    rw [updateClip_newest hs.index hs.others]
    exact find_newest hs.others (fun c => { c with finalBegun := true }) rfl

/-- The trailer that ends the clip where it is. -/
theorem Due.final_info {st : Store} (ho : ∀ i, st.owned i = u.store.owned i) :
    st.trailerOf { d with finalBegun := true } e x.data true =
      ⟨c.number, x.seq, (u.store.chainOf c).dropLast.getLast?, x.data, true, d.locked, d.flags, d.start, d.duration⟩ := by
  rw [← hd.number]
  exact finalTrailer_info (h.chain_of (d := { d with finalBegun := true }) ⟨hd.first, hd.count⟩ ho) h.chaining.chain_last.2.1
    ((ho e).trans h.chaining.owned) h.chaining.chain_last.2.2

/-- The allocation that closes the clip leads to its final trailer. -/
theorem Due.halts (ha : allocate c u = afterClose (halted before d u)) (hx : 0 < x.data) : ∃ t n, n ≤ 4096 ∧ Leads n u t ∧
    AtRest t ∧ t.store.writer = .stopping ∧ t.store.index = before ++ [{ d with finalBegun := true }] ∧
    t.intake.buffer = [] ∧ t.intake.packing = [] ∧ t.intake.record = none ∧ t.intake.stallEnd = none ∧
    t.store.extents = u.store.extents ∧ t.store.free = u.store.free ∧
    TrailerStarted (.finalTrailer c.number e) e
      ⟨c.number, x.seq, (u.store.chainOf c).dropLast.getLast?, x.data, true, d.locked, d.flags, d.start, d.duration⟩ t := by
  have hr := h.ending_halted hd hx
  rw [afterClose_judges hr.empty hr.unsettled hr.hold] at ha
  obtain ⟨t, n, low, near, hn, hl, ht, hs, hi, -, -, htr⟩ := h.ends hr ha
  refine ⟨t, n, hn, hl, ht, by rw [hs]; rfl, ?_, by rw [hi]; rfl, by rw [hi]; rfl, by rw [hi]; rfl, by rw [hi]; rfl,
    by rw [hs]; rfl, by rw [hs]; rfl, ?_⟩
  · have hso := h.solo_halted hd
    have hidx : (withFinal d (halted before d u)).store.index = before ++ [{ d with finalBegun := true }] := by
      unfold withFinal
      rw [updateClip_newest hso.index hso.others]; rfl
    rw [hs]; exact hidx
  · rw [← h.final_info hd (st := (halted before d u).store) fun _ => rfl, ← hd.number]; exact htr
end

/-! ### FULL -/

theorem reclaimUntil_none {want n : Nat} {s : State} (h : s.store.oldestReclaimable = none) : reclaimUntil want n s = s := by
  cases n with
  | zero => rfl
  | succ n =>
    unfold reclaimUntil
    split
    · rw [h]
    · rfl

section
variable {before : List Clip} {c : Clip} {e : Nat} {x : Owned} {u : State} (h : Due before c e x u)
include h

omit h in
/-- With every record of `before` locked, and the newest not CLOSED, none can be reclaimed. -/
theorem oldest_none {d : Clip} {s : State} (hx : s.store.index = before ++ [d]) (hd : d.state ≠ .closed)
    (ho : before.filter (fun d => !d.locked) = []) : s.store.oldestReclaimable = none :=
  oldestReclaimable_none fun b hb hc => by
    rw [hx] at hb
    obtain hb | hb := List.mem_append.1 hb
    · simpa using List.filter_eq_nil_iff.1 ho b hb
    · rw [List.mem_singleton.1 hb] at hc; exact absurd hc hd

/-- The blocks of the clip are all that is buffered. -/
theorem Due.discards : u.intake.buffer.filter (fun b => b.clip ≠ c.number) = [] :=
  List.filter_eq_nil_iff.2 fun b hb => by simpa using h.solo.blocks b hb

/-- The clip closed by an allocation, with its blocks discarded. -/
theorem Due.halted_eq {d : Clip} {q : State} (hq : q = (u.mapStore fun st => { st with index := before ++ [d] }).mapIntake
    fun i => { i with buffer := i.buffer.filter fun b => b.clip ≠ c.number }) :
    stopWriter (endIntake (discardPacking q)) = halted before d u := by
  have hb : q = (u.mapStore fun st => { st with index := before ++ [d] }).mapIntake fun i => { i with buffer := [] } := by
    rw [hq]
    show { u with store := _, intake := { u.intake with buffer := u.intake.buffer.filter _ } } = _
    rw [h.discards]; rfl
  rw [hb]
  exact (if_pos h.recording).trans rfl

/-- With nothing free and nothing to reclaim, the clip closes with FULL (R100). -/
theorem Due.allocate_full (hq : c.locked = false ∨ u.store.lockedExtents < u.store.quotaEff) (hf : u.store.free = [])
    (ho : before.filter (fun d => !d.locked) = []) : allocate c u = afterClose (halted before (setClosing .full c) u) := by
  unfold allocate
  dsimp only
  rw [if_neg, reclaimUntil_none (oldest_none h.solo.index h.solo.live ho), hf]
  · dsimp only
    rw [if_neg (by rw [h.recording]; nofun)]
    unfold fullClose
    dsimp only
    rw [if_pos h.opened]
    refine congrArg afterClose (h.halted_eq ?_)
    rw [updateClip_newest (by exact h.solo.index) h.solo.others]
    rfl
  · obtain hl | hl := hq
    · rw [hl]; nofun
    · rw [decide_eq_false (by omega), Bool.and_false]; nofun

/-! ### LOCK_QUOTA -/

/-- The clip is CLOSING with LOCK_QUOTA. -/
def quotaed (before : List Clip) (c : Clip) (s : State) : State :=
  s.mapStore fun st => { st with index := before ++ [setClosing .lockQuota c] }

/-- A locked clip at the quota closes with LOCK_QUOTA, and the opening test is made (R97, R106). -/
theorem Due.allocate_quota (hl : c.locked = true) (hq : u.store.quotaEff ≤ u.store.lockedExtents) : allocate c u = quotaClose c u := by
  unfold allocate
  rw [if_pos (by rw [hl, decide_eq_true (by omega)]; rfl), if_neg (by rw [h.recording]; nofun)]

/-- The record of a clip that closes with LOCK_QUOTA without a continuation. -/
def Clip.cutShort (c : Clip) : Clip := { setClosing .lockQuota c with flags := { c.flags with truncated := true } }

/-- Where the opening test fails, its blocks are discarded and it takes TRUNCATED. -/
theorem Due.quotaClose_fails (ht : openingTest (quotaed before c u) = (false, quotaed before c u)) : quotaClose c u =
    afterClose (halted before c.cutShort u) := by
  have hpos := h.chaining.parted.extents_pos h.chaining.mem h.chaining.last
  unfold quotaClose
  rw [updateClip_newest h.solo.index h.solo.others]
  dsimp only
  rw [if_neg (Nat.ne_of_gt hpos)]
  unfold quotaed at ht
  rw [ht]
  dsimp only
  rw [if_neg (by nofun), if_pos h.opened]
  refine congrArg afterClose (h.halted_eq ?_)
  exact (updateClip_newest (before := before) (c := setClosing .lockQuota c) (s := discardBlocks c.number (quotaed before c u))
    (by rfl) h.solo.others fun c => { c with flags := { c.flags with truncated := true } }).trans rfl

omit h in
/-- The failing opening test, by its three causes. -/
theorem quotaed_fails (hc : (u.store.free = [] ∨ 511 ≤ before.length) ∧ before.filter (fun d => !d.locked) = [] ∨
    before.length < 511 ∧ 4294967296 ≤ u.store.nextClip) :
    openingTest (quotaed before c u) = (false, quotaed before c u) := by
  have hlen : (quotaed before c u).store.index.length = before.length + 1 := by
    show (before ++ [_]).length = _
    rw [List.length_append]; rfl
  obtain ⟨hf, ho⟩ | ⟨hl, hn⟩ := hc
  · refine openingTest_fails (oldest_none (s := quotaed before c u) rfl (by nofun) ho) ?_
    exact hf.symm.imp (fun hb => by omega) id
  · exact openingTest_exhausted (by omega) hn
end
end Sys2Proof.Machine

/-! PROOF. A locked clip at the quota and its continuation (R72, R75, R97, R106). -/

namespace Sys2Proof.Machine

theorem issued_mapIntake (p : Payload) (s : State) (f : Intake → Intake) : issued p (s.mapIntake f) = (issued p s).mapIntake f := by
  unfold issued reported
  rw [show (s.mapIntake f).link = s.link from rfl, show atOnce (s.mapIntake f) = atOnce s from rfl]
  split <;> (try split) <;> rfl

/-- The continuation of `c` as clip `n`, opened at `time`, its first video PTS `last`. -/
def continuation (n time : Nat) (last : Option Nat) (c : Clip) : Clip :=
  { number := n, state := .opened, locked := false, flags := ⟨false, false, false, false, true⟩, start := c.start,
    openTime := some time, firstPts := last, duration := 0, firstExtent := none, lastExtent := none, extentCount := 0,
    dataBlocks := 0, markers := [], reason := none, phase := .none, finalBegun := false }

/-- The clip `c` is CLOSING with LOCK_QUOTA, and its continuation takes its blocks and its intake. -/
def continued (before : List Clip) (c : Clip) (s : State) : State :=
  (s.mapStore fun st =>
    { st with index := before ++ [setClosing .lockQuota c,
                continuation s.store.nextClip s.partTime (s.intake.record.bind IntakeRec.lastPts) c],
              nextClip := s.store.nextClip + 1 }).mapIntake fun i =>
    { i with buffer := i.buffer.map fun b => { b with clip := s.store.nextClip },
             record := some ⟨s.store.nextClip, true, s.intake.record.bind IntakeRec.lastPts,
               (s.intake.record.map IntakeRec.dropReported).getD false, false⟩ }

section
variable {before : List Clip} {c : Clip} {e : Nat} {x : Owned} {u : State} (h : Due before c e x u)
  (hb : ∀ d ∈ u.store.index, d.number < u.store.nextClip)
include h hb

theorem Due.below : (∀ d ∈ before, d.number < u.store.nextClip) ∧ c.number < u.store.nextClip := by
  rw [h.solo.index] at hb
  exact ⟨fun d hd => hb d (List.mem_append_left _ hd), hb c (by simp)⟩

/-- Where the opening test passes, a continuation is opened. -/
theorem Due.quotaClose_passes (hr : c.reason = none) (ht : openingTest (quotaed before c u) = (true, quotaed before c u)) :
    quotaClose c u = afterClose (issued (.clipOpened u.store.nextClip c.start true) (continued before c u)) := by
  have hpos := h.chaining.parted.extents_pos h.chaining.mem h.chaining.last
  obtain ⟨hbefore, hc⟩ := h.below hb
  unfold quotaClose
  rw [updateClip_newest h.solo.index h.solo.others]
  dsimp only
  rw [if_neg (Nat.ne_of_gt hpos)]
  unfold quotaed at ht
  rw [ht]
  dsimp only
  rw [if_pos rfl, if_pos h.opened, hr]
  refine congrArg afterClose ?_
  unfold openRecord continueIntake retag
  dsimp only
  rw [report_eq_issued _ _ (by exact h.departed)]
  simp only [State.mapIntake_intake, issued_intake, State.mapStore_intake]
  unfold updateClip
  rw [← issued_mapIntake, ← issued_mapIntake, ← issued_mapStore]
  refine congrArg (issued _) ?_
  have hbuf : (u.intake.buffer.map fun k => if k.clip = c.number then { k with clip := u.store.nextClip } else k) =
      u.intake.buffer.map fun b => { b with clip := u.store.nextClip } :=
    List.map_congr_left fun b hbm => if_pos (h.solo.blocks b hbm)
  refine mapIntake_mapStore_congr (s := u)
    (f := fun i => { i with
      buffer := i.buffer.map fun k => if k.clip = c.number then { k with clip := u.store.nextClip } else k
      record := some ⟨u.store.nextClip, true, u.intake.record.bind IntakeRec.lastPts,
        (u.intake.record.map IntakeRec.dropReported).getD false, false⟩ })
    (f' := fun i => { i with
      buffer := i.buffer.map fun b => { b with clip := u.store.nextClip }
      record := some ⟨u.store.nextClip, true, u.intake.record.bind IntakeRec.lastPts,
        (u.intake.record.map IntakeRec.dropReported).getD false, false⟩ })
    (g := fun st : Store => { st with
      index := ((before ++ [setClosing .lockQuota c]) ++
        [{ continuation u.store.nextClip u.partTime none c with state := c.state }]).map fun d : Clip =>
          if d.number = u.store.nextClip then { d with firstPts := u.intake.record.bind IntakeRec.lastPts } else d
      nextClip := u.store.nextClip + 1 })
    (g' := fun st => { st with
      index := before ++ [setClosing .lockQuota c,
        continuation u.store.nextClip u.partTime (u.intake.record.bind IntakeRec.lastPts) c]
      nextClip := u.store.nextClip + 1 }) ?_ ?_
  · rw [hbuf]
  · have hmap := map_newest (c := { continuation u.store.nextClip u.partTime none c with state := c.state })
      (f := fun d => { d with firstPts := u.intake.record.bind IntakeRec.lastPts })
      (l := before ++ [setClosing .lockQuota c]) fun d hd => by
        obtain hd | hd := List.mem_append.1 hd
        · exact Nat.ne_of_lt (hbefore d hd)
        · rw [List.mem_singleton.1 hd]; exact Nat.ne_of_lt hc
    refine congrArg (fun l => { u.store with index := l, nextClip := u.store.nextClip + 1 }) (hmap.trans ?_)
    rw [List.append_assoc, h.opened]
    rfl

omit hb in
theorem Due.quotaed_passes (hl : before.length < 511) (hn : u.store.nextClip < 4294967296)
    (hf : u.store.free ≠ [] ∨ before.filter (fun d => !d.locked) ≠ []) :
    openingTest (quotaed before c u) = (true, quotaed before c u) := by
  refine openingTest_passes ?_ (hf.imp id fun ho => ?_) hn
  · show (before ++ [_]).length < _
    rw [List.length_append]; exact Nat.succ_lt_succ hl
  · obtain ⟨d, hd⟩ := List.exists_mem_of_ne_nil _ ho
    obtain ⟨hd, hk⟩ := List.mem_filter.1 hd
    refine List.find?_isSome.2 ⟨d, List.mem_append_left _ hd, ?_⟩
    have hcl := h.chaining.closed d hd
    unfold Clip.reclaimable
    rw [hcl]
    simpa using hk

theorem Due.continued_others : ∀ d ∈ before ++ [continuation u.store.nextClip u.partTime
    (u.intake.record.bind IntakeRec.lastPts) c], d.number ≠ c.number := fun d hd => by
  obtain hd | hd := List.mem_append.1 hd
  · exact (h.solo.others d hd).2
  · rw [List.mem_singleton.1 hd]; exact (Nat.ne_of_lt (h.below hb).2).symm

/-- The records once the final trailer of the closed clip has begun. -/
theorem Due.continued_withFinal : (withFinal (setClosing .lockQuota c)
    (issued (.clipOpened u.store.nextClip c.start true) (continued before c u))).store.index =
    before ++ { setClosing .lockQuota c with finalBegun := true } ::
      [continuation u.store.nextClip u.partTime (u.intake.record.bind IntakeRec.lastPts) c] := by
  have hx : (issued (.clipOpened u.store.nextClip c.start true) (continued before c u)).store.index =
      before ++ setClosing .lockQuota c ::
        [continuation u.store.nextClip u.partTime (u.intake.record.bind IntakeRec.lastPts) c] := by rw [issued_store]; rfl
  exact map_of_place hx (h.continued_others hb) fun c => { c with finalBegun := true }

/-- The closed clip and its continuation: what ends the one. -/
theorem Due.ending_continued (hx : 0 < x.data) : Ending (setClosing .lockQuota c) e x u
    (issued (.clipOpened u.store.nextClip c.start true) (continued before c u)) := by
  obtain ⟨hbefore, hc⟩ := h.below hb
  have hs := issued_store (.clipOpened u.store.nextClip c.start true) (continued before c u)
  have hi := issued_intake (.clipOpened u.store.nextClip c.start true) (continued before c u)
  have hne : ∀ d ∈ before, d.state ≠ .closing := fun d hd => by rw [h.chaining.closed d hd]; nofun
  have hindex : (continued before c u).store.index = before ++ [setClosing .lockQuota c,
      continuation u.store.nextClip u.partTime (u.intake.record.bind IntakeRec.lastPts) c] := rfl
  have hholds : (continued before c u).intake.holds c.number = false := by
    refine List.any_eq_false.2 fun b hbm => ?_
    obtain ⟨a, -, rfl⟩ := List.mem_map.1 hbm
    simpa using (Nat.ne_of_lt hc).symm
  refine ⟨issued_departed _ _ h.departed, issued_trig .., issued_card .., ?_, ?_, ?_, ?_, ?_, ?_, ?_, ?_, h.phase,
    ⟨_, h.chain_of (d := setClosing .lockQuota c) ⟨rfl, rfl⟩ fun i => by rw [hs]; rfl⟩, ?_, hx, ?_⟩
  · refine h.hold_of (by rw [hs]; show u.store.writer ≠ _; rw [h.recording]; nofun) (by rw [hs]; rfl) ?_ (issued_answers ..)
      (by rw [hi]; exact ⟨rfl, rfl, rfl⟩)
    rw [hi]
    unfold Intake.occupancy
    exact Nat.add_le_add_right (Nat.le_of_eq (List.length_map ..)) _
  · rw [emptyClosing_eq_nil_iff, hs, hindex]
    intro d hd hcl h0
    obtain hd | hd := List.mem_append.1 hd
    · exact absurd hcl (hne d hd)
    · obtain rfl | hd := List.mem_cons.1 hd
      · exact absurd h0 (Nat.ne_of_gt h.solo.data)
      · rw [List.mem_singleton.1 hd] at hcl; cases hcl
  · rw [hs]
    unfold Store.settled
    rw [hindex, List.all_append]
    simp [Clip.live, setClosing]
  · rw [hs]; exact h.solo.ready
  · rw [hs]; exact .inl h.recording
  · rw [hs]; exact h.retry
  · rw [hs]; exact h.scan
  · unfold finalDue
    rw [hs, hi, hindex, List.find?_append, List.find?_eq_none.2 fun d hd => by simp [hne d hd], Option.none_or]
    refine List.find?_cons_of_pos ?_
    rw [show (setClosing .lockQuota c).number = c.number from rfl, hholds]
    simp [setClosing, h.solo.data]
  · rw [hs]; exact h.chaining.owned
  · exact find_of_place (before := before) (after := [continuation u.store.nextClip u.partTime
      (u.intake.record.bind IntakeRec.lastPts) c]) (c := { setClosing .lockQuota c with finalBegun := true })
      (h.continued_withFinal hb) (h.continued_others hb)
end
end Sys2Proof.Machine

/-! PROOF. The full trailer's end gives an allocation (R94, R95, R96, R100, R106). -/

namespace Sys2Proof.Machine

/-- The full trailer of the newest clip's extent has been written. -/
def trailed (before : List Clip) (c : Clip) (s : State) : State :=
  (s.mapCard Card.rested).mapStore fun st => { st with index := before ++ [{ c with phase := .full }] }

theorem iterate_satAdd {m : Nat} (hm : m ≤ Config.counterMax) (k : Nat) : (fun n => satAdd n 1)^[k] m = satAdd m k := by
  induction k with
  | zero => unfold satAdd; rw [Function.iterate_zero_apply]; omega
  | succ k ih =>
    rw [Function.iterate_succ_apply', ih]
    unfold satAdd
    omega

section
variable {before : List Clip} {c : Clip} {e : Nat} {x : Owned} {s : State} (h : AllocationNear before c e s)
include h

theorem AllocationNear.index : s.store.index = before ++ [c] := by obtain ⟨-, -, -, hx, -⟩ := h; exact hx

theorem AllocationNear.others (ho : ClipsOrdered s) : ∀ d ∈ before, d.state = .closed ∧ d.number ≠ c.number := fun d hd => by
  obtain ⟨-, -, -, hx, hcl, -⟩ := h
  have hp := ho.1
  rw [hx, List.map_append, List.pairwise_append] at hp
  exact ⟨hcl d hd, Nat.ne_of_lt (hp.2.2 _ (List.mem_map_of_mem hd) _ (List.mem_singleton.2 rfl))⟩

/-- At the end of the full trailer an allocation is due. -/
theorem AllocationNear.due (hb : StoreBounded s) (ho : ClipsOrdered s) (hs : StoreSound s) (hp : ExtentsPlaced s)
    (hx : s.store.owned e = some x) (dt : Nat) : Due before { c with phase := .full } e x (trailed before c (s.tick dt)) := by
  have hothers := h.others ho
  obtain ⟨hpow, hrest, hw, hidx, hcl, hopen, hlast, hdata, hbuf, hmarks, hclear, hret, hscan, hbusy, -, hu, hslot, hq⟩ := h
  have hready : s.store.state = .ready := ho.2.2.2.2.2.1 (by rw [hw]; nofun)
  have hparted := extentsPlaced_iff.1 hp hready
  have hnd : (s.store.index.map Clip.number).Nodup := ho.1.imp Nat.ne_of_lt
  have hbuf' : bufCauseNow (trailed before c (s.tick dt)) = s.intake.bufCause :=
    hrest.bufCause (by rw [hw]; nofun) (by show s.store.writer ≠ _; rw [hw]; nofun) rfl rfl
  refine ⟨⟨hready, rfl, hothers, by rw [hopen]; nofun, hdata, fun b hbm => ?_⟩, ⟨?_, ?_, rfl, hcl, hopen, hlast, hx⟩, rfl, hw, hret,
    hscan, hu, hslot, rfl, rfl, ?_, hbuf, hmarks, hrest.waiting, hq, judgeHold_of_bufCause hrest.2.1 hbuf' rfl ⟨rfl, rfl, rfl⟩,
    hrest.2.2, hclear⟩
  · obtain ⟨d, hd, hn, hdc⟩ := hs.1 b hbm
    rw [hidx] at hd
    obtain hd | hd := List.mem_append.1 hd
    · exact absurd (hcl d hd) hdc
    · rw [← hn, List.mem_singleton.1 hd]
  · refine hparted.relink (fun d => if d.number = c.number then { d with phase := .full } else d) ?_ ?_ ?_ ?_ ?_ rfl rfl rfl
      (fun _ => Iff.rfl) (fun i o hi => ⟨o, hi, rfl, rfl, rfl⟩) fun i o hi => ⟨o, hi, rfl, rfl, rfl⟩
    · rw [hidx, map_newest fun d hd => (hothers d hd).2]; rfl
    all_goals intro d _; split <;> rfl
  · show ((before ++ [{ c with phase := .full }]).map Clip.number).Nodup
    rw [hidx, List.map_append] at hnd
    rw [List.map_append]; exact hnd
  · have hlen := hb.1
    rw [hidx, List.length_append] at hlen
    show (before ++ [_]).length ≤ 512
    rw [List.length_append]; exact hlen

/-- What the end of the full trailer makes of the part. -/
theorem AllocationNear.completes (ho : ClipsOrdered s) {dt : Nat} (hl : NotLate dt s) :
    takeCompletion true [] (s.tick dt) = trailed before c (s.tick dt) := by
  have hothers := h.others ho
  obtain ⟨-, -, -, hidx, -, -, -, -, -, -, -, hret, -, -, ⟨o, hop, hsrc⟩, -⟩ := h
  rw [takeCompletion_writer (s := s.tick dt) hl hop hsrc]
  unfold writerOk
  dsimp only
  rw [clearRetry_none (s := (s.tick dt).mapCard Card.rested) hret]
  exact updateClip_newest (s := (s.tick dt).mapCard Card.rested) hidx hothers fun d => { d with phase := .full }

/-- What the allocation leads to, the command answers. -/
theorem AllocationNear.answers (ho : ClipsOrdered s) {dt n : Nat} (hl : NotLate dt s) {t : State} (ht : AtRest t)
    (hn : n ≤ 4096) (hlead : Leads n (trailed before c (s.tick dt)) t) : exec (.cardOpCompletion dt true []) s = .next t :=
  ht.act_leads h.1 (h.completes ho hl) hlead hn
end

/-! ### The Free List after a reclaim, as the statement gives it -/

section
variable {before : List Clip} {c : Clip} {e : Nat} {x : Owned} {st : Store} (h : Chaining before c e x st)
include h

theorem Chaining.gone_owned {k i : Nat} (hi : i ∈ st.goneOf (before.filter fun d => !d.locked) k) : ∃ o, st.owned i = some o := by
  obtain ⟨d, hd, hid⟩ := List.mem_flatMap.1 hi
  have hdi : d ∈ st.index := by
    rw [h.index]
    exact List.mem_append_left _ (List.mem_filter.1 (List.mem_of_mem_take hd)).1
  obtain ⟨o, ho, -⟩ := (h.parted.placed hdi).owned hid
  exact ⟨o, ho⟩

theorem Chaining.freed {k i : Nat} (hi : i ∈ st.goneOf (before.filter fun d => !d.locked) k) :
    (st.owned i).map Owned.freed = some (if (st.owned i).any fun o => o.weak then .bad else .free) := by
  obtain ⟨o, ho⟩ := h.gone_owned hi
  rw [ho]; rfl

theorem Chaining.pool_eq (k : Nat) : st.poolOf (before.filter fun d => !d.locked) k =
    st.free ++ (st.goneOf (before.filter fun d => !d.locked) k).filter fun i => !((st.owned i).any fun o => o.weak) := by
  refine congrArg (st.free ++ ·) (List.filter_congr fun i hi => ?_)
  obtain ⟨o, ho⟩ := h.gone_owned hi
  rw [ho]; rfl

/-- The record with `f` chained has its first extent still. -/
theorem Chaining.chained_clip (f : Nat) : c.chained f =
    { c with extentCount := c.extentCount + 1, lastExtent := some f, phase := .opening } := by
  have hp := h.parted.placed h.mem
  have hne : st.chainOf c ≠ [] := List.ne_nil_of_mem h.mem_chain
  obtain ⟨a, l, hl⟩ := List.exists_cons_of_ne_nil hne
  have hf := hp.head
  rw [hl] at hf
  unfold Clip.chained
  rw [← hf]; rfl
end

theorem lockedOf_continued {before : List Clip} {c d k : Clip} (hl : d.locked = c.locked) (hx : d.extentCount = c.extentCount)
    (hk : k.locked = false) : lockedOf (before ++ d :: [k]) = lockedOf (before ++ [c]) := by
  rw [lockedOf_place, lockedOf_place, lockedOf_place, hl, hx, hk]
  rfl

/-- Settles O43: the burst that fills its extent, then the allocation behind the full trailer by the quota and by what there is
to take. -/
theorem allocationExtendsTheChain : Obligations.AllocationExtendsTheChain := by
  refine ⟨fun dt before c e pos header counted bytes x taken left l o s hp hrest hrec hlast hbuf _ hop hsrc hown hnext hchain hel
      hu hslot hscan hflush hb hl hfull =>
    fullTrailer_started hp hrest hrec hlast hbuf hop hsrc hown hnext hchain hel hu hslot hscan hflush hb hl hfull,
    fun dt before c e x s h hb ho hs hp hcnt hx hl => ?_⟩
  have hd := h.due hb ho hs hp hx dt
  have hindex := h.index
  have hch : (trailed before c (s.tick dt)).store.chainOf = fun d => s.store.chain d.extentCount d.firstExtent :=
    funext fun d => chain_congr fun _ _ => rfl
  have hlocked : (trailed before c (s.tick dt)).store.lockedExtents = s.store.lockedExtents := by
    show lockedOf (before ++ { c with phase := .full } :: []) = lockedOf s.store.index
    rw [hindex, lockedOf_place, lockedOf_place]
  have hcall := fun t n => h.answers (t := t) (n := n) ho hl
  have hgone : ∀ k, (trailed before c (s.tick dt)).store.goneOf (before.filter fun d => !d.locked) k =
      ((before.filter fun d => !d.locked).take k).flatMap fun d => s.store.chain d.extentCount d.firstExtent := fun k => by
    unfold Store.goneOf; rw [hch]
  refine ⟨fun hq => ⟨fun hpool => ?_, fun hf ho' hx0 => ?_⟩, fun hlk hq hx0 => ⟨fun hlen hn hfo hr hrep => ?_, fun hfail => ?_⟩⟩
  · have hpoolEq := hd.chaining.pool_eq
    simp only [hgone] at hpoolEq
    obtain ⟨t, n, k, f, B, hn, hlead, ht, hal, hown, hext, hfree, hidx, hcnt', hint, hwr, -, htr⟩ :=
      hd.chains (by rw [hlocked]; exact hq) (by rw [hpoolEq]; exact hpool)
    refine ⟨t, k, f, hcall t n ht hn hlead, hal.le, ?_, fun j hj => ?_, ?_, ?_, ?_, ?_, ?_, ?_, fun i hif hie => ?_, hint, hwr, htr⟩
    · rw [← hal.head, hpoolEq]; rfl
    · have := hal.few j hj
      rw [hpoolEq] at this; exact this
    · have := hal.enough
      rw [hpoolEq] at this; exact this
    · rw [hfree, hal.free, hpoolEq]; rfl
    · rw [hidx, hal.index, hd.chaining.chained_clip]
    · rw [hcnt']
      exact iterate_satAdd (hcnt s.counters.reclaimedClips (by simp [Counters.toList])) k
    · rw [hown]; exact hal.head_owned
    · rw [hown]; exact hal.last_owned
    · rw [hext, hal.others i hif hie]
      by_cases hi : i ∈ (trailed before c (s.tick dt)).store.goneOf (before.filter fun d => !d.locked) k
      · rw [if_pos hi, hd.chaining.freed hi]
        rw [hgone] at hi
        exact (if_pos hi).symm
      · rw [if_neg hi]
        rw [hgone] at hi
        exact (if_neg hi).symm
  · obtain ⟨t, n, hn, hlead, ht, hw, hidx, h1, h2, h3, h4, h5, h6, htr⟩ := hd.halts (d := setClosing .full { c with phase := .full })
      ⟨rfl, rfl, rfl, rfl, rfl, rfl⟩ (hd.allocate_full (by rw [hlocked]; exact hq) hf ho') hx0
    rw [hch] at htr
    exact ⟨t, hcall t n ht hn hlead, hw, hidx, h1, h2, h3, h4, h5, h6.trans hf, htr⟩
  · have hbelow : ∀ d ∈ (trailed before c (s.tick dt)).store.index, d.number < s.store.nextClip := fun d hdm => by
      have hob := ho.2.1
      rw [hindex] at hob
      obtain hdm | hdm := List.mem_append.1 hdm
      · exact hob d (List.mem_append_left _ hdm)
      · rw [List.mem_singleton.1 hdm]; exact hob c (by simp)
    have hend := hd.ending_continued hbelow hx0
    have hclose := (hd.allocate_quota hlk (by rw [hlocked]; exact hq)).trans
      (hd.quotaClose_passes hbelow hr (hd.quotaed_passes hlen hn hfo))
    rw [afterClose_judges hend.empty hend.unsettled hend.hold] at hclose
    obtain ⟨t, n, low, near, hn', hlead, ht, hst, hint, hpt, hiss, htr⟩ := hd.ends hend hclose
    have hrs := issued_store (.clipOpened s.store.nextClip c.start true) (continued before { c with phase := .full }
      (trailed before c (s.tick dt)))
    have hri := issued_intake (.clipOpened s.store.nextClip c.start true) (continued before { c with phase := .full }
      (trailed before c (s.tick dt)))
    have hkeep : ∀ {α : Type} (g : Store → α), (∀ (st : Store) (l : List Clip), g { st with index := l } = g st) →
        (∀ st low near, g (Store.lit low near st) = g st) →
        g t.store = g (continued before { c with phase := .full } (trailed before c (s.tick dt))).store := fun g hg hg' => by
      rw [hst, hg', ← hrs]
      exact hg _ _
    have hidx : t.store.index = _ := (congrArg Store.index hst).trans (hd.continued_withFinal hbelow)
    refine ⟨t, hcall t n ht hn' hlead, hkeep Store.writer (fun _ _ => rfl) (fun _ _ _ => rfl) |>.trans hd.recording,
      hkeep Store.nextClip (fun _ _ => rfl) (fun _ _ _ => rfl), hidx, hint.trans hri,
      hkeep Store.extents (fun _ _ => rfl) (fun _ _ _ => rfl), hkeep Store.free (fun _ _ => rfl) (fun _ _ _ => rfl), ?_,
      hiss _ (issued_of_room hrep), ?_⟩
    · show lockedOf t.store.index = lockedOf s.store.index
      rw [hidx, hindex]
      exact lockedOf_continued rfl rfl rfl
    · have hinfo := hd.final_info (d := setClosing .lockQuota { c with phase := .full }) ⟨rfl, rfl, rfl, rfl, rfl, rfl⟩
        (st := (issued (.clipOpened s.store.nextClip c.start true) (continued before { c with phase := .full }
          (trailed before c (s.tick dt)))).store) fun i => by rw [hrs]; rfl
      rw [hch] at hinfo
      refine (congrArg (fun i => TrailerStarted (.finalTrailer c.number e) e i t) (hinfo.trans ?_)).mp htr
      exact congrArg (fun b => (⟨c.number, x.seq, _, x.data, true, b, c.flags, c.start, c.duration⟩ : TrailerInfo)) hlk
  · have hclose := (hd.allocate_quota hlk (by rw [hlocked]; exact hq)).trans
      (hd.quotaClose_fails (quotaed_fails hfail))
    obtain ⟨t, n, hn, hlead, ht, hw, hidx, h1, h2, h3, h4, h5, h6, htr⟩ := hd.halts
      (d := Clip.cutShort { c with phase := .full })
      ⟨rfl, rfl, rfl, rfl, rfl, rfl⟩ hclose hx0
    rw [hch] at htr
    refine ⟨t, hcall t n ht hn hlead, hw, hidx, h1, h2, h3, h4, h5, h6, ?_⟩
    refine (congrArg (fun i => TrailerStarted (.finalTrailer c.number e) e i t) ?_).mp htr
    exact congrArg (fun b => (⟨c.number, x.seq, _, x.data, true, b, { c.flags with truncated := true }, c.start,
      c.duration⟩ : TrailerInfo)) hlk
end Sys2Proof.Machine

/-! PROOF. What side packets, changes that no enabled entry watches and the settling beside a write in flight leave as it is (R60,
R74, R132, R136). -/

namespace Sys2Proof.Machine

/-- Beside the writer's write in flight nothing is left to close. -/
def Busy (b : State) : Prop :=
  b.card.writing = true ∧ b.card.state ≠ .idle ∧ emptyClosing b = [] ∧ (b.store.settled = false ∨ b.store.writer = .recording)

/-- `t` has the store, the counters and the power blocks of `b`, its Record Intake but for HOLD and its card but for the
passthrough slot; of the waiting changes none can fire, and in EMERGENCY HOLD is asserted. -/
structure Steadfast (m : BitVec 16) (b t : State) : Prop where
  store : t.store = b.store
  intake : t.intake =
    { b.intake with hold := t.intake.hold, bufCause := t.intake.bufCause, ansCause := t.intake.ansCause }
  card : t.card = { b.card with slot := t.card.slot }
  counters : t.counters = b.counters
  charge : t.charge = b.charge
  thermal : t.thermal = b.thermal
  quiet : Quiet m t
  waits : ∀ c ∈ t.trig.waiting, c.mask &&& ~~~m = 0#16
  held : b.store.writer = .emergency → t.intake.bufCause = true ∧ t.intake.hold = true

theorem Steadfast.notify {m : BitVec 16} {b s : State} (h : Steadfast m b s) {c : Change} (hc : c.mask &&& ~~~m = 0#16) :
    Steadfast m b (notify c s) :=
  ⟨h.store, h.intake, h.card, h.counters, h.charge, h.thermal, h.quiet,
    fun d hd => (List.mem_append.1 hd).elim (h.waits d) fun h1 => by rw [List.mem_singleton.1 h1]; exact hc, h.held⟩

/-- In EMERGENCY the buffer cause of HOLD stands. -/
theorem bufCauseNow_of_emergency {s : State} (h : s.store.writer = .emergency) : bufCauseNow s = true := if_pos h

/-- The judgement of HOLD asserts it in EMERGENCY. -/
theorem steadfast_judgeHold {m : BitVec 16} {b s : State} (hm : condHoldActive &&& ~~~m = 0#16) (hs : s.store = b.store)
    (hi : s.intake = { b.intake with hold := s.intake.hold, bufCause := s.intake.bufCause, ansCause := s.intake.ansCause })
    (hc : s.card = { b.card with slot := s.card.slot }) (hn : s.counters = b.counters) (hg : s.charge = b.charge)
    (ht : s.thermal = b.thermal) (hq : Quiet m s) (hw : ∀ c ∈ s.trig.waiting, c.mask &&& ~~~m = 0#16) :
    Steadfast m b (judgeHold s) := by
  have hj : Steadfast m b (s.mapIntake fun i =>
      { i with bufCause := bufCauseNow s, ansCause := ansCauseNow s, hold := bufCauseNow s || ansCauseNow s }) :=
    ⟨hs, by rw [State.mapIntake_intake, hi], hc, hn, hg, ht, hq, hw, fun he => by
      have hb : bufCauseNow s = true := bufCauseNow_of_emergency (hs ▸ he)
      show bufCauseNow s = true ∧ (bufCauseNow s || ansCauseNow s) = true
      rw [hb]; exact ⟨rfl, rfl⟩⟩
  unfold judgeHold
  dsimp only
  split
  · exact hj
  · exact hj.notify hm

section
variable {m : BitVec 16} {b s : State} (h : Steadfast m b s)
include h

theorem Steadfast.congr {t : State} (hs : t.store = s.store) (hi : t.intake = s.intake) (hc : t.card = s.card)
    (hn : t.counters = s.counters) (hg : t.charge = s.charge) (ht : t.thermal = s.thermal) (hu : t.trig = s.trig) :
    Steadfast m b t where
  store := hs.trans h.store
  intake := by rw [hi]; exact h.intake
  card := by rw [hc]; exact h.card
  counters := hn.trans h.counters
  charge := hg.trans h.charge
  thermal := ht.trans h.thermal
  quiet := by rw [Quiet, hu]; exact h.quiet
  waits := by rw [hu]; exact h.waits
  held := by rw [hi]; exact h.held

theorem Steadfast.freeSlot : Steadfast m b (s.mapCard fun c => { c with slot := none }) :=
  ⟨h.store, h.intake, by rw [State.mapCard_card, h.card], h.counters, h.charge, h.thermal, h.quiet, h.waits, h.held⟩

/-- The work is none beside the write in flight. -/
theorem Steadfast.pump_none (hb : Busy b) : pumpStep s = none := by
  obtain ⟨h1, h2, h3, h4⟩ := hb
  refine pumpStep_beside_write ?_ (by rw [h.card]; exact h2) ?_ (by rw [h.store]; exact h4)
  · unfold Card.writing at h1 ⊢; rw [h.card]; exact h1
  · rw [emptyClosing_eq_nil_iff] at h3 ⊢
    unfold Intake.holds at h3 ⊢
    rw [h.store, h.intake]; exact h3

/-- The head of the waiting changes is taken without a firing. -/
theorem Steadfast.take {c : Change} {cs : List Change} (hw : s.trig.waiting = c :: cs) :
    Steadfast m b (takeChange c (s.mapTrig fun t => { t with waiting := cs })) := by
  have hq := h.waits
  rw [hw] at hq
  rw [takeChange_quiet (m := m) (by exact h.quiet) (hq c (List.mem_cons_self ..))]
  exact ⟨h.store, h.intake, h.card, h.counters, h.charge, h.thermal, h.quiet, fun d hd => hq d (List.mem_cons_of_mem _ hd), h.held⟩

theorem Steadfast.settle (hb : Busy b) : Steadfast m b (settle s) := by
  unfold Machine.settle
  refine quiesce_keeps (P := Steadfast m b) (fun t u ht hu => ?_) h _
  unfold settleStep at hu
  split at hu
  · next hw => cases hu; exact ht.take hw
  · rw [ht.pump_none hb] at hu; cases hu

variable (hm : condHoldActive &&& ~~~m = 0#16)
include hm

theorem Steadfast.judgeHold : Steadfast m b (judgeHold s) :=
  steadfast_judgeHold hm h.store h.intake h.card h.counters h.charge h.thermal h.quiet h.waits

theorem Steadfast.fillSlot : Steadfast m b (fillSlot s) := by
  unfold Machine.fillSlot
  split
  · exact h
  · split
    · exact h.congr rfl rfl rfl rfl rfl rfl rfl
    · split
      · unfold answerRemoved
        split
        · exact (Steadfast.freeSlot (s := (s.emit _).mapLink _) (h.congr rfl rfl rfl rfl rfl rfl rfl)).judgeHold hm
        · exact (Steadfast.congr (t := (s.emit _).mapLink _) h rfl rfl rfl rfl rfl rfl rfl).judgeHold hm
      · split
        · unfold reportRemoved enqueueReport
          dsimp only
          split_ifs <;> exact h.congr rfl rfl rfl rfl rfl rfl rfl
        · exact h

theorem Steadfast.fillSlots (n : Nat) : Steadfast m b (fillSlots n s) := by
  induction n generalizing s with
  | zero => exact h
  | succ n ih => exact ih (h.fillSlot hm)

theorem Steadfast.drainRoom : Steadfast m b (drainRoom s) := h.fillSlots hm _

theorem Steadfast.depart : Steadfast m b (depart s) := by
  unfold Machine.depart endDrain
  split
  · split
    · exact (h.drainRoom hm).congr rfl rfl rfl rfl rfl rfl rfl
    · exact h.drainRoom hm
  · exact h

theorem Steadfast.report (p : Payload) : Steadfast m b (report p s) := by
  unfold Machine.report enqueueReport
  split
  · exact (h.drainRoom hm).congr rfl rfl rfl rfl rfl rfl rfl
  · split <;> exact h.congr rfl rfl rfl rfl rfl rfl rfl

theorem Steadfast.finish (hb : Busy b) : Steadfast m b (finish s) :=
  ((((h.settle hb).depart hm).settle hb).depart hm)
end

theorem Steadfast.mapThermal {m : BitVec 16} {b s : State} (h : Steadfast m b s) (f : Thermal → Thermal) :
    Steadfast m (b.mapThermal f) (s.mapThermal f) :=
  ⟨h.store, h.intake, h.card, h.counters, h.charge, by rw [State.mapThermal_thermal, h.thermal]; rfl, h.quiet, h.waits, h.held⟩

theorem Steadfast.mapCharge {m : BitVec 16} {b s : State} (h : Steadfast m b s) (f : Charge → Charge) :
    Steadfast m (b.mapCharge f) (s.mapCharge f) :=
  ⟨h.store, h.intake, h.card, h.counters, by rw [State.mapCharge_charge, h.charge]; rfl, h.thermal, h.quiet, h.waits, h.held⟩
end Sys2Proof.Machine

/-! PROOF. Entry of the writer to EMERGENCY by the supply or the die tier (R108, R109, R164 to R168). -/

namespace Sys2Proof.Machine

/-- The emergency close has begun: the clip `c` behind `before` closed off with `r`, and the flush at its limit. -/
@[irreducible] def flushing (r : CloseReason) (before : List Clip) (c : Clip) (s : State) : State :=
  ((s.mapCounters fun k => { k with emergencyCloses := satAdd k.emergencyCloses 1 }).mapStore fun st =>
    { st with writer := .emergency, index := before ++ [{ c with state := .closing, reason := some r }],
              flush := some ⟨st.tab.flushLimit, r, 0, 0, 0, 0, 0⟩ }).mapIntake fun i =>
    { i with record := none, stallEnd := none, packing := [],
             buffer := i.buffer ++
               (if i.packing = [] then [] else [⟨c.number, i.packing ++ padding i.packing.length⟩]) }

section
variable (r : CloseReason) (before : List Clip) (c : Clip) (s : State)

theorem flushing_store : (flushing r before c s).store = { s.store with
    writer := .emergency, index := before ++ [{ c with state := .closing, reason := some r }],
    flush := some ⟨s.store.tab.flushLimit, r, 0, 0, 0, 0, 0⟩ } := by unfold flushing; rfl

theorem flushing_intake : (flushing r before c s).intake = { s.intake with
    record := none, stallEnd := none, packing := []
    buffer := s.intake.buffer ++
      (if s.intake.packing = [] then [] else [⟨c.number, s.intake.packing ++ padding s.intake.packing.length⟩]) } := by unfold flushing; rfl

theorem flushing_counters : (flushing r before c s).counters =
    { s.counters with emergencyCloses := satAdd s.counters.emergencyCloses 1 } := by unfold flushing; rfl
theorem flushing_card : (flushing r before c s).card = s.card := by unfold flushing; rfl
theorem flushing_charge : (flushing r before c s).charge = s.charge := by unfold flushing; rfl
theorem flushing_thermal : (flushing r before c s).thermal = s.thermal := by unfold flushing; rfl
theorem flushing_trig : (flushing r before c s).trig = s.trig := by unfold flushing; rfl

/-- The record of the OPEN clip that the emergency closes is closed off, and its flush begins. -/
theorem closedOff_flush : (closedOff .emergency r before c
    (s.mapCounters fun k => { k with emergencyCloses := satAdd k.emergencyCloses 1 })).mapStore
      (fun st => { st with flush := some ⟨st.tab.flushLimit, r, 0, 0, 0, 0, 0⟩ }) = flushing r before c s := by
  rw [closedOff_eq]; unfold flushing; rfl
end

/-- The flush is none of what STORE_LOW and LOCK_NEAR are judged by. -/
theorem StoreJudged.mapFlush {s : State} (h : StoreJudged s) (f : Store → Option Flush) :
    StoreJudged (s.mapStore fun st => { st with flush := f st }) := h

theorem RecordingInto.judged_closedOff {before : List Clip} {c : Clip} {s : State} (h : RecordingInto before c s)
    (w : WriterState) (q : CloseReason) : StoreJudged (closedOff w q before c s) :=
  h.store_stands rfl (closedOff_index w q) (by simp) rfl

section
variable {m : BitVec 16} {before : List Clip} {c : Clip} {b t : State} (h : Steadfast m b t) (hrec : RecordingInto before c b)
include h hrec

theorem Steadfast.recordingInto : RecordingInto before c t := by
  obtain ⟨h1, h2, h3, h4, h5, h6, h7, h8, h9, h10⟩ := hrec
  refine ⟨by rw [h.store]; exact h1, by rw [h.store]; exact h2, by rw [h.store]; exact h3, h4, h5, h6, h7,
    by rw [h.intake]; exact h8, by rw [h.card]; exact h9, h10.congr h.store⟩

/-- The writer's entry to EMERGENCY. -/
theorem Steadfast.enterEmergency (r : CloseReason) (hw : b.card.writing = true) (hm : condHoldActive &&& ~~~m = 0#16) :
    Steadfast m (flushing r before c b) (enterEmergency r t) ∧ Busy (flushing r before c b) := by
  have ht := (h.recordingInto hrec).congr (t := t.mapCounters fun k =>
    { k with emergencyCloses := satAdd k.emergencyCloses 1 }) rfl rfl rfl
  have hindex : ∀ u : State, (flushing r before c u).store.index = before ++ [setClosing r c] := fun u => by
    rw [flushing_store]; rfl
  have hunsettled : ∀ u : State, (flushing r before c u).store.settled = false := fun u => by
    unfold Store.settled; rw [hindex, List.all_append]; simp [Clip.live, setClosing]
  have hempty : ∀ {u v : State}, u.store = (flushing r before c v).store → emptyClosing u = [] := fun hx =>
    hrec.nothing_empty (by rw [hx]; exact hindex _) (by simp)
  have hjudged : Steadfast m (flushing r before c b) (Machine.judgeHold (flushing r before c t)) := by
    refine steadfast_judgeHold hm (by rw [flushing_store, flushing_store, h.store]) ?_
      (by rw [flushing_card, flushing_card]; exact h.card) (by rw [flushing_counters, flushing_counters, h.counters])
      (by rw [flushing_charge, flushing_charge]; exact h.charge)
      (by rw [flushing_thermal, flushing_thermal]; exact h.thermal) (by unfold Quiet; rw [flushing_trig]; exact h.quiet)
      (by rw [flushing_trig]; exact h.waits)
    rw [flushing_intake, flushing_intake, h.intake]
  have hj : StoreJudged (flushing r before c t) := by
    rw [← closedOff_flush]
    exact (ht.judged_closedOff .emergency r).mapFlush fun st => some ⟨st.tab.flushLimit, r, 0, 0, 0, 0, 0⟩
  have hidem : Machine.judgeHold (Machine.judgeHold (flushing r before c t)) = Machine.judgeHold (flushing r before c t) := by
    have hb : ∀ u : State, u.store = (flushing r before c t).store → bufCauseNow u = true := fun u hu =>
      bufCauseNow_of_emergency (by rw [hu, flushing_store])
    rw [judgeHold_eq_self_iff, hb _ (judgeHold_store _), judgeHold_intake]
    have ha : ansCauseNow (Machine.judgeHold (flushing r before c t)) = ansCauseNow (flushing r before c t) := by
      unfold ansCauseNow; rw [judgeHold_link]
    rw [ha, hb _ rfl]
    exact ⟨rfl, rfl, rfl⟩
  have he : Machine.enterEmergency r t = Machine.judgeHold (flushing r before c t) := by
    unfold Machine.enterEmergency
    rw [if_pos (.inl (h.recordingInto hrec).recording)]
    dsimp only
    rw [ht.closeOpen_eq .emergency r, closedOff_flush]
    exact afterClose_of_nothing (hempty (judgeHold_store _))
      (by rw [judgeHold_store]; exact hunsettled t) hidem (hj.congr (judgeHold_store _))
  rw [he]
  exact ⟨hjudged, by rw [flushing_card]; exact hw, by rw [flushing_card]; exact hrec.card_taken, hempty rfl,
    .inl (hunsettled b)⟩
end
end Sys2Proof.Machine

/-! PROOF. A supply change to EMERGENCY and a tier change to CUTOFF while recording (R108, R165, R168). -/

namespace Sys2Proof.Machine

/-- A state without waiting changes is steadfast to itself, outside EMERGENCY. -/
theorem Steadfast.refl {m : BitVec 16} {b : State} (hq : Quiet m b) (hw : b.trig.waiting = []) (he : b.store.writer ≠ .emergency) :
    Steadfast m b b :=
  ⟨rfl, rfl, rfl, rfl, rfl, rfl, hq, by rw [hw]; nofun, fun h => absurd h he⟩

section
variable {m : BitVec 16} {before : List Clip} {c : Clip} {b t : State} (h : Steadfast m b t) (hrec : RecordingInto before c b)
  (hw : b.card.writing = true) (hm : condHoldActive &&& ~~~m = 0#16)
include h hrec hw hm

theorem Steadfast.changeSupply (hs : condSupplyWarn &&& ~~~m = 0#16) :
    let b' := flushing .power before c (b.mapThermal fun u => { u with supply := .emergency })
    Steadfast m b' (changeSupply .emergency t) ∧ Busy b' := by
  have hr := (h.mapThermal fun u => { u with supply := .emergency }).report hm
    (.supply .emergency t.thermal.supply t.charge.meas.vbat)
  have hn := hr.notify (c := setCond condSupplyWarn (Supply.emergency ≠ .normal)) hs
  obtain ⟨he, hb⟩ := hn.enterEmergency (before := before) (c := c) (hrec.congr rfl rfl rfl) .power hw hm
  exact ⟨he.settle hb, hb⟩

theorem Steadfast.changeTier (hs : (condTierDerate ||| condTierLimit) &&& ~~~m = 0#16) (ht : t.thermal.tier ≠ .cutoff) :
    let b' := flushing .thermal before c
      ((b.mapThermal fun u => { u with tier := .cutoff }).mapCharge fun k => { k with setpoint := 0 })
    Steadfast m b' (changeTier .cutoff t) ∧ Busy b' := by
  have hr := (h.mapThermal fun u => { u with tier := .cutoff }).report hm
    (.tier .cutoff t.thermal.tier t.charge.meas.dieTemp)
  have hn := hr.notify (c := ⟨condTierDerate ||| condTierLimit,
    condIf condTierDerate (1 ≤ Tier.cutoff.code) ||| condIf condTierLimit (2 ≤ Tier.cutoff.code)⟩) hs
  have hlt : t.thermal.tier.code < Tier.cutoff.code := by
    cases hk : t.thermal.tier with
    | clear => decide
    | derate => decide
    | limit => decide
    | cutoff => exact absurd hk ht
  obtain ⟨he, hb⟩ := (hn.mapCharge fun k => { k with setpoint := 0 }).enterEmergency (before := before) (c := c)
    (hrec.congr rfl rfl rfl) .thermal hw hm
  refine ⟨?_, hb⟩
  unfold Machine.changeTier
  dsimp only
  rw [if_pos rfl, if_pos ⟨by decide, hlt⟩]
  exact he.settle hb
end

section
variable {s : State}

/-- The state a power update is judged in. -/
def measured (m : Measurements) (s : State) : State :=
  s.mapCharge fun k =>
    { k with meas := m, updates := k.updates + 1, evalDue := k.evalDue || decide ((k.updates + 1) % 10 = 0) }

/-- With nothing deferred, no page waiting and VIN in its hysteresis an update is the measurement and its handling. -/
theorem takeUpdate_plain (m : Measurements) (supplyFirst : Bool) (hd : s.thermal.deferred = none)
    (hw : s.link.waitThermal = none) (hlo : 4100 ≤ m.vin) (hhi : m.vin < 4300) :
    takeUpdate m supplyFirst false s = handleUpdate supplyFirst (measured m s) := by
  have h1 : handleDeferred s = s := by unfold handleDeferred; rw [hd]
  have h2 : applyThermal s = s := by unfold applyThermal; rw [hw]
  have h3 : judgeVin (measured m s) = measured m s := by
    have hp : vinPresent (measured m s).charge.vin (measured m s).charge.meas.vin = (measured m s).charge.vin := by
      show vinPresent s.charge.vin m.vin = s.charge.vin
      unfold vinPresent
      rw [if_neg (by omega), if_neg (by omega)]
    unfold judgeVin
    exact if_pos hp
  unfold takeUpdate
  rw [h1, h2]
  dsimp only
  rw [if_neg (by simp)]
  exact congrArg (handleUpdate supplyFirst) h3

theorem judgeTier_stays (h : s.thermal.tab.nextTier s.thermal.tier s.charge.meas.dieTemp = s.thermal.tier) : judgeTier s = s :=
  if_pos h

theorem judgeSupply_stays (h : s.thermal.tab.nextSupply s.thermal.supply s.charge.meas.vbat = s.thermal.supply) :
    judgeSupply s = s := if_pos h

theorem nextTier_clear {b : ThermalTab} {d : Int} (h1 : d < b.riseDerate) (h2 : d < b.riseLimit) (h3 : d < b.riseCutoff) :
    b.nextTier .clear d = .clear := by
  unfold ThermalTab.nextTier ThermalTab.risen
  rw [if_neg (Int.not_le.2 h1), if_neg (Int.not_le.2 h2), if_neg (Int.not_le.2 h3)]
  rfl

theorem nextTier_cutoff {b : ThermalTab} {d : Int} {old : Tier} (h1 : b.riseDerate ≤ d) (h2 : b.riseLimit ≤ d)
    (h3 : b.riseCutoff ≤ d) (ho : old ≠ .cutoff) : b.nextTier old d = .cutoff := by
  unfold ThermalTab.nextTier ThermalTab.risen
  rw [if_pos h1, if_pos h2, if_pos h3]
  cases old with
  | clear => rfl
  | derate => rfl
  | limit => rfl
  | cutoff => exact absurd rfl ho
end

section
variable {mk : BitVec 16} {before : List Clip} {c : Clip} {s : State} {m : Measurements} (h : Steadfast mk (measured m s) (measured m s))
  (hrec : RecordingInto before c s) (hw : s.card.writing = true) (hm : condHoldActive &&& ~~~mk = 0#16)
include h hrec hw hm

/-- The supply falls to EMERGENCY and the tier stays. -/
theorem Steadfast.supplyFalls (supplyFirst : Bool) (hs : condSupplyWarn &&& ~~~mk = 0#16) (hsup : s.thermal.supply = .normal)
    (hv : m.vbat < s.thermal.tab.emergencyEntry)
    (ht : s.thermal.tab.nextTier s.thermal.tier m.dieTemp = s.thermal.tier) :
    let b' := flushing .power before c ((measured m s).mapThermal fun u => { u with supply := .emergency })
    Steadfast mk b' (handleUpdate supplyFirst (measured m s)) ∧ Busy b' := by
  have hc := h.changeSupply (before := before) (c := c) (hrec.congr rfl rfl rfl) hw hm hs
  have hj : judgeSupply (measured m s) = Machine.changeSupply .emergency (measured m s) := by
    have hn : (measured m s).thermal.tab.nextSupply (measured m s).thermal.supply (measured m s).charge.meas.vbat =
        .emergency := by
      show s.thermal.tab.nextSupply s.thermal.supply m.vbat = .emergency
      rw [hsup]; exact if_pos hv
    unfold judgeSupply
    dsimp only
    rw [hn, if_neg (by rw [show (measured m s).thermal.supply = .normal from hsup]; decide)]
  have hbefore : judgeTier (measured m s) = measured m s := judgeTier_stays ht
  have hafter : judgeTier (Machine.changeSupply .emergency (measured m s)) = Machine.changeSupply .emergency (measured m s) := by
    refine judgeTier_stays ?_
    rw [hc.1.thermal, hc.1.charge, flushing_thermal, flushing_charge]
    exact ht
  unfold handleUpdate
  cases supplyFirst with
  | true => rw [if_pos rfl, hj, hafter]; exact hc
  | false => rw [if_neg (by decide), hbefore, hj]; exact hc

/-- The tier rises to CUTOFF and the supply stays. -/
theorem Steadfast.tierRises (supplyFirst : Bool) (hs : (condTierDerate ||| condTierLimit) &&& ~~~mk = 0#16)
    (hold : s.thermal.tier ≠ .cutoff) (ht : s.thermal.tab.nextTier s.thermal.tier m.dieTemp = .cutoff)
    (hv : s.thermal.tab.nextSupply s.thermal.supply m.vbat = s.thermal.supply) :
    let b' := flushing .thermal before c
      (((measured m s).mapThermal fun u => { u with tier := .cutoff }).mapCharge fun k => { k with setpoint := 0 })
    Steadfast mk b' (handleUpdate supplyFirst (measured m s)) ∧ Busy b' := by
  have hc := h.changeTier (before := before) (c := c) (hrec.congr rfl rfl rfl) hw hm hs hold
  have hj : judgeTier (measured m s) = Machine.changeTier .cutoff (measured m s) := by
    have hn : (measured m s).thermal.tab.nextTier (measured m s).thermal.tier (measured m s).charge.meas.dieTemp = .cutoff := ht
    unfold judgeTier
    dsimp only
    rw [hn, if_neg (show Tier.cutoff ≠ (measured m s).thermal.tier from Ne.symm hold)]
  have hbefore : judgeSupply (measured m s) = measured m s := judgeSupply_stays hv
  have hafter : judgeSupply (Machine.changeTier .cutoff (measured m s)) = Machine.changeTier .cutoff (measured m s) := by
    refine judgeSupply_stays ?_
    rw [hc.1.thermal, hc.1.charge, flushing_thermal, flushing_charge]
    exact hv
  unfold handleUpdate
  cases supplyFirst with
  | true => rw [if_pos rfl, hbefore, hj]; exact hc
  | false => rw [if_neg (by decide), hj, hafter]; exact hc
end

theorem nextSupply_normal {b : ThermalTab} {v : Nat} (h1 : b.emergencyEntry ≤ v) (h2 : b.warnEntry ≤ v) :
    b.nextSupply .normal v = .normal := by
  unfold ThermalTab.nextSupply
  rw [if_neg (by omega), if_neg (by omega)]

/-- A power update that takes the supply to EMERGENCY or the die tier to CUTOFF while a clip records. -/
theorem emergencyEntered {dt : Nat} {m : Measurements} {supplyFirst : Bool} {before : List Clip} {c : Clip} {r : CloseReason}
    {s : State} (hp : s.powered = true) (hd : s.thermal.deferred = none) (hlw : s.link.waitThermal = none)
    (hrec : RecordingInto before c s) (hw : s.card.writing = true) (hempty : s.trig.waiting = [])
    (hq : Quiet (condTierDerate ||| condTierLimit ||| condSupplyWarn ||| condHoldActive) s) (hlo : 4100 ≤ m.vin)
    (hhi : m.vin < 4300) (hsup : s.thermal.supply = .normal)
    (hcause :
      (r = .power ∧ m.vbat < s.thermal.tab.emergencyEntry ∧ s.thermal.tier = .clear ∧ m.dieTemp < s.thermal.tab.riseDerate ∧
        m.dieTemp < s.thermal.tab.riseLimit ∧ m.dieTemp < s.thermal.tab.riseCutoff) ∨
      (r = .thermal ∧ s.thermal.tab.emergencyEntry ≤ m.vbat ∧ s.thermal.tab.warnEntry ≤ m.vbat ∧ s.thermal.tier ≠ .cutoff ∧
        s.thermal.tab.riseDerate ≤ m.dieTemp ∧ s.thermal.tab.riseLimit ≤ m.dieTemp ∧ s.thermal.tab.riseCutoff ≤ m.dieTemp)) :
    ∃ t b, exec (.powerUpdate dt m supplyFirst false) s = .next t ∧
      Steadfast (condTierDerate ||| condTierLimit ||| condSupplyWarn ||| condHoldActive) (flushing r before c b) t ∧
      b.store = s.store ∧ b.intake = s.intake ∧ b.card = s.card ∧ b.counters = s.counters := by
  have hrec' := hrec.congr (t := s.tick dt) rfl rfl rfl
  have h0 : Steadfast (condTierDerate ||| condTierLimit ||| condSupplyWarn ||| condHoldActive) (measured m (s.tick dt))
      (measured m (s.tick dt)) :=
    .refl hq hempty fun h => by
      have hr := hrec.recording
      have h' : s.store.writer = .emergency := h
      rw [hr] at h'; cases h'
  have hex : ∀ b' : State, Steadfast (condTierDerate ||| condTierLimit ||| condSupplyWarn ||| condHoldActive) b'
      (handleUpdate supplyFirst (measured m (s.tick dt))) ∧ Busy b' →
      exec (.powerUpdate dt m supplyFirst false) s = .next (finish (handleUpdate supplyFirst (measured m (s.tick dt)))) ∧
      Steadfast (condTierDerate ||| condTierLimit ||| condSupplyWarn ||| condHoldActive) b'
        (finish (handleUpdate supplyFirst (measured m (s.tick dt)))) := fun b' hb => by
    refine ⟨?_, hb.1.finish (by decide) hb.2⟩
    rw [← takeUpdate_plain (s := s.tick dt) m supplyFirst hd hlw hlo hhi]
    have hx : exec (.powerUpdate dt m supplyFirst false) s = act dt (takeUpdate m supplyFirst false) s := rfl
    rw [hx]; unfold act
    exact live_powered hp
  obtain ⟨rfl, hv, ht, h1, h2, h3⟩ | ⟨rfl, hv1, hv2, ht, h1, h2, h3⟩ := hcause
  · obtain ⟨he, hf⟩ := hex _ (h0.supplyFalls hrec' hw (by decide) supplyFirst (by decide) hsup hv (by
      show s.thermal.tab.nextTier s.thermal.tier m.dieTemp = s.thermal.tier
      rw [ht]; exact nextTier_clear h1 h2 h3))
    exact ⟨_, _, he, hf, rfl, rfl, rfl, rfl⟩
  · obtain ⟨he, hf⟩ := hex _ (h0.tierRises hrec' hw (by decide) supplyFirst (by decide) ht (nextTier_cutoff h1 h2 h3 ht) (by
      show s.thermal.tab.nextSupply s.thermal.supply m.vbat = s.thermal.supply
      rw [hsup]; exact nextSupply_normal hv1 hv2))
    exact ⟨_, _, he, hf, rfl, rfl, rfl, rfl⟩
end Sys2Proof.Machine

/-! PROOF. The burst that reaches the flush limit cuts the flush, and the final trailer starts (R109, R110). -/

namespace Sys2Proof.Machine

/-- STORE_LOW and LOCK_NEAR stand where the newest record changes but for its lock and its extents. -/
theorem StoreJudged.of_newest {before : List Clip} {c d : Clip} {s t : State} (h : StoreJudged s)
    (hs : s.store.index = before ++ [c]) (ht : t.store.index = before ++ [d]) (hc : c.state ≠ .closed) (hd : d.state ≠ .closed)
    (hl : d.locked = c.locked) (hn : d.extentCount = c.extentCount)
    (hk : t.store.state = s.store.state ∧ t.store.free = s.store.free ∧ t.store.tab = s.store.tab ∧
      t.store.quotaEff = s.store.quotaEff ∧ t.store.storeLow = s.store.storeLow ∧ t.store.lockNear = s.store.lockNear) :
    StoreJudged t := by
  obtain ⟨h1, h2, h3, h4, h5, h6⟩ := hk
  have hlock : t.store.lockedExtents = s.store.lockedExtents := by
    unfold Store.lockedExtents
    rw [hs, ht]
    cases hlk : c.locked <;> simp [hl, hn, hlk]
  have hold : t.store.oldestReclaimable = s.store.oldestReclaimable := by
    have hr : ∀ b : Clip, b.state ≠ .closed → b.reclaimable = false := fun b hb => by simp [Clip.reclaimable, hb]
    unfold Store.oldestReclaimable
    rw [hs, ht, List.find?_append, List.find?_append]
    simp [hr c hc, hr d hd]
  unfold StoreJudged storeLowNow lockNearNow at *
  rw [h1, h2, h3, h4, h5, h6, hlock, hold]
  exact h

/-- No retry is withdrawn where there is none. -/
theorem dropOrphan_none {s : State} (h : s.store.retry = none) : dropOrphan s = s := by
  have hr : (if s.store.retry.any (fun w => (s.store.find w.clip).isNone) then none else s.store.retry) = s.store.retry := by
    rw [h]; rfl
  show { s with store := { s.store with retry := _ } } = s
  exact congrArg (fun r => { s with store := { s.store with retry := r } }) hr

/-- A flush that has reached its limit with blocks of the last live clip `d` left, at an IDLE card with no other claim. -/
structure Spent (before : List Clip) (d : Clip) (e : Nat) (x : Owned) (f : Flush) (q : State) : Prop where
  solo : Solo before d q
  closing : d.state = .closing
  phase : d.phase = .writing
  emergency : q.store.writer = .emergency
  flush : q.store.flush = some f
  spent : f.limit ≤ f.written
  retry : q.store.retry = none
  scan : q.store.scan = none
  updates : q.card.updates = []
  slot : q.card.slot = none
  idle : q.card.state = .idle
  op : q.card.op = none
  buffer : q.intake.buffer ≠ []
  chain : ∃ l, q.store.chainOf d = l ++ [e]
  owned : q.store.owned e = some x
  data : 0 < x.data
  waiting : q.trig.waiting = []
  hold : judgeHold q = q
  judged : StoreJudged q
  departed : departed q = true

/-- The flush of `q` cut. -/
def cut (before : List Clip) (d : Clip) (f : Flush) (q : State) : State :=
  (q.mapStore fun st =>
    { st with index := before ++ [{ d with flags := { d.flags with truncated := true } }],
              flush := some { f with truncated := f.truncated + 1, discarded := f.discarded + q.intake.buffer.length } }).mapIntake
    fun i => { i with buffer := [] }

section
variable {before : List Clip} {d : Clip} {e : Nat} {x : Owned} {f : Flush} {q : State} (h : Spent before d e x f q)
include h

theorem Spent.solo_cut : Solo before { d with flags := { d.flags with truncated := true } } (cut before d f q) :=
  ⟨h.solo.ready, rfl, h.solo.others, h.solo.live, h.solo.data, fun _ hb => absurd hb List.not_mem_nil⟩

/-- In EMERGENCY HOLD stands whatever is buffered. -/
theorem Spent.hold_stands {t : State} (hw : t.store.writer = .emergency) (ha : t.link.answers = q.link.answers)
    (hi : t.intake.bufCause = q.intake.bufCause ∧ t.intake.ansCause = q.intake.ansCause ∧ t.intake.hold = q.intake.hold) :
    judgeHold t = t := by
  refine judgeHold_of_bufCause h.hold ?_ ha hi
  rw [bufCauseNow_of_emergency hw, ← bufCauseNow_of_emergency h.emergency]
  exact ((judgeHold_eq_self_iff q).1 h.hold).1.symm

/-- The cut is the part's next work. -/
theorem Spent.step : settleStep q = some (cut before d f q) := by
  obtain ⟨b, l, hbl⟩ := List.exists_cons_of_ne_nil h.buffer
  have hclip : b.clip = d.number := h.solo.blocks b (by rw [hbl]; exact List.mem_cons_self ..)
  have hspent : flushSpent q = true := by
    have hleft : flushLeft q = 0 := by unfold flushLeft; rw [h.flush]; exact Nat.sub_eq_zero_of_le h.spent
    have hwr : q.card.writing = false := by unfold Card.writing; rw [h.op]
    unfold flushSpent
    rw [h.emergency, hwr, hleft, hbl]; rfl
  have hafter : afterClose (cut before d f q) = cut before d f q :=
    afterClose_of_nothing h.solo_cut.emptyClosing_nil h.solo_cut.unsettled
      (h.hold_stands h.emergency rfl ⟨rfl, rfl, rfl⟩)
      (h.judged.of_newest (t := cut before d f q) h.solo.index rfl h.solo.live h.solo.live rfl rfl ⟨rfl, rfl, rfl, rfl, rfl, rfl⟩)
  rw [settleStep_of_waiting h.waiting]
  unfold pumpStep
  rw [if_neg (by rw [h.solo.closeWork_none]; nofun), if_pos hspent]
  have hcut : cutFlush q = dropOrphan (afterClose (cut before d f q)) := by
    have hset : ((cancelBurst b.clip (countFlush (fun f =>
        { f with truncated := f.truncated + 1, discarded := f.discarded + q.intake.buffer.length })
        (updateClip b.clip (fun c => { c with flags := { c.flags with truncated := true } }) q))).mapIntake fun i =>
          { i with buffer := [] }) = cut before d f q := by
      rw [hclip, updateClip_newest h.solo.index h.solo.others]
      refine congrArg (fun st => { q with store := st, intake := { q.intake with buffer := [] } })
        (show { q.store with
          index := before ++ [{ d with flags := { d.flags with truncated := true } }]
          flush := q.store.flush.map fun f => { f with truncated := f.truncated + 1, discarded := f.discarded + q.intake.buffer.length }
          retry := if q.store.retry.any (fun w => w.isBurst && w.clip = d.number) then none else q.store.retry } =
          (cut before d f q).store from ?_)
      rw [h.flush, h.retry]
      exact congrArg (fun r => { (cut before d f q).store with retry := r })
        (show none = (cut before d f q).store.retry from h.retry.symm)
    rw [← hset]
    unfold cutFlush
    rw [hbl]; rfl
  rw [hcut, hafter]
  exact congrArg some (dropOrphan_none h.retry)

/-- The clip that is cut and ended. -/
def Clip.ended (d : Clip) : Clip := { d with flags := { d.flags with truncated := true }, finalBegun := true }

/-- The part with the cut made and the final trailer begun. -/
def cutEnded (before : List Clip) (d : Clip) (f : Flush) (q : State) : State :=
  (cut before d f q).mapStore fun st => { st with index := before ++ [d.ended] }

theorem Spent.solo_ended : Solo before d.ended (cutEnded before d f q) :=
  ⟨h.solo.ready, rfl, h.solo.others, h.solo.live, h.solo.data, fun _ hb => absurd hb List.not_mem_nil⟩

/-- The final trailer starts behind the cut, in class 1. -/
theorem Spent.ends : settleStep (cut before d f q) =
    some (trailerStarted (.finalTrailer d.number e) 1 d.ended e x.data true (cutEnded before d f q)) := by
  have hs := h.solo_cut
  have hwr : (cut before d f q).store.writer = .emergency := h.emergency
  obtain ⟨l, hl⟩ := h.chain
  have hdata : (cut before d f q).store.dataOf e = x.data :=
    congrArg (fun y : Option Owned => (y.map Owned.data).getD 0) h.owned
  have hchain : (cut before d f q).store.chainOf { d with flags := { d.flags with truncated := true } } = l ++ [e] := by
    rw [← hl]; exact chain_congr fun _ _ => rfl
  have hdue : dueWrite (cut before d f q) = some (.finalTrailer d.number e) := by
    rw [hs.dueWrite_ending (hs.writerFree_true (by rw [hwr]; nofun) h.op) h.retry h.closing rfl]
    unfold endingWrite
    rw [if_neg (show d.phase ≠ .weakDue by rw [h.phase]; nofun), lastWritten_last hchain (by rw [hdata]; exact h.data)]
    rfl
  have hclass : writerClass (cut before d f q) = some 1 := by
    unfold writerClass
    rw [hdue]
    exact if_pos hwr
  have hstep := pumpStep_writes hs.closeWork_none (by
      unfold flushSpent
      rw [show (cut before d f q).intake.buffer.isEmpty = true from rfl]; simp)
    (hs.allocationDue_none (show d.phase ≠ _ ∧ d.phase ≠ _ ∧ d.phase ≠ _ by rw [h.phase]; exact ⟨nofun, nofun, nofun⟩))
    h.idle hdue hclass (.inl rfl) h.updates h.scan h.slot
  have hupd : updateClip d.number (fun c => { c with finalBegun := true }) (cut before d f q) = cutEnded before d f q :=
    updateClip_newest (c := { d with flags := { d.flags with truncated := true } }) hs.index hs.others _
  rw [startWriter_finalTrailer hupd h.solo_ended.find h.retry, hdata] at hstep
  exact (settleStep_of_waiting (s := cut before d f q) h.waiting).trans hstep

theorem Spent.rest : AtRest (trailerStarted (.finalTrailer d.number e) 1 d.ended e x.data true (cutEnded before d f q)) :=
  h.solo_ended.rest_started h.waiting (h.hold_stands h.emergency rfl ⟨rfl, rfl, rfl⟩) h.departed
end

section
variable {before : List Clip} {c : Clip} {e : Nat} {f : Flush} {o : CardOp} {s : State} (hr : AtRest s)
  (hst : s.store.state = .ready) (hw : s.store.writer = .emergency) (hfl : s.store.flush = some f)
  (hx : s.store.index = before ++ [c]) (hb : ∀ d ∈ before, d.state = .closed ∧ d.number ≠ c.number) (hc : c.state = .closing)
  (hret : s.store.retry = none) (hscan : s.store.scan = none) (hj : StoreJudged s) (hu : s.card.updates = [])
  (hslot : s.card.slot = none)

/-- The part after a burst that counted against the flush limit. -/
def flushedTo (before : List Clip) (c : Clip) (e : Nat) (x : Owned) (n : Nat) (header : Bool) (left : List Block) (f : Flush)
    (s : State) : State :=
  (landed before c e x n header left s).mapStore fun st => { st with flush := some { f with written := f.written + n } }

include hr hst hw hx hb hc hret hscan hj hu hslot in
/-- The burst that reaches the limit with blocks left leaves the flush to be cut. -/
theorem spent_flushedTo {x : Owned} {taken left : List Block} {header : Bool} {l : List Nat} (htaken : taken ≠ [])
    (hleft : left ≠ []) (hbuf : s.intake.buffer = taken ++ left) (hclip : ∀ b ∈ s.intake.buffer, b.clip = c.number)
    (hlimit : f.written + taken.length = f.limit) (hown : s.store.owned e = some x)
    (hchain : s.store.chain c.extentCount c.firstExtent = l ++ [e]) (hphase : c.phase = .writing) :
    Spent before { c with dataBlocks := c.dataBlocks + taken.length } e
      { x with data := x.data + (taken.length + if header then 1 else 0) } { f with written := f.written + taken.length }
      (flushedTo before c e x taken.length header left f (s.mapCard Card.rested)) where
  solo := ⟨hst, rfl, hb, by show c.state ≠ _; rw [hc]; nofun, Nat.add_pos_right _ (List.length_pos_of_ne_nil htaken),
    fun b hm => hclip b (by rw [hbuf]; exact List.mem_append_right _ hm)⟩
  closing := hc
  phase := hphase
  emergency := hw
  flush := rfl
  spent := hlimit.ge
  retry := hret
  scan := hscan
  updates := hu
  slot := hslot
  idle := rfl
  op := rfl
  buffer := hleft
  chain := ⟨l, by
    rw [← hchain]
    refine chain_congr fun i _ => ?_
    have h1 : (flushedTo before c e x taken.length header left f (s.mapCard Card.rested)).store.owned i =
        if i = e then some { x with data := x.data + (taken.length + if header then 1 else 0) } else s.store.owned i :=
      owned_set (x := .owned { x with data := x.data + (taken.length + if header then 1 else 0) }) (owned_lt hown)
    rw [h1]
    split
    · next hi => rw [hi, hown]; rfl
    · rfl⟩
  owned := landed_owned (before := before) (c := c) (left := left) (s := s) hown
  data := Nat.add_pos_right _ (Nat.add_pos_left (List.length_pos_of_ne_nil htaken) _)
  waiting := hr.waiting
  hold := by
    refine judgeHold_of_bufCause hr.2.1 ?_ rfl ⟨rfl, rfl, rfl⟩
    exact (bufCauseNow_of_emergency (s := flushedTo before c e x taken.length header left f (s.mapCard Card.rested)) hw).trans
      ((bufCauseNow_of_emergency hw).symm.trans ((judgeHold_eq_self_iff s).1 hr.2.1).1.symm)
  judged := hj.of_newest hx rfl (by rw [hc]; nofun) (by show c.state ≠ _; rw [hc]; nofun) rfl rfl ⟨rfl, rfl, rfl, rfl, rfl, rfl⟩
  departed := hr.2.2

include hr hst hw hfl hx hb hc hret hscan hj hu hslot in
/-- The burst that reaches the flush limit with blocks left: the flush is cut, and the final trailer starts. -/
theorem flush_cut {dt pos : Nat} {header : Bool} {bytes : Bytes} {x : Owned} {taken left : List Block} {l : List Nat}
    (hp : s.powered = true) (hl : NotLate dt s) (ho : s.card.op = some o)
    (hsrc : o.source = .writer (.burst c.number e pos taken.length header true bytes)) (htaken : taken ≠ [])
    (hleft : left ≠ []) (hbuf : s.intake.buffer = taken ++ left) (hclip : ∀ b ∈ s.intake.buffer, b.clip = c.number)
    (hlimit : f.written + taken.length = f.limit) (hown : s.store.owned e = some x)
    (hchain : s.store.chain c.extentCount c.firstExtent = l ++ [e])
    (hroom : x.data + (taken.length + if header then 1 else 0) < 16383) (hphase : c.phase = .writing) :
    exec (.cardOpCompletion dt true []) s = .next
      (trailerStarted (.finalTrailer c.number e) 1 ({ c with dataBlocks := c.dataBlocks + taken.length } : Clip).ended e
        (x.data + (taken.length + if header then 1 else 0)) true
        (cutEnded before { c with dataBlocks := c.dataBlocks + taken.length } { f with written := f.written + taken.length }
          (flushedTo before c e x taken.length header left f ((s.tick dt).mapCard Card.rested)))) := by
  have hspent := spent_flushedTo (hr.tick dt) hst hw hx hb hc hret hscan hj hu hslot htaken hleft hbuf hclip hlimit hown
    hchain hphase (header := header)
  refine AtRest.act_leads hspent.rest hp (k := 2) ?_ ((Leads.step hspent.step).trans (Leads.step hspent.ends)) (by omega)
  rw [takeCompletion_writer (s := s.tick dt) hl ho hsrc]
  unfold writerOk
  rw [clearRetry_none (s := (s.tick dt).mapCard Card.rested) hret]
  refine (burstDone_eq (s := (s.tick dt).mapCard Card.rested) hx hb hown hbuf).trans ?_
  dsimp only
  rw [if_neg (Nat.not_le.2 hroom), if_pos rfl]
  have hcount : countFlush (fun f => { f with written := f.written + taken.length })
      (landed before c e x taken.length header left ((s.tick dt).mapCard Card.rested)) =
      flushedTo before c e x taken.length header left f ((s.tick dt).mapCard Card.rested) := by
    refine mapStore_congr ?_
    rw [show (landed before c e x taken.length header left ((s.tick dt).mapCard Card.rested)).store.flush = some f from hfl]
    rfl
  rw [hcount]
  exact hspent.hold
end
end Sys2Proof.Machine

/-! PROOF. The end of an emergency close: the last record closed, EMERGENCY_CLOSE and HOLD cleared (R73, R99, R109). -/

namespace Sys2Proof.Machine

theorem reported_mapTrig (p : Payload) (f : Trig → Trig) (s : State) :
    reported p (s.mapTrig f) = (reported p s).mapTrig f := by
  unfold reported; rw [show atOnce (s.mapTrig f) = atOnce s from rfl]; split <;> rfl

/-- With every record CLOSED an EMERGENCY writer rests, with its report. -/
theorem restWriter_emergency {s : State} {f : Flush} (hc : ∀ d ∈ s.store.index, d.state = .closed)
    (hw : s.store.writer = .emergency) (hf : s.store.flush = some f) : restWriter s = judgeHold
      (report (.emergencyClose f.reason f.written f.discarded f.closed f.truncated f.removed)
        (s.mapStore fun st => { st with writer := .idle, flush := none })) := by
  have hs : s.store.settled = true := List.all_eq_true.2 fun d hd => by rw [not_live_of_closed (hc d hd)]; rfl
  unfold restWriter
  rw [hs, if_neg (by nofun), hw, hf]

/-- The part behind the end of an emergency close but for HOLD_ACTIVE. -/
def flushEnded (before : List Clip) (c : Clip) (s : State) : State :=
  ((s.mapStore fun st =>
    { st with writer := .idle, flush := none, index := before ++ [{ c with state := .closed }] }).mapCard Card.rested).mapIntake
      fun i => { i with bufCause := false, hold := false }

/-- The conditions without HOLD_ACTIVE. -/
def holdCleared (s : State) : State := s.mapTrig fun u => { u with conds := u.conds &&& ~~~condHoldActive }

theorem withCond_false (s : State) : withCond condHoldActive false s = holdCleared s := by
  show { s with trig := { s.trig with conds := (setCond condHoldActive false).apply s.trig.conds } } = _
  rw [apply_setCond]
  rfl

section
variable {before : List Clip} {c : Clip} {s : State} (hr : AtRest s) (hw : s.store.writer = .emergency)
  (hx : s.store.index = before ++ [c]) (hb : ∀ d ∈ before, d.state = .closed ∧ d.number ≠ c.number)
  (hbuf : s.intake.buffer = []) (hpack : s.intake.packing = []) (hans : s.link.answers.length < 16)
  (hmark : s.store.tab.holdMark ≤ 8192) (hrel : s.store.tab.releaseMark ≤ 8192)

include hb in
theorem flushEnded_closed : ∀ d ∈ (flushEnded before c s).store.index, d.state = .closed := fun d hd => by
  obtain hd | hd := List.mem_append.1 hd
  · exact (hb d hd).1
  · rw [List.mem_singleton.1 hd]

include hbuf hpack hmark hrel in
/-- With the Segment Buffer empty no cause of HOLD is left in it. -/
theorem bufCauseNow_empty {t : State} (hw : t.store.writer = .idle) (hi : t.intake.buffer = s.intake.buffer)
    (hp : t.intake.packing = s.intake.packing) (hm : t.store.tab = s.store.tab) : bufCauseNow t = false := by
  have hfree : t.intake.freeBlocks = 8192 := by
    unfold Intake.freeBlocks Intake.occupancy
    rw [hi, hp, hbuf, hpack]; rfl
  unfold bufCauseNow
  rw [hw, if_neg (by nofun), hfree, hm, if_neg (by omega), if_pos hrel]

include hr hbuf hpack hans hmark hrel hb in
theorem rest_flushEnded (hu : s.card.updates = []) (hslot : s.card.slot = none) (hscan : s.store.scan = none) :
    AtRest (holdCleared (flushEnded before c s)) := by
  refine ⟨(settleStep_eq_none_iff _).2 ⟨hr.waiting, (pumpStep_of_idle rfl).2 ⟨?_, fun _ => ⟨?_, ?_, ?_⟩⟩⟩, ?_, hr.2.2⟩
  · exact emptyClosing_of_closed (s := holdCleared (flushEnded before c s)) (flushEnded_closed (s := s) hb)
  · unfold updateClaim
    rw [show (holdCleared (flushEnded before c s)).card.updates = [] from hu]
    exact decide_eq_false (Nat.not_lt_zero _)
  · unfold scanClaim
    rw [show (holdCleared (flushEnded before c s)).store.scan = none from hscan]; rfl
  · unfold passClaim
    rw [show (holdCleared (flushEnded before c s)).card.slot = none from hslot]; rfl
  · have hb := bufCauseNow_empty (t := holdCleared (flushEnded before c s)) hbuf hpack hmark hrel rfl rfl rfl rfl
    have ha : ansCauseNow s = false := decide_eq_false (by simp only [Config.answerLimit]; omega)
    obtain ⟨-, h2, -⟩ := (judgeHold_eq_self_iff s).1 hr.2.1
    rw [judgeHold_eq_self_iff, hb, show ansCauseNow (holdCleared (flushEnded before c s)) = ansCauseNow s from rfl, ha]
    exact ⟨rfl, h2.trans ha, rfl⟩

include hr hbuf hpack hans hmark hrel hw in
/-- The judgement of HOLD behind the report clears it, which HOLD_ACTIVE follows. -/
theorem judgeHold_flushEnded {u : State} (hu : u.store.writer = .idle) (hm : u.store.tab = s.store.tab) (hi : u.intake = s.intake)
    (ha : u.link.answers = s.link.answers) : judgeHold u =
      notify (setCond condHoldActive false) (u.mapIntake fun i => { i with bufCause := false, hold := false }) := by
  have hb := bufCauseNow_empty (t := u) hbuf hpack hmark hrel hu (by rw [hi]) (by rw [hi]) hm
  have hn : ansCauseNow s = false := decide_eq_false (by simp only [Config.answerLimit]; omega)
  have hn' : ansCauseNow u = false := by unfold ansCauseNow at hn ⊢; rw [ha]; exact hn
  obtain ⟨-, h2, h3⟩ := (judgeHold_eq_self_iff s).1 hr.2.1
  rw [bufCauseNow_of_emergency hw, Bool.true_or] at h3
  unfold judgeHold
  dsimp only
  rw [hb, hn', if_neg (by rw [hi, h3]; nofun)]
  refine congrArg (notify (setCond condHoldActive false)) ?_
  exact congrArg (fun x => { u with intake := { u.intake with bufCause := false, ansCause := x, hold := false } })
    (show false = u.intake.ansCause by rw [hi, h2, hn])
end

/-- A change of HOLD_ACTIVE to false that no entry watches is taken in one step. -/
theorem settleStep_holdCleared {w : State} (hw : w.trig.waiting = []) (he : ∀ n ∈ w.trig.entries, n.mask &&& condHoldActive = 0#16) :
    settleStep (notify (setCond condHoldActive false) w) = some (holdCleared w) := by
  have hwait : (notify (setCond condHoldActive false) w).trig.waiting = [setCond condHoldActive false] := by
    show w.trig.waiting ++ _ = _
    rw [hw]; rfl
  have hback : (notify (setCond condHoldActive false) w).mapTrig (fun t => { t with waiting := [] }) = w := by
    show w.mapTrig (fun t => { t with waiting := [] }) = w
    exact mapTrig_self (by rw [← hw])
  unfold settleStep
  rw [hwait]
  dsimp only
  rw [hback, takeChange_unwatched he, withCond_false]

section
variable {before : List Clip} {c : Clip} {e : Nat} {f : Flush} {r : CloseReason} {o : CardOp} {s : State}

theorem reported_length (p : Payload) (s : State) :
    (reported p s).link.reports.length ≤ s.link.reports.length + 1 := by
  unfold reported
  split
  · exact Nat.le_succ _
  · rw [State.mapLink_link, List.length_append]; rfl

theorem reported_departed {p : Payload} {s : State} (hd : departed s = true) (hr : s.link.reports.length < 32) :
    departed (reported p s) = true := by
  rw [← issued_eq_reported p s hr]; exact issued_departed p s hd

@[simp] theorem reported_trig (p : Payload) (s : State) : (reported p s).trig = s.trig := by unfold reported; split <;> rfl
theorem reported_answers (p : Payload) (s : State) : (reported p s).link.answers = s.link.answers := by
  unfold reported; split <;> rfl

/-- The record closed and counted in the flush, with its report. -/
theorem closeClip_flush {s : State} (hx : s.store.index = before ++ [c])
    (hb : ∀ d ∈ before, d.state = .closed ∧ d.number ≠ c.number) (hfl : s.store.flush = some f) (hreason : c.reason = some r)
    (hd : departed s = true) (hrep : s.link.reports.length < 32) : closeClip c.number s =
      reported (.clipClosed c.number r c.flags c.extentCount c.dataBlocks c.duration false) (s.mapStore fun st =>
        { st with index := before ++ [{ c with state := .closed }], flush := some { f with closed := f.closed + 1 } }) := by
  rw [closeClip_newest hx hb hreason, report_of_departed (by exact hd) (by exact hrep)]
  unfold countFlush
  rw [← reported_mapStore]
  refine congrArg (reported _) ?_
  refine mapStore_congr (s := s) (f := fun st => { st with
    index := before ++ [{ c with state := .closed }], flush := st.flush.map fun f => { f with closed := f.closed + 1 } }) ?_
  rw [hfl]; rfl

/-- The final trailer of the last live record in EMERGENCY: CLIP_CLOSED, EMERGENCY_CLOSE, the writer IDLE and HOLD clear. -/
theorem flush_ended {dt : Nat} (hp : s.powered = true) (hr : AtRest s) (ho : s.card.op = some o) (hu : s.card.updates = [])
    (hslot : s.card.slot = none) (hw : s.store.writer = .emergency) (hfl : s.store.flush = some f)
    (hx : s.store.index = before ++ [c]) (hb : ∀ d ∈ before, d.state = .closed ∧ d.number ≠ c.number)
    (hret : s.store.retry = none) (hscan : s.store.scan = none) (hj : StoreJudged s) (hpack : s.intake.packing = [])
    (hl : NotLate dt s) (hsrc : o.source = .writer (.finalTrailer c.number e)) (hreason : c.reason = some r)
    (hbuf : s.intake.buffer = []) (hres : s.store.tab.reserve ≤ s.store.free.length) (hrep : s.link.reports.length < 31)
    (hans : s.link.answers.length < 16) (hmark : s.store.tab.holdMark ≤ 8192) (hrel : s.store.tab.releaseMark ≤ 8192)
    (he : ∀ n ∈ s.trig.entries, n.mask &&& condHoldActive = 0#16) :
    exec (.cardOpCompletion dt true []) s = .next
      (reported (.emergencyClose f.reason f.written f.discarded (f.closed + 1) f.truncated f.removed)
        (reported (.clipClosed c.number r c.flags c.extentCount c.dataBlocks c.duration false)
          (holdCleared (flushEnded before c (s.tick dt))))) := by
  have hrest := rest_flushEnded (c := c) (hr.tick dt) hb hbuf hpack hans hmark hrel hu hslot hscan
  generalize hp1 : Payload.clipClosed c.number r c.flags c.extentCount c.dataBlocks c.duration false = p1
  generalize hp2 : Payload.emergencyClose f.reason f.written f.discarded (f.closed + 1) f.truncated f.removed = p2
  have hclosed := flushEnded_closed (c := c) (s := s.tick dt) hb
  have hnotify : takeCompletion true [] (s.tick dt) = notify (setCond condHoldActive false)
      (reported p2 (reported p1 (flushEnded before c (s.tick dt)))) := by
    rw [takeCompletion_writer (s := s.tick dt) hl ho hsrc]
    unfold writerOk
    dsimp only
    rw [clearRetry_none (s := (s.tick dt).mapCard Card.rested) hret,
      closeClip_flush (s := (s.tick dt).mapCard Card.rested) hx hb hfl hreason hr.2.2 (by exact Nat.lt_succ_of_lt hrep), hp1]
    generalize hq : ((s.tick dt).mapCard Card.rested).mapStore (fun st =>
      { st with index := before ++ [{ c with state := .closed }], flush := some { f with closed := f.closed + 1 } }) = q
    have hqs : q.store = { s.store with
        index := before ++ [{ c with state := .closed }], flush := some { f with closed := f.closed + 1 } } := by rw [← hq]; rfl
    have hrest' : reapEmpty (reported p1 q) = reported p1 q := by
      unfold reapEmpty
      rw [emptyClosing_of_closed (by rw [reported_store, hqs]; exact hclosed)]; rfl
    have hwriter := restWriter_emergency (s := reported p1 q) (f := { f with closed := f.closed + 1 })
      (by rw [reported_store, hqs]; exact hclosed) (by rw [reported_store, hqs]; exact hw) (by rw [reported_store, hqs])
    dsimp only at hwriter
    rw [hp2, ← reported_mapStore, report_of_departed] at hwriter
    · have hjudge := judgeHold_flushEnded (s := s) (u := reported p2 (reported p1 (q.mapStore fun st =>
        { st with writer := .idle, flush := none }))) hr hw hbuf hpack hans hmark hrel (by rw [reported_store, reported_store]; rfl)
        (by rw [reported_store, reported_store, State.mapStore_store, hqs])
        (by rw [reported_intake, reported_intake, ← hq]; rfl) (by rw [reported_answers, reported_answers, ← hq]; rfl)
      rw [← reported_mapIntake, ← reported_mapIntake] at hjudge
      have hend : (q.mapStore fun st => { st with writer := .idle, flush := none }).mapIntake
          (fun i => { i with bufCause := false, hold := false }) = flushEnded before c (s.tick dt) := by rw [← hq]; rfl
      rw [hend] at hjudge
      unfold afterClose
      rw [hrest', hwriter, hjudge]
      have hstands : StoreJudged (reported p2 (reported p1 (flushEnded before c (s.tick dt)))) :=
        StoreJudged.congr (s := flushEnded before c (s.tick dt))
          ((StoreJudged.closedLast (before := before) (c := c) (s := s.tick dt) hx hj hres).mapFlush fun _ => none)
          ((reported_store ..).trans (reported_store ..))
      have hhold : judgeHold (notify (setCond condHoldActive false) (reported p2 (reported p1 (flushEnded before c (s.tick dt))))) =
          notify (setCond condHoldActive false) (reported p2 (reported p1 (flushEnded before c (s.tick dt)))) := by
        have h2 := hrest.reported (p := p1) |>.reported (p := p2) |>.2.1
        unfold holdCleared at h2
        rw [reported_mapTrig, reported_mapTrig] at h2
        rw [judgeHold_eq_self_iff] at h2 ⊢
        exact h2
      rw [hhold]
      exact judgeStore_of_judged hstands
    · exact reported_departed (by rw [← hq]; exact hr.2.2) (by rw [← hq]; exact Nat.lt_succ_of_lt hrep)
    · refine Nat.lt_of_le_of_lt (reported_length p1 _) ?_
      rw [← hq]
      exact Nat.succ_lt_succ hrep
  have hstep := settleStep_holdCleared (w := reported p2 (reported p1 (flushEnded before c (s.tick dt))))
    (by rw [reported_trig, reported_trig]; exact hr.waiting) (by rw [reported_trig, reported_trig]; exact he)
  have hback : holdCleared (reported p2 (reported p1 (flushEnded before c (s.tick dt)))) =
      reported p2 (reported p1 (holdCleared (flushEnded before c (s.tick dt)))) := by
    unfold holdCleared; rw [reported_mapTrig, reported_mapTrig]
  rw [hback] at hstep
  exact AtRest.act_step hrest.reported.reported hp hnotify hstep
end
end Sys2Proof.Machine

/-! PROOF. The emergency close (R108 to R110). -/

namespace Sys2Proof.Machine

/-- Settles O45: the entry by the flush begun, the cut by its two steps, and the end by the close of the last record. -/
theorem emergencyClosesTheRecording : Obligations.EmergencyClosesTheRecording := by
  refine ⟨fun dt m supplyFirst before c r s hp hd hlw hrec hw hempty hq hlo hhi hsup hcause => ?_, ?_⟩
  · obtain ⟨t, b, hex, ht, hs, hi, hc, hn⟩ := emergencyEntered (dt := dt) (supplyFirst := supplyFirst) hp hd hlw hrec hw hempty hq
      hlo hhi hsup hcause
    have hstore := ht.store
    have hintake := ht.intake
    have hcard := ht.card
    have hcounters := ht.counters
    rw [flushing_store, hs] at hstore
    rw [flushing_intake, hi] at hintake
    rw [flushing_card, hc] at hcard
    rw [flushing_counters, hn] at hcounters
    obtain ⟨hbuf, hhold⟩ := ht.held (by rw [flushing_store])
    exact ⟨t, hex, by rw [hstore], by rw [hstore], by rw [hstore], by rw [hcounters], hhold, hbuf, by rw [hintake],
      by rw [hintake], by rw [hintake], by rw [hintake], by rw [hcard]⟩
  · intro dt before c e f o s hp hr hbusy ho hu hslot hst hw hfl hx hb hc hret hscan hj hpack hl
    refine ⟨?_, ?_⟩
    · intro pos header bytes x taken left l hsrc htaken hleft hbuf hclip hlimit hown hchain hel size hroom hphase
      exact ⟨_, _, flush_cut hr hst hw hfl hx hb hc hret hscan hj hu hslot hp hl ho hsrc htaken hleft hbuf hclip hlimit hown
        hchain hroom hphase, rfl, hw, rfl, by
          rw [← hlimit]; rfl, rfl, rfl, rfl, rfl, rfl, rfl, rfl, rfl, rfl⟩
    · intro r hsrc hreason hdata hbuf hres hrep hans hmark hrel he
      exact flush_ended hp hr ho hu hslot hw hfl hx hb hret hscan hj hpack hl hsrc hreason hbuf hres hrep hans hmark hrel he
end Sys2Proof.Machine

/-! PROOF. What the rebuild of a scan gives: the chains kept are those of R87, and the store is the one of R88. -/

namespace Sys2Proof.Machine

/-! ### The kept chain of a clip -/

section
variable {found : List Finding} {n : Nat}

theorem keptExtents_length : (keptExtents found n).length = (keptOf found n).length := List.length_map ..

/-- Every place of a kept chain holds the sole candidate of its sequence, which may follow those before it. -/
theorem keptExtents_follows {q e : Nat} (h : (keptExtents found n)[q]? = some e) :
    ∃ v, (keptOf found n)[q]? = some (e, v) ∧ SoleCandidate found n q e v ∧ MayFollow found ((keptExtents found n).take q) v := by
  obtain ⟨v, hv⟩ := keptExtents_get h
  obtain ⟨hs, -, hp⟩ := keptChain_get hv
  rw [Nat.zero_add] at hs
  refine ⟨v, hv, soleCandidate_iff.1 hs, fun p hpl => ?_⟩
  cases q with
  | zero => simp at hpl
  | succ i =>
    have hlt := (List.getElem?_eq_some_iff.1 h).1
    rw [List.getLast?_eq_getElem?, List.length_take, Nat.min_eq_left (by omega), Nat.add_sub_cancel,
      List.getElem?_take_of_lt (by omega)] at hpl
    obtain ⟨u, hu⟩ := keptExtents_get hpl
    obtain ⟨h1, h2⟩ := hp i (p, u) rfl hu
    refine ⟨h1, fun w hw => ?_⟩
    rw [(keptOf_get hu).1] at hw
    exact Option.some.inj hw ▸ h2

/-- A candidate of the next sequence is none of the extents of the chain, so that the chain is shorter than the scan. -/
theorem keptExtents_lt {e : Nat} {v : TrailerInfo} (h : SoleCandidate found n (keptExtents found n).length e v) :
    (keptExtents found n).length < found.length := by
  obtain ⟨ht, -, hq, -, -⟩ := h
  have hin : ∀ i u, trailerIn found i = some u → i < found.length := fun i u hu =>
    (List.getElem?_eq_some_iff.1 (trailerIn_iff.1 hu)).1
  have hmem : ∀ i ∈ keptExtents found n, i ≠ e ∧ i < found.length := fun i hi => by
    obtain ⟨j, hj⟩ := List.mem_iff_getElem?.1 hi
    obtain ⟨u, hu⟩ := keptExtents_get hj
    obtain ⟨hu1, -, hu3, -⟩ := keptOf_get hu
    refine ⟨fun hie => ?_, hin i u hu1⟩
    simp only at hu1 hu3
    rw [hie, ht] at hu1
    have hlt := (List.getElem?_eq_some_iff.1 hj).1
    rw [← Option.some.inj hu1, hq] at hu3
    omega
  have hsub : (e :: keptExtents found n) ⊆ List.range found.length := fun i hi => List.mem_range.2 (by
    obtain rfl | hi := List.mem_cons.1 hi
    · exact hin i v ht
    · exact (hmem i hi).2)
  have hnd : (e :: keptExtents found n).Nodup := List.nodup_cons.2 ⟨fun hm => (hmem e hm).1 rfl, keptExtents_nodup⟩
  have hlen := (List.subperm_of_subset hnd hsub).length_le
  rw [List.length_cons, List.length_range] at hlen
  exact hlen

/-- The extents kept of a clip are its kept chain. -/
theorem keptChain_keptExtents (found : List Finding) (n : Nat) : KeptChain found n (keptExtents found n) := by
  refine ⟨fun q e h => ?_, fun e v hs hf => ?_⟩
  · obtain ⟨v, -, h1, h2⟩ := keptExtents_follows h
    exact ⟨v, h1, h2⟩
  · have hsole := soleCandidate_iff.2 hs
    rw [keptExtents_length] at hsole
    have hlt := keptExtents_lt hs
    rw [keptExtents_length] at hlt
    obtain he | ⟨p, hp, hpp⟩ | ⟨-, h0, -⟩ := keptChain_end (cs := candidatesOf found) (n := n) (f := found.length) (q := 0)
      (prev := none) (k := (e, v)) (by rw [Nat.zero_add]; exact hsole)
    · exact absurd he (Nat.ne_of_lt hlt)
    · have hlast : (keptExtents found n).getLast? = some p.1 := by
        unfold keptExtents
        rw [List.getLast?_map]
        exact congrArg (Option.map Prod.fst) hp
      obtain ⟨h1, h2⟩ := hf p.1 hlast
      obtain ⟨j, hj⟩ := List.mem_iff_getElem?.1 (List.mem_of_getLast? (show (keptOf found n).getLast? = some p from hp))
      obtain hpf | hpv := hpp
      · rw [h2 p.2 (keptOf_get hj).1] at hpf; cases hpf
      · exact hpv h1
    · exact absurd rfl h0
end

/-- Two kept chains of a clip agree at a place behind equal ones. -/
theorem KeptChain.agree {found : List Finding} {n q : Nat} {l l' : List Nat} (h : KeptChain found n l) (h' : KeptChain found n l')
    (ht : l.take q = l'.take q) {e : Nat} (he : l[q]? = some e) : l'[q]? = some e := by
  obtain ⟨v, hs, hf⟩ := h.1 q e he
  cases he' : l'[q]? with
  | some e' =>
    obtain ⟨v', ⟨ht', hc', hq', hd', -⟩, -⟩ := h'.1 q e' he'
    obtain ⟨-, -, -, -, hu⟩ := hs
    rw [hu e' v' ht' hc' hq' hd']
  | none =>
    have hlt := (List.getElem?_eq_some_iff.1 he).1
    have hle := List.getElem?_eq_none_iff.1 he'
    have hl : l.take q = l' := by rw [ht, List.take_of_length_le hle]
    have hlen : l'.length = q := by rw [← hl, List.length_take]; omega
    refine absurd ?_ (h'.2 e v (by rw [hlen]; exact hs))
    rw [← hl]; exact hf

/-- The kept chain of a clip is one. -/
theorem KeptChain.unique {found : List Finding} {n : Nat} {l l' : List Nat} (h : KeptChain found n l) (h' : KeptChain found n l') :
    l = l' := by
  have htake : ∀ q, l.take q = l'.take q := fun q => by
    induction q with
    | zero => rw [List.take_zero, List.take_zero]
    | succ q ih =>
      rw [List.take_add_one, List.take_add_one, ih]
      refine congrArg (fun x : Option Nat => l'.take q ++ x.toList) ?_
      cases he : l[q]? with
      | some e => exact (h.agree h' ih he).symm
      | none =>
        cases he' : l'[q]? with
        | none => rfl
        | some e' => rw [h'.agree h ih.symm he'] at he; cases he
  have hl := htake (max l.length l'.length)
  rw [List.take_of_length_le (Nat.le_max_left ..), List.take_of_length_le (Nat.le_max_right ..)] at hl
  exact hl

/-! ### The records -/

/-- The numbers of the clips that keep a chain. -/
def keptNumbers (found : List Finding) : List Nat :=
  (clipNumbers (candidatesOf found)).filter fun n => !(keptOf found n).isEmpty

theorem keptChains_eq (found : List Finding) : keptChains found =
    ((keptNumbers found).drop ((keptNumbers found).length - 512)).map (keptOf found) := by
  unfold keptChains keptNumbers
  dsimp only
  rw [List.filter_map, List.length_map, List.map_drop]
  rfl

theorem keptNumbers_pairwise (found : List Finding) : (keptNumbers found).Pairwise (· < ·) :=
  (pairwise_clipNumbers _).filter _

theorem mem_keptNumbers {found : List Finding} {n : Nat} : n ∈ keptNumbers found ↔ keptOf found n ≠ [] := by
  unfold keptNumbers
  rw [List.mem_filter, mem_clipNumbers]
  refine ⟨fun h => by simpa using h.2, fun h => ⟨?_, by simpa using h⟩⟩
  obtain ⟨k, ks, hk⟩ := List.exists_cons_of_ne_nil h
  obtain ⟨hm, hn⟩ := keptChain_mem (show k ∈ keptOf found n by rw [hk]; exact List.mem_cons_self ..)
  exact ⟨k, hm, hn⟩

/-- The numbers of the rebuilt index are the 512 highest of those that keep a chain. -/
theorem rebuiltIndex_numbers (found : List Finding) :
    (rebuiltIndex found).map Clip.number = (keptNumbers found).drop ((keptNumbers found).length - 512) := by
  have hgen : ∀ N : List Nat, (∀ n ∈ N, keptOf found n ≠ []) →
      ((N.map (keptOf found)).filterMap rebuiltClip).map Clip.number = N := fun N hN => by
    induction N with
    | nil => rfl
    | cons n N ih =>
      obtain ⟨c, hc⟩ := rebuiltClip_isSome (hN n (List.mem_cons_self ..))
      rw [List.map_cons, List.filterMap_cons_some hc, List.map_cons, rebuiltClip_number hc,
        ih fun m hm => hN m (List.mem_cons_of_mem _ hm)]
  unfold rebuiltIndex
  rw [keptChains_eq]
  exact hgen _ fun n hn => mem_keptNumbers.1 (List.mem_of_mem_drop hn)

/-- A clip that keeps a chain has its record, unless 512 of higher numbers have. -/
theorem rebuiltIndex_has {found : List Finding} {n : Nat} (h : keptOf found n ≠ []) :
    (∃ d ∈ rebuiltIndex found, d.number = n) ∨
      ((rebuiltIndex found).length = 512 ∧ ∀ d ∈ rebuiltIndex found, n < d.number) := by
  have hnum := rebuiltIndex_numbers found
  have hn := mem_keptNumbers.2 h
  rw [← List.take_append_drop ((keptNumbers found).length - 512) (keptNumbers found)] at hn
  obtain hn | hn := List.mem_append.1 hn
  · refine .inr ⟨?_, fun d hd => ?_⟩
    · have hlen := congrArg List.length hnum
      rw [List.length_map, List.length_drop] at hlen
      have hpos := List.length_pos_of_mem hn
      rw [List.length_take] at hpos
      omega
    · have hp := keptNumbers_pairwise found
      rw [← List.take_append_drop ((keptNumbers found).length - 512) (keptNumbers found), List.pairwise_append] at hp
      exact hp.2.2 n hn d.number (hnum ▸ List.mem_map_of_mem hd)
  · rw [← hnum] at hn
    obtain ⟨d, hd, hdn⟩ := List.mem_map.1 hn
    exact .inl ⟨d, hd, hdn⟩

/-! ### The next clip number -/

theorem topNumber_lt {found : List Finding} {i : Nat} {v : TrailerInfo} (h : trailerIn found i = some v) :
    v.clip < topNumber found + 1 :=
  Nat.lt_succ_of_le (le_foldl_max (.inr (List.mem_map_of_mem (f := fun k : Candidate => k.2.clip) (a := (i, v)) (mem_valid.2 h))))

theorem foldl_max_mem (l : List Nat) (a : Nat) : l.foldl max a = a ∨ l.foldl max a ∈ l := by
  induction l generalizing a with
  | nil => exact .inl rfl
  | cons b l ih =>
    obtain h | h := ih (max a b)
    · rw [List.foldl_cons, h]
      obtain hm | hm := max_choice a b
      · exact .inl hm
      · exact .inr (by rw [hm]; exact List.mem_cons_self ..)
    · exact .inr (List.mem_cons_of_mem _ h)

theorem topNumber_attained (found : List Finding) :
    topNumber found + 1 = 1 ∨ ∃ i v, trailerIn found i = some v ∧ topNumber found + 1 = v.clip + 1 := by
  obtain h | h := foldl_max_mem ((validFrom 0 found).map fun k => k.2.clip) 0
  · exact .inl (congrArg (· + 1) h)
  · obtain ⟨k, hk, hkn⟩ := List.mem_map.1 h
    exact .inr ⟨k.1, k.2, mem_valid.1 hk, congrArg (· + 1) hkn.symm⟩
end Sys2Proof.Machine

/-! PROOF. The store that a scan leaves READY is the rebuilt one of R86 to R88. -/

namespace Sys2Proof.Machine

section
variable {found : List Finding}

/-- The sum of the data block counts of a kept chain. -/
theorem keptOf_data (n : Nat) : ((keptExtents found n).map fun e => ((trailerIn found e).map TrailerInfo.data).getD 0) =
    (keptOf found n).map fun k => k.2.data := by
  unfold keptExtents
  rw [List.map_map]
  refine List.map_congr_left fun k hk => ?_
  obtain ⟨j, hj⟩ := List.mem_iff_getElem?.1 hk
  simp only [Function.comp_apply]
  rw [(keptOf_get hj).1]; rfl

/-- A trailer at an extent of a kept chain is the one kept. -/
theorem mem_keptExtents {n e : Nat} {u : TrailerInfo} (he : e ∈ keptExtents found n) (hu : trailerIn found e = some u) :
    (e, u) ∈ keptOf found n := by
  obtain ⟨j, hj⟩ := List.mem_iff_getElem?.1 he
  obtain ⟨t, ht⟩ := keptExtents_get hj
  have h1 := (keptOf_get ht).1
  simp only at h1
  rw [hu] at h1
  rw [Option.some.inj h1]; exact List.mem_of_getElem? ht

/-- The record of a kept chain is that of R88. -/
theorem rebuiltRecord_of_mem {d : Clip} (h : d ∈ rebuiltIndex found) :
    ∃ v, (keptExtents found d.number).getLast?.bind (trailerIn found) = some v ∧
      RebuiltRecord found (keptExtents found d.number) v d := by
  obtain ⟨-, hr⟩ := mem_rebuiltIndex h
  obtain ⟨first, last, hf, hl, hd⟩ := rebuiltClip_some hr
  generalize hn : d.number = n at hf hl hd
  have hlast := List.mem_of_getLast? hl
  obtain ⟨j, hj⟩ := List.mem_iff_getElem?.1 hlast
  have hhead : (keptExtents found n).head? = some first.1 := by
    unfold keptExtents; rw [List.head?_map, hf]; rfl
  have hglast : (keptExtents found n).getLast? = some last.1 := by
    unfold keptExtents; rw [List.getLast?_map, hl]; rfl
  have hsum : 0 < ((keptOf found n).map fun k => k.2.data).sum := by
    have hle := List.single_le_sum (l := (keptOf found n).map fun k => k.2.data) (fun _ _ => Nat.zero_le _) last.2.data
      (List.mem_map_of_mem hlast)
    exact (keptOf_get hj).2.2.2.trans_le hle
  have hany : ∀ b, (keptOf found n).any (fun k => k.2.final) = b →
      d.flags = { last.2.flags with unfinished := last.2.flags.unfinished || !b } := fun b hb => by rw [hd, hb]
  refine ⟨last.2, by rw [hglast]; exact (keptOf_get hj).1, ?_⟩
  unfold RebuiltRecord
  rw [keptOf_data, hhead, hglast, keptExtents_length]
  refine ⟨by rw [hd], by rw [hd], by rw [hd], by rw [hd], by rw [hd], by rw [hd], by rw [hd], by rw [hd], by rw [hd],
    by rw [hd], by rw [hd], by rw [hd], ?_, ?_, ?_⟩
  · rw [hd]; exact Nat.sub_add_cancel hsum
  · rintro ⟨e, he, u, hu, hfin⟩
    rw [hany true (List.any_eq_true.2 ⟨(e, u), mem_keptExtents he hu, hfin⟩), Bool.not_true, Bool.or_false]
  · intro hno
    refine (hany false (List.any_eq_false.2 fun k hk => ?_)).trans (by rw [Bool.not_false, Bool.or_true])
    obtain ⟨i, hi⟩ := List.mem_iff_getElem?.1 hk
    rw [hno k.1 (List.mem_map_of_mem hk) k.2 (keptOf_get hi).1]; nofun

/-- The entries of the chain of a record. -/
theorem rebuilt_entries {st : Store} {n : Nat} (hn : keptOf found n ∈ keptChains found) {q e : Nat} {u : TrailerInfo}
    (he : (keptExtents found n)[q]? = some e) (hu : trailerIn found e = some u) : (st.rebuilt found).owned e =
      some ⟨decide (u.data < 16383 ∧ q + 1 < (keptExtents found n).length), n, q, (keptExtents found n)[q + 1]?, u.data⟩ := by
  obtain ⟨t, ht⟩ := keptExtents_get he
  have h1 := (keptOf_get ht).1
  simp only at h1
  rw [hu] at h1
  rw [Option.some.inj h1]
  exact rebuilt_owned_get hn ht

/-- The store of the findings is what R86 to R88 say of it. -/
theorem rebuilt_spec (found : List Finding) (st : Store) : Rebuilt found (st.rebuilt found) := by
  refine ⟨rfl, rfl, rebuiltMap_length, rebuiltMap_bad, fun i o hio => ?_, fun d hd => ?_, rebuiltIndex_ascending found,
    rebuiltIndex_length found, fun n l hl hk => ?_, rebuilt_free st, fun i v h => topNumber_lt h, topNumber_attained found, rfl⟩
  · obtain ⟨n, j, k, hch, hk, hx⟩ := mem_keptEntries.1 ((rebuilt_owned st i o).1 hio)
    obtain ⟨d, hd, rfl⟩ := keptChains_record hch
    obtain ⟨rfl, rfl⟩ := Prod.mk.inj hx
    exact ⟨d, hd, (keptOf_get hk).2.1.symm, _, keptChain_keptExtents found d.number, List.mem_map_of_mem (List.mem_of_getElem? hk)⟩
  · obtain ⟨v, hv, hr⟩ := rebuiltRecord_of_mem hd
    exact ⟨_, v, keptChain_keptExtents found d.number, hv, hr, fun q e u he hu => rebuilt_entries (mem_rebuiltIndex hd).1 he hu⟩
  · refine rebuiltIndex_has fun hnil => hl ?_
    rw [hk.unique (keptChain_keptExtents found n)]
    unfold keptExtents; rw [hnil]; rfl

/-- The BAD extents of the rebuilt map are those found BAD. -/
theorem rebuilt_badCount (st : Store) : (st.rebuilt found).badCount = (found.filter fun f => f = .bad).length := by
  have hgen : ∀ (owned : List (Nat × Owned)) (i : Nat) (fs : List Finding),
      (rebuiltExtents owned i fs).countP (fun e => e = .bad) = fs.countP fun f => f = .bad := fun owned i fs => by
    induction fs generalizing i with
    | nil => rfl
    | cons f fs ih =>
      rw [rebuiltExtents, List.countP_cons, List.countP_cons, ih]
      refine congrArg (fs.countP (fun f => decide (f = .bad)) + ·) ?_
      by_cases hf : f = .bad
      · simp [hf]
      · rw [if_neg hf]
        split <;> simp [hf]
  exact (hgen _ 0 found).trans List.countP_eq_length_filter
end

/-- The conditions of the store do not concern what a scan rebuilds. -/
theorem Rebuilt.lit {found : List Finding} {st : Store} (h : Rebuilt found st) (low near : Bool) : Rebuilt found (st.lit low near) := h
end Sys2Proof.Machine

/-! PROOF. The reads of a scan (R86, R116, R117, R125). -/

namespace Sys2Proof.Machine

/-- Behind a read of the scan: the store holds the scan `k` to be read on, and the card is IDLE with no other claim. -/
structure ReadDue (s : State) (k : Scan) (fails : Nat) (t : State) : Prop where
  store : t.store = { s.store with scan := some k }
  card : t.card = { s.card with state := .idle, op := none, fails := fails }
  intake : t.intake = s.intake
  waiting : t.trig.waiting = []
  answers : t.link.answers = s.link.answers
  departed : departed t = true

section
variable {s : State} (h : AtRest s) (hn : NoRecording s) (hu : s.card.updates = []) (hs : s.card.slot = none)
include h hn

/-- A part that has given up its operation, with the writer IDLE and no work left, rests. -/
theorem AtRest.behind_read {t : State} (hw : t.store.writer = .idle) (hm : t.store.tab = s.store.tab) (hi : t.intake = s.intake)
    (hwait : t.trig.waiting = []) (ha : t.link.answers = s.link.answers) (hd : Machine.departed t = true)
    (he : emptyClosing t = [])
    (hk : t.card.state = .idle → updateClaim t = false ∧ scanClaim t = false ∧ passClaim t = false) : AtRest t := by
  refine ⟨(settleStep_eq_none_iff t).2 ⟨hwait, (pumpStep_of_idle hw).2 ⟨he, hk⟩⟩, ?_, hd⟩
  exact judgeHold_of_bufCause h.2.1 (h.bufCause (by rw [hn.idle]; nofun) (by rw [hw]; nofun) hi hm) ha
    (by rw [hi]; exact ⟨rfl, rfl, rfl⟩)

variable {k : Scan} {fails : Nat} {t : State} (hr : ReadDue s k fails t) (hk : k.abandoned = false)
include hu hs hr hk

/-- The read of the scan starts, and the part rests. -/
theorem ReadDue.starts : settleStep t = some (startScan t) ∧ AtRest (startScan t) := by
  have hscan : t.store.scan = some k := by rw [hr.store]
  have hwr : t.store.writer = .idle := by rw [hr.store]; exact hn.idle
  have hclosed : ∀ c ∈ t.store.index, c.state = .closed := by rw [hr.store]; exact hn.settled
  refine ⟨?_, ?_⟩
  · rw [settleStep_of_waiting hr.waiting]
    exact pumpStep_scan hscan hk hwr (emptyClosing_of_closed hclosed) (by rw [hr.card]) (by rw [hr.card])
      (by rw [hr.card]; exact hu) (by rw [hr.card]; exact hs)
  · have he : startScan t = startOp .scan 4 .read (t.store.trailerAddress k.ext) 1 [] (countRetry k.again t) := by
      unfold startScan; rw [hscan]
    rw [he]
    refine h.behind_read hn (by simpa [startOp] using hwr) (by simp [startOp, hr.store]) (by simp [startOp, hr.intake])
      (by simpa [startOp] using hr.waiting) ?_ ?_ (emptyClosing_of_closed (by simpa [startOp] using hclosed)) nofun
    · unfold countRetry; split <;> exact hr.answers
    · unfold countRetry; split <;> exact hr.departed

/-- A read's end that leaves the scan to be read on starts the next one. -/
theorem ReadDue.act {u : State} {dt : Nat} {f : State → State} (hp : u.powered = true) (hf : f (u.tick dt) = t) :
    Machine.act dt f u = .next (startScan t) := by
  obtain ⟨h1, h2⟩ := hr.starts h hn hu hs hk
  exact AtRest.act_step h2 hp hf h1
end
end Sys2Proof.Machine

/-! PROOF. The scan: each read's end, and the rebuild behind the last (R86 to R88, R125). -/

namespace Sys2Proof.Machine

/-- At a BUSY card a read of the scan starts behind a failure as it does behind its report. -/
theorem failedOnce_scan {o : CardOp} {s : State} (h : s.link.reports.length < 32) (hb : s.card.state = .busy) (n : Scan)
    (op : CardOp) : ((failedOnce o false s).mapStore fun st => { st with scan := some n }).mapCard
        (fun c => { c with state := .busy, op := some op }) =
      ((reported (.cardError o.cls o.kind o.addr o.count false (s.card.fails + 1))
        (s.mapCounters fun k => { k with cardErrors := satAdd k.cardErrors 1 })).mapStore fun st =>
          { st with scan := some n }).mapCard fun c => { c with fails := s.card.fails + 1, op := some op } := by
  have hst : (reported (.cardError o.cls o.kind o.addr o.count false (s.card.fails + 1))
      (s.mapCounters fun k => { k with cardErrors := satAdd k.cardErrors 1 })).card.state = .busy := by
    rw [reported_card]; exact hb
  rw [failedOnce_reported o false s h]
  generalize reported (.cardError o.cls o.kind o.addr o.count false (s.card.fails + 1))
    (s.mapCounters fun k => { k with cardErrors := satAdd k.cardErrors 1 }) = r at hst ⊢
  exact congrArg (fun b => (r.mapStore fun st => { st with scan := some n }).mapCard fun c =>
    { c with fails := s.card.fails + 1, state := b, op := some op }) hst.symm

section
variable {s : State} {k : Scan} {data : Bytes} (hk : s.store.scan = some k) (ha : k.abandoned = false)

include hk

/-- A finding that is not the last. -/
theorem scanFound_next {f : Finding} (h : k.ext + 1 < s.store.count) : scanFound f s =
    s.mapStore fun st => { st with scan := some ⟨k.ext + 1, false, k.found ++ [f], false⟩ } := by
  unfold scanFound
  rw [hk]
  exact if_neg (by omega)

theorem scanFound_last {f : Finding} (h : s.store.count ≤ k.ext + 1) : scanFound f s = rebuild (k.found ++ [f]) s := by
  unfold scanFound
  rw [hk]
  exact if_pos h

include ha

theorem scanOk_found : scanOk data s = scanFound (match parseTrailer s.store.generation s.store.count data with
    | some i => .valid i
    | none => .invalid) s := by
  unfold scanOk
  rw [hk]
  exact if_neg (by rw [ha]; nofun)

theorem scanError_first (hg : k.again = false) : scanError s =
    s.mapStore fun st => { st with scan := some { k with again := true } } := by
  unfold scanError
  rw [hk]
  dsimp only
  rw [ha, hg]; rfl

theorem scanError_second (hg : k.again = true) : scanError s = scanFound .bad s := by
  unfold scanError
  rw [hk]
  dsimp only
  rw [ha, hg]; rfl
end

/-! ### After the last finding -/

/-- What `rebuild` makes of a part at rest behind a read, whose quiet changes are then taken. -/
theorem rebuild_settles {s t : State} (h : AtRest s) (hn : NoRecording s) (hu : s.card.updates = []) (hs : s.card.slot = none)
    (hstore : t.store = s.store) {fails : Nat} (hcard : t.card = { s.card with state := .idle, op := none, fails := fails })
    (hintake : t.intake = s.intake) (htrig : t.trig = s.trig) (hans : t.link.answers = s.link.answers)
    (hd : Machine.departed t = true) (hq : Quiet storeConds s) (found : List Finding) :
    ∃ v n, n ≤ 4096 ∧ Leads n (rebuild found t) v ∧ AtRest v ∧ Rebuilt found v.store ∧ v.store.quota = s.store.quota ∧
      v.card.state = .idle ∧ (t.link.reports.length < 32 →
        Issued (.mountDone v.store.index.length v.store.free.length (found.filter fun f => f = .bad).length
          v.store.lockedExtents (v.store.index.filter fun d => d.flags.unfinished).length) v) := by
  rw [rebuild_eq, rebuilt_badCount, List.countP_eq_length_filter]
  generalize hp : Payload.mountDone (rebuiltIndex found).length (freeFrom 0 (rebuiltMap found)).length
    (found.filter fun f => f = .bad).length (t.store.rebuilt found).lockedExtents
    ((rebuiltIndex found).filter fun d => d.flags.unfinished).length = p
  have hd' : Machine.departed (t.mapStore (Store.rebuilt found)) = true := hd
  rw [report_eq_issued p _ hd']
  have hdi := issued_departed p (t.mapStore (Store.rebuilt found)) hd'
  have hroom : t.link.reports.length < 32 → Issued p (issued p (t.mapStore (Store.rebuilt found))) := fun hl =>
    issued_of_room (s := t.mapStore (Store.rebuilt found)) hl
  have hst : (issued p (t.mapStore (Store.rebuilt found))).store = t.store.rebuilt found := issued_store ..
  have hc : (issued p (t.mapStore (Store.rebuilt found))).card = t.card := issued_card ..
  have hi : (issued p (t.mapStore (Store.rebuilt found))).intake = t.intake := issued_intake ..
  have ht : (issued p (t.mapStore (Store.rebuilt found))).trig = t.trig := issued_trig ..
  have hl : (issued p (t.mapStore (Store.rebuilt found))).link.answers = t.link.answers := issued_answers ..
  generalize issued p (t.mapStore (Store.rebuilt found)) = r at hdi hroom hst hc hi ht hl
  have hnote := (Noted.refl hdi).judgeStore
  have hjs := judgeStore_store hdi
  obtain ⟨cs, hw, hlen, hm⟩ := hnote.waits
  rw [ht, htrig, h.waiting, List.nil_append] at hw
  obtain ⟨conds, last, hlead⟩ := leads_quiet (s := judgeStore r) (m := storeConds)
    (fun y hy => hq y (by rw [← htrig, ← ht, ← hnote.entries]; exact hy)) hw hm
  have hv : (conditioned conds last (judgeStore r)).store = (t.store.rebuilt found).lit (storeLowNow r) (lockNearNow r) := by
    rw [← hst]; exact hjs
  have hvc : (conditioned conds last (judgeStore r)).card = { s.card with state := .idle, op := none, fails := fails } :=
    hnote.card.trans (hc.trans hcard)
  refine ⟨conditioned conds last (judgeStore r), cs.length, by omega, hlead, ?_, ?_, ?_, by rw [hvc], fun hlt => ?_⟩
  · refine h.behind_read hn ?_ ?_ (hnote.intake.trans (hi.trans hintake)) rfl (hnote.answers.trans (hl.trans hans)) hnote.departed
      (emptyClosing_of_closed (by rw [hv]; exact fun c hc => rebuiltIndex_closed hc)) fun _ => ⟨?_, ?_, ?_⟩
    · rw [hv]; exact (congrArg Store.writer hstore).trans hn.idle
    · rw [hv]; exact (show t.store.tab = s.store.tab from congrArg Store.tab hstore)
    · unfold updateClaim; rw [hvc]
      show decide (_ < s.card.updates.length) = false
      rw [hu]; exact decide_eq_false (Nat.not_lt_zero _)
    · unfold scanClaim; rw [hv]; rfl
    · unfold passClaim; rw [hvc]
      show s.card.slot.any _ = false
      rw [hs]; rfl
  · rw [hv]; exact (rebuilt_spec found t.store).lit _ _
  · rw [hv]; exact (show t.store.quota = s.store.quota from congrArg Store.quota hstore)
  · rw [hv]
    have hiss := hnote.issued p (hroom hlt)
    rw [← hp] at hiss
    exact hiss

/-! ### The obligation -/

/-- The read of a scan as it starts. -/
theorem startScan_eq {t : State} {n : Scan} (h : t.store.scan = some n) : startScan t =
    (countRetry n.again t).mapCard fun q => { q with
      state := .busy
      op := some ⟨.scan, 4, .read, t.store.areaStart + n.ext * 16384 + 16383, 1, t.partTime, 1000 * t.store.tab.cardTimeout, []⟩ } := by
  unfold startScan
  rw [h]
  unfold startOp
  dsimp only
  rw [countRetry_partTime, countRetry_store]
  simp only [Store.trailerAddress, Store.extentBase, ms, Config.extentBlocks, Config.dataPositions, Nat.mul_comm]

/-- Settles O44, by the read's end and by the extents left. -/
theorem scanRebuildsTheStore : Obligations.ScanRebuildsTheStore := by
  intro dt data k o s hp h hn hbusy ho hsrc hu hslot hst hk ha hl finding failed reading Opened
  have hs0 := h.tick dt
  have hok : takeCompletion true data (s.tick dt) = scanFound finding ((s.tick dt).mapCard Card.rested) := by
    rw [takeCompletion_ok (s := s.tick dt) hl ho]
    unfold opOk tellOk
    rw [hsrc]
    exact scanOk_found (s := (s.tick dt).mapCard Card.rested) hk ha
  have herr : Unwatched condCardError s → s.card.fails + 1 < 3 →
      takeCompletion false data (s.tick dt) = scanError (failedOnce o false (s.tick dt)) := fun hw hf => by
    rw [takeCompletion_error (s := s.tick dt) hl ho, opError_unwatched (s := s.tick dt) hw h.waiting hs0.2.2 hf]
    unfold tellError
    rw [hsrc]
  refine ⟨fun hnext => ?_, fun hlast hq => ?_, fun hw hrep hf => ⟨fun hg => ?_, fun hg hnext => ?_, fun hg hlast hq => ?_⟩⟩
  · rw [scanFound_next (s := (s.tick dt).mapCard Card.rested) hk hnext] at hok
    have hr : ReadDue (s.tick dt) ⟨k.ext + 1, false, k.found ++ [finding], false⟩ 0
        (((s.tick dt).mapCard Card.rested).mapStore fun st =>
          { st with scan := some ⟨k.ext + 1, false, k.found ++ [finding], false⟩ }) :=
      ⟨rfl, rfl, rfl, h.waiting, rfl, hs0.2.2⟩
    refine (hr.act hs0 hn hu hslot rfl hp hok).trans (congrArg _ ((startScan_eq rfl).trans ?_))
    exact congrArg (fun b => ((s.tick dt).mapStore fun st =>
      { st with scan := some ⟨k.ext + 1, false, k.found ++ [finding], false⟩ }).mapCard fun q => { q with
        fails := 0, state := b
        op := some ⟨.scan, 4, .read, s.store.areaStart + (k.ext + 1) * 16384 + 16383, 1, s.partTime + dt,
          1000 * s.store.tab.cardTimeout, []⟩ }) hbusy.symm
  · rw [scanFound_last (s := (s.tick dt).mapCard Card.rested) hk hlast] at hok
    obtain ⟨v, n, hle, hlead, hrest, hopen, hquota, hidle, hroom⟩ := rebuild_settles (t := (s.tick dt).mapCard Card.rested) hs0 hn
      hu hslot rfl rfl rfl rfl rfl hs0.2.2 hq (k.found ++ [finding])
    exact ⟨v, hrest.act_leads hp hok hlead hle, hopen, hquota, hidle, fun hrep => hroom (Nat.lt_succ_of_lt hrep)⟩
  · have he := herr hw hf
    rw [scanError_first (by simpa using hk) ha hg] at he
    have hr : ReadDue (s.tick dt) { k with again := true } (s.card.fails + 1)
        ((failedOnce o false (s.tick dt)).mapStore fun st => { st with scan := some { k with again := true } }) :=
      ⟨by simp, by simp, by simp, by simpa using h.waiting, by simp, failedOnce_departed o false (s.tick dt) hs0.2.2⟩
    refine (hr.act hs0 hn hu hslot ha hp he).trans (congrArg _ ((startScan_eq rfl).trans ?_))
    have hread := failedOnce_scan (o := o) (s := s.tick dt) hrep hbusy { k with again := true }
      ⟨.scan, 4, .read, s.store.areaStart + k.ext * 16384 + 16383, 1, s.partTime + dt, 1000 * s.store.tab.cardTimeout, []⟩
    refine Eq.trans ?_ (congrArg (State.mapCounters fun q => { q with cardRetries := satAdd q.cardRetries 1 }) hread)
    rw [State.mapStore_store, State.mapStore_partTime, failedOnce_store, failedOnce_partTime]
    rfl
  · have he := herr hw hf
    rw [scanError_second (by simpa using hk) ha hg, scanFound_next (by simpa using hk) (by simpa using hnext)] at he
    have hr : ReadDue (s.tick dt) ⟨k.ext + 1, false, k.found ++ [.bad], false⟩ (s.card.fails + 1)
        ((failedOnce o false (s.tick dt)).mapStore fun st =>
          { st with scan := some ⟨k.ext + 1, false, k.found ++ [.bad], false⟩ }) :=
      ⟨by simp, by simp, by simp, by simpa using h.waiting, by simp, failedOnce_departed o false (s.tick dt) hs0.2.2⟩
    refine (hr.act hs0 hn hu hslot rfl hp he).trans (congrArg _ ((startScan_eq rfl).trans ?_))
    have hread := failedOnce_scan (o := o) (s := s.tick dt) hrep hbusy ⟨k.ext + 1, false, k.found ++ [.bad], false⟩
      ⟨.scan, 4, .read, s.store.areaStart + (k.ext + 1) * 16384 + 16383, 1, s.partTime + dt, 1000 * s.store.tab.cardTimeout, []⟩
    refine Eq.trans ?_ hread
    rw [State.mapStore_store, State.mapStore_partTime, failedOnce_store, failedOnce_partTime]
    rfl
  · have he := herr hw hf
    rw [scanError_second (by simpa using hk) ha hg, scanFound_last (by simpa using hk) (by simpa using hlast)] at he
    obtain ⟨v, n, hle, hlead, hrest, hopen, hquota, hidle, hroom⟩ := rebuild_settles (t := failedOnce o false (s.tick dt)) hs0 hn
      hu hslot (by simp) (fails := s.card.fails + 1) (by simp) (by simp) (by simp) (by simp)
      (failedOnce_departed o false (s.tick dt) hs0.2.2) hq (k.found ++ [.bad])
    refine ⟨v, hrest.act_leads hp he hlead hle, hopen, hquota, hidle, fun hrep' => hroom ?_⟩
    rw [failedOnce_reported o false (s.tick dt) hrep]
    exact Nat.lt_of_le_of_lt (reported_length _ _) (Nat.succ_lt_succ hrep')
end Sys2Proof.Machine

/-! PROOF. What the parts of a READY store stand on, with what may be loose between two steps of an operation (R72, R84, R91,
R99). -/

namespace Sys2Proof.Machine

/-! ### The clauses -/

/-- A record of number `n` is OPEN or CLOSING. -/
def State.standing (s : State) (n : Nat) : Prop := ∃ c ∈ s.store.index, c.number = n ∧ c.state ≠ .closed

/-- Every block belongs to a record OPEN or CLOSING, or to a clip excused by `E`. -/
def BlocksStand (E : Nat → Prop) (s : State) : Prop := ∀ b ∈ s.intake.buffer, E b.clip ∨ s.standing b.clip

/-- The intake record belongs to an OPEN record. -/
def RecordStands (s : State) : Prop := ∀ r ∈ s.intake.record, ∃ c ∈ s.store.index, c.number = r.clip ∧ c.state = .opened

/-- A live record with an extent and no written block has blocks buffered; where `X` holds, an OPEN one. -/
def Held (X : Prop) (s : State) : Prop := ∀ c ∈ s.store.index, c.state ≠ .closed → 0 < c.extentCount → c.dataBlocks = 0 →
  (X ∧ c.state = .closing) ∨ s.intake.holds c.number = true

/-- The scan has one finding for each extent read. -/
def ScanStands (s : State) : Prop := ∀ k ∈ s.store.scan, k.found.length = k.ext ∧ k.ext < s.store.count

/-- The store with its ledger and every extent in its place, and the parts that stand on it: the blocks but for those of `E`,
the intake record unless `I`, the writes `W`, the scan, and the live records, of which where `X` holds the CLOSING ones may want
their removal. -/
structure Footing (E : Nat → Prop) (X I : Prop) (W : List WWrite) (s : State) : Prop where
  ledger : Ledger False False s
  placed : s.store.state = .ready → Parted s.store
  blocks : BlocksStand E s
  record : I ∨ RecordStands s
  held : Held X s
  writes : ∀ w ∈ W, WriteStands s w
  scan : ScanStands s

/-- No clip's blocks are excused. -/
def noClip : Nat → Prop := fun _ => False

/-- The part is sound: everything stands. -/
def Sound (s : State) : Prop := Footing noClip False False s.writes s

theorem sound_iff {s : State} : Sound s ↔ StoreBounded s ∧ ClipsOrdered s ∧ StoreSound s ∧ ExtentsPlaced s := by
  constructor
  · intro h
    refine ⟨h.ledger.bounded, h.ledger.ordered, ⟨fun b hb => (h.blocks b hb).resolve_left id, h.record.resolve_left id,
      fun c hc hl hx h0 => (h.held c hc hl hx h0).resolve_left fun hf => hf.1, h.writes, h.scan⟩, extentsPlaced_iff.2 h.placed⟩
  · rintro ⟨hb, ho, ⟨h1, h2, h3, h4, h5⟩, hp⟩
    exact ⟨⟨hb, ho, False.elim, False.elim⟩, extentsPlaced_iff.1 hp, fun b hm => .inr (h1 b hm), .inr h2,
      fun c hc hl hx h0 => .inr (h3 c hc hl hx h0), h4, h5⟩

/-! ### What the clauses look at -/

/-- `s` with everything erased that the clauses do not look at. -/
def State.frozen (s : State) : State :=
  { State.reset with
    store := { coldStore with
      state := s.store.state, count := s.store.count, extents := s.store.extents, free := s.store.free,
      index := s.store.index, scan := s.store.scan }
    intake := { coldIntake with buffer := s.intake.buffer, record := s.intake.record } }

theorem State.frozen_keeps {α : Type} (f : State → α) (hf : ∀ s : State, f s.frozen = f s) {s t : State}
    (h : t.frozen = s.frozen) : f t = f s := by rw [← hf t, h, hf]

theorem State.frozen_of_stock {s t : State} (h : t.stock = s.stock) : t.frozen = s.frozen :=
  State.stock_keeps State.frozen (fun _ => rfl) h

theorem State.frozen_prop {p : State → Prop} (hp : ∀ s : State, p s.frozen = p s) {s t : State} (h : t.frozen = s.frozen)
    (hs : p s) : p t := by rw [State.frozen_keeps p hp h]; exact hs

/-- Extents stay in their places where the map, the Free List and the records stay. -/
theorem Parted.of_eq {st st' : Store} (h : Parted st) (he : st'.extents = st.extents) (hf : st'.free = st.free)
    (hi : st'.index = st.index) (hc : st'.count = st.count) : Parted st' := by
  have ho : ∀ i, st'.owned i = st.owned i := fun i => owned_congr (by rw [he])
  refine h.relink id (by rw [hi, List.map_id]) (fun _ _ => rfl) (fun _ _ => rfl) (fun _ _ => rfl) (fun _ _ => rfl) (by rw [he]) hc hf
    (fun i => by rw [he]) (fun i o hio => ⟨o, by rw [ho, hio], rfl, rfl, rfl⟩) fun i o hio => ⟨o, by rw [← ho, hio], rfl, rfl, rfl⟩

section
variable {E : Nat → Prop} {X I : Prop} {W : List WWrite} {s t : State} (h : Footing E X I W s)
include h

/-- A state with its ledger in which the clauses look at the same keeps them. -/
theorem Footing.carry (hl : Ledger False False t) (ht : t.frozen = s.frozen) : Footing E X I W t where
  ledger := hl
  placed hr := by
    have hk := fun {α : Type} (f : State → α) hf => State.frozen_keeps (α := α) f hf ht
    exact (h.placed ((hk (fun s => s.store.state) fun _ => rfl).symm.trans hr)).of_eq (hk (fun s => s.store.extents) fun _ => rfl)
      (hk (fun s => s.store.free) fun _ => rfl) (hk (fun s => s.store.index) fun _ => rfl) (hk (fun s => s.store.count) fun _ => rfl)
  blocks := State.frozen_prop (p := BlocksStand E) (fun _ => rfl) ht h.blocks
  record := h.record.imp_right (State.frozen_prop (p := RecordStands) (fun _ => rfl) ht)
  held := State.frozen_prop (p := Held X) (fun _ => rfl) ht h.held
  writes w hw := State.frozen_prop (p := fun s => WriteStands s w) (fun _ => rfl) ht (h.writes w hw)
  scan := State.frozen_prop (p := ScanStands) (fun _ => rfl) ht h.scan

theorem Footing.congr (ht : t.stock = s.stock) : Footing E X I W t := h.carry (h.ledger.congr ht) (State.frozen_of_stock ht)

/-- More may be loose, and fewer writes stand. -/
theorem Footing.loosen {E' : Nat → Prop} {X' I' : Prop} {W' : List WWrite} (hE : ∀ n, E n → E' n) (hX : X → X') (hI : I → I')
    (hW : ∀ w ∈ W', w ∈ W) : Footing E' X' I' W' s :=
  ⟨h.ledger, h.placed, fun b hb => (h.blocks b hb).imp_left (hE _), h.record.imp_left hI,
    fun c hc hl hx h0 => (h.held c hc hl hx h0).imp_left fun hx => ⟨hX hx.1, hx.2⟩, fun w hw => h.writes w (hW w hw), h.scan⟩

theorem Footing.unwritten : Footing E X I [] s := h.loosen (fun _ => id) id id fun _ hw => absurd hw List.not_mem_nil

omit h in
theorem not_standing_of_closed {s : State} (hc : ∀ c ∈ s.store.index, c.state = .closed) (n : Nat) : ¬s.standing n :=
  fun ⟨c, hm, _, hl⟩ => hl (hc c hm)

/-- With every record CLOSED nothing is written. -/
theorem Footing.idle_writes (hc : ∀ c ∈ s.store.index, c.state = .closed) : W = [] :=
  List.eq_nil_iff_forall_not_mem.2 fun w hw => by
    obtain ⟨-, c, hm, -, hl, -⟩ := h.writes w hw
    exact hl (hc c hm)

theorem Footing.idle_record (hI : ¬I) (hc : ∀ c ∈ s.store.index, c.state = .closed) : s.intake.record = none := by
  cases hr : s.intake.record with
  | none => rfl
  | some r =>
    obtain ⟨c, hm, -, ho⟩ := h.record.resolve_left hI r hr
    rw [hc c hm] at ho; cases ho
end

theorem Footing.idle_buffer {X I : Prop} {W : List WWrite} {s : State} (h : Footing noClip X I W s)
    (hc : ∀ c ∈ s.store.index, c.state = .closed) : s.intake.buffer = [] :=
  List.eq_nil_iff_forall_not_mem.2 fun b hb => (h.blocks b hb).elim id (not_standing_of_closed hc _)

theorem Sound.congr {s t : State} (h : Sound s) (ht : t.stock = s.stock) : Sound t := by
  have hw : t.writes = s.writes := State.stock_keeps State.writes (fun _ => rfl) ht
  unfold Sound
  rw [hw]; exact Footing.congr h ht

/-- The part is sound where its footing covers its writes. -/
theorem Footing.sound {W : List WWrite} {s : State} (h : Footing noClip False False W s) (hw : ∀ w ∈ s.writes, w ∈ W) : Sound s :=
  h.loosen (fun _ => id) id id hw

theorem mem_writes {s : State} {w : WWrite} : w ∈ s.writes ↔ s.store.retry = some w ∨ ∃ o, s.card.op = some o ∧ o.source = .writer w := by
  unfold State.writes
  rw [List.mem_append, Option.mem_toList]
  refine or_congr Iff.rfl ?_
  cases s.card.op with
  | none => simp
  | some o => cases ho : o.source <;> simp [ho, eq_comm]

theorem writes_nil {s : State} (hr : s.store.retry = none) (hw : s.card.writing = false) : s.writes = [] :=
  List.eq_nil_iff_forall_not_mem.2 fun w hm => by
    obtain hx | ⟨o, ho, hs⟩ := mem_writes.1 hm
    · rw [hr] at hx; cases hx
    · unfold Card.writing at hw; rw [ho] at hw; simp [hs] at hw
end Sys2Proof.Machine

/-! PROOF. The footing of a READY store where a record changes, and where blocks and the intake record come and go. -/

namespace Sys2Proof.Machine

/-- `d` is record `c` with its chain, gone on at most from OPEN to CLOSING, and with no written block lost. -/
structure Reclipped (c d : Clip) : Prop where
  number : d.number = c.number
  count : d.extentCount = c.extentCount
  first : d.firstExtent = c.firstExtent
  last : d.lastExtent = c.lastExtent
  blocks : c.dataBlocks ≤ d.dataBlocks
  state : d.state = c.state ∨ (c.state = .opened ∧ d.state = .closing)

theorem Reclipped.refl (c : Clip) : Reclipped c c := ⟨rfl, rfl, rfl, rfl, Nat.le_refl _, .inl rfl⟩

section
variable {c d : Clip} (h : Reclipped c d)
include h

theorem Reclipped.live : d.state ≠ .closed ↔ c.state ≠ .closed := by
  obtain hs | ⟨hc, hd⟩ := h.state
  · rw [hs]
  · rw [hc, hd]; exact ⟨fun _ => nofun, fun _ => nofun⟩

theorem Reclipped.closing (hc : c.state = .closing) : d.state = .closing := by
  obtain hs | ⟨ho, -⟩ := h.state
  · rw [hs, hc]
  · rw [ho] at hc; cases hc
end

section
variable {E : Nat → Prop} {X I : Prop} {W : List WWrite} {s : State} (h : Footing E X I W s)
include h

/-! ### A record changes -/

theorem Footing.reclip {m : Nat} {f : Clip → Clip} {J : Prop} (hl : Ledger False False (updateClip m f s))
    (hf : ∀ c ∈ s.store.index, c.number = m → Reclipped c (f c))
    (hr : I ∨ RecordStands s → J ∨ RecordStands (updateClip m f s)) : Footing E X J W (updateClip m f s) := by
  have hg : ∀ c ∈ s.store.index, Reclipped c (if c.number = m then f c else c) := fun c hc => by
    split
    · next hn => exact hf c hc hn
    · exact .refl c
  have hmem : ∀ c ∈ s.store.index, (if c.number = m then f c else c) ∈ (updateClip m f s).store.index := fun c hc =>
    List.mem_map_of_mem hc
  refine ⟨hl, fun hs => ?_, fun b hb => (h.blocks b hb).imp_right fun ⟨c, hc, hn, hk⟩ =>
    ⟨_, hmem c hc, (hg c hc).number.trans hn, (hg c hc).live.2 hk⟩, hr h.record, fun d hd hk hx h0 => ?_, fun w hw => ?_, h.scan⟩
  · refine (h.placed hs).relink _ rfl (fun c hc => (hg c hc).number) (fun c hc => (hg c hc).count) (fun c hc => (hg c hc).first)
      (fun c hc => (hg c hc).last) rfl rfl rfl (fun _ => Iff.rfl) (fun i o hio => ⟨o, hio, rfl, rfl, rfl⟩) fun i o hio =>
        ⟨o, hio, rfl, rfl, rfl⟩
  · obtain ⟨c, hc, rfl⟩ := List.mem_map.1 hd
    have hcd := hg c hc
    rw [hcd.number]
    refine (h.held c hc (hcd.live.1 hk) (by rw [← hcd.count]; exact hx) (by have := hcd.blocks; omega)).imp_left fun hX =>
      ⟨hX.1, hcd.closing hX.2⟩
  · obtain ⟨hs, c, hc, hn, hk, hw⟩ := h.writes w hw
    have hcd := hg c hc
    refine ⟨hs, _, hmem c hc, hcd.number.trans hn, hcd.live.2 hk, ?_⟩
    cases w with
    | openTrailer a b => exact hcd.last.trans hw
    | fullTrailer a b => exact hcd.last.trans hw
    | weakTrailer a b => exact hcd.last.trans hw
    | burst a b p k hd x y =>
      obtain ⟨hw1, hw2, hw3⟩ := hw
      exact ⟨hcd.last.trans hw1, hw2, fun b hb => (hw3 b hb).trans hcd.number.symm⟩
    | finalTrailer a b =>
      obtain ⟨hw1, hw2, hw3⟩ := hw
      exact ⟨hcd.closing hw1, hw2.trans_le hcd.blocks, fun b hb => by rw [hcd.number]; exact hw3 b hb⟩

/-- Records changed in nothing that the clauses look at. -/
theorem Footing.amend {m : Nat} {f : Clip → Clip} (hl : Ledger False False (updateClip m f s))
    (hf : ∀ c ∈ s.store.index, c.number = m → Reclipped c (f c))
    (hs : ∀ c ∈ s.store.index, c.number = m → (f c).state = c.state) : Footing E X I W (updateClip m f s) := by
  refine h.reclip hl hf fun hr => hr.imp_right fun hr r hrm => ?_
  obtain ⟨c, hc, hn, ho⟩ := hr r hrm
  refine ⟨_, List.mem_map_of_mem hc, ?_, ?_⟩
  · split
    · next hm => exact (hf c hc hm).number.trans hn
    · exact hn
  · split
    · next hm => exact (hs c hc hm).trans ho
    · exact ho

/-- A live record becomes CLOSING; the intake record is left behind where it was OPEN. -/
theorem Footing.setClosing {c : Clip} (hc : c ∈ s.store.index) (hk : c.state ≠ .closed) (r : CloseReason) :
    Footing E X (I ∨ c.state = .opened) W (updateClip c.number (setClosing r) s) := by
  have hl := ledger_setClosing h.ledger hc hk r
  have hf : ∀ d ∈ s.store.index, d.number = c.number → Reclipped d (Machine.setClosing r d) := fun d hd hn => by
    obtain rfl := h.ledger.unique hd hc hn
    refine ⟨rfl, rfl, rfl, rfl, Nat.le_refl _, ?_⟩
    cases hs : d.state with
    | opened => exact .inr ⟨rfl, rfl⟩
    | closing => exact .inl rfl
    | closed => exact absurd hs hk
  by_cases ho : c.state = .opened
  · exact h.reclip hl hf fun _ => .inl (.inr ho)
  · refine (h.amend hl hf fun d hd hn => ?_).loosen (fun _ => id) id .inl fun _ => id
    obtain rfl := h.ledger.unique hd hc hn
    cases hs : d.state with
    | opened => exact absurd hs ho
    | closing => rfl
    | closed => exact absurd hs hk

/-! ### The intake record and the blocks -/

theorem Footing.endIntake : Footing E X False W (endIntake s) :=
  ⟨ledger_endIntake h.ledger, h.placed, h.blocks, .inr fun r hr => (by cases hr), h.held, h.writes, h.scan⟩

/-- A fresh intake record of an OPEN record. -/
theorem Footing.newIntake {n : Nat} (hn : ∃ c ∈ s.store.index, c.number = n ∧ c.state = .opened) {f : Intake → Intake}
    (hb : (f s.intake).buffer = s.intake.buffer) (hr : ∀ r ∈ (f s.intake).record, r.clip = n) :
    Footing E X False W (s.mapIntake f) := by
  have hh : ∀ m, (f s.intake).holds m = s.intake.holds m := fun m => by unfold Intake.holds; rw [hb]
  refine ⟨ledger_mapIntake h.ledger _, h.placed, fun b hm => h.blocks b (by rw [← hb]; exact hm), .inr fun r hrm => ?_,
    fun c hc hk hx h0 => (h.held c hc hk hx h0).imp_right fun hc => (hh _).trans hc, fun w hw => ?_, h.scan⟩
  · obtain ⟨c, hc, hcn, ho⟩ := hn
    exact ⟨c, hc, hcn.trans (hr r hrm).symm, ho⟩
  · have hw' := h.writes w hw
    unfold WriteStands at hw' ⊢
    rw [State.mapIntake_intake, hb]; exact hw'

/-- Blocks of an OPEN record join the buffer. -/
theorem Footing.push {n : Nat} (hn : ∃ c ∈ s.store.index, c.number = n ∧ c.state = .opened) {f : Intake → Intake} {l : List Block}
    (hb : (f s.intake).buffer = s.intake.buffer ++ l) (hl : ∀ b ∈ l, b.clip = n)
    (hr : (f s.intake).record = s.intake.record) : Footing E X I W (s.mapIntake f) := by
  obtain ⟨d, hd, hdn, hdo⟩ := hn
  refine ⟨ledger_mapIntake h.ledger _, h.placed, fun b hm => ?_, h.record.imp_right fun hrs r hrm => ?_,
    fun c hc hk hx h0 => (h.held c hc hk hx h0).imp_right fun hc => ?_, fun w hw => ?_, h.scan⟩
  · rw [State.mapIntake_intake, hb] at hm
    obtain hm | hm := List.mem_append.1 hm
    · exact h.blocks b hm
    · exact .inr ⟨d, hd, hdn.trans (hl b hm).symm, by rw [hdo]; nofun⟩
  · exact hrs r (by rw [← hr]; exact hrm)
  · unfold Intake.holds at hc ⊢
    rw [State.mapIntake_intake, hb, List.any_append, hc, Bool.true_or]
  · obtain ⟨hs, c, hc, hcn, hk, hw⟩ := h.writes w hw
    refine ⟨hs, c, hc, hcn, hk, ?_⟩
    cases w with
    | openTrailer a b => exact hw
    | fullTrailer a b => exact hw
    | weakTrailer a b => exact hw
    | burst a b p k hd x y =>
      obtain ⟨hw1, hw2, hw3⟩ := hw
      dsimp only
      rw [State.mapIntake_intake, hb]
      refine ⟨hw1, hw2.trans (by rw [List.length_append]; omega), fun b hbm => hw3 b ?_⟩
      rw [List.take_append_of_le_length hw2] at hbm
      exact hbm
    | finalTrailer a b =>
      obtain ⟨hw1, hw2, hw3⟩ := hw
      refine ⟨hw1, hw2, fun b hbm hbc => ?_⟩
      rw [State.mapIntake_intake, hb] at hbm
      obtain hbm | hbm := List.mem_append.1 hbm
      · exact hw3 b hbm hbc
      · have hcd : d = c := h.ledger.unique hd hc (by rw [hdn, ← hl b hbm, hbc])
        rw [← hcd, hdo] at hw1; cases hw1

/-- The blocks of a number of which no record is OPEN are discarded. -/
theorem Footing.discard {n : Nat} (hX : X) (hn : ∀ c ∈ s.store.index, c.number = n → c.state ≠ .opened) :
    Footing (fun k => E k ∧ k ≠ n) X I [] (discardBlocks n s) := by
  refine ⟨ledger_discardBlocks h.ledger _, h.placed, fun b hm => ?_, h.record, fun c hc hk hx h0 => ?_,
    fun w hw => absurd hw List.not_mem_nil, h.scan⟩
  · obtain ⟨hm, hb⟩ := List.mem_filter.1 hm
    exact (h.blocks b hm).imp_left fun hE => ⟨hE, by simpa using hb⟩
  · by_cases hcn : c.number = n
    · refine .inl ⟨hX, ?_⟩
      cases hs : c.state with
      | opened => exact absurd hs (hn c hc hcn)
      | closing => rfl
      | closed => exact absurd hs hk
    · refine (h.held c hc hk hx h0).imp_right fun hh => ?_
      obtain ⟨b, hb, hbc⟩ := List.any_eq_true.1 hh
      refine List.any_eq_true.2 ⟨b, List.mem_filter.2 ⟨hb, ?_⟩, hbc⟩
      rw [of_decide_eq_true hbc]; simpa using hcn

/-- The first `k` blocks, all of one number, leave the buffer, where the record of that number has written blocks. -/
theorem Footing.drop {n k : Nat} (hk : ∀ b ∈ s.intake.buffer.take k, b.clip = n)
    (hn : ∀ c ∈ s.store.index, c.number = n → c.dataBlocks = 0 → k = 0) :
    Footing E X I [] (s.mapIntake fun i => { i with buffer := i.buffer.drop k }) := by
  refine ⟨ledger_mapIntake h.ledger _, h.placed, fun b hm => h.blocks b (List.mem_of_mem_drop hm), h.record,
    fun c hc hl hx h0 => (h.held c hc hl hx h0).imp_right fun hh => ?_, fun w hw => absurd hw List.not_mem_nil, h.scan⟩
  by_cases hcn : c.number = n
  · show (List.drop k s.intake.buffer).any _ = true
    rw [hn c hc hcn h0]; exact hh
  · obtain ⟨b, hb, hbc⟩ := List.any_eq_true.1 hh
    refine List.any_eq_true.2 ⟨b, ?_, hbc⟩
    rw [← List.take_append_drop k s.intake.buffer] at hb
    refine (List.mem_append.1 hb).resolve_left fun hb => hcn ?_
    rw [← hk b hb]; exact (of_decide_eq_true hbc).symm

/-- The blocks of a number of which no record is OPEN become those of another that stands. -/
theorem Footing.retag {a b : Nat} (hX : X) (ha : ∀ c ∈ s.store.index, c.number = a → c.state ≠ .opened) (hb : s.standing b) :
    Footing (fun k => E k ∧ k ≠ a) X I [] (retag a b s) := by
  refine ⟨ledger_retag h.ledger _ _, h.placed, fun x hm => ?_, h.record, fun c hc hk hx h0 => ?_,
    fun w hw => absurd hw List.not_mem_nil, h.scan⟩
  · obtain ⟨y, hy, rfl⟩ := List.mem_map.1 hm
    by_cases hya : y.clip = a
    · rw [if_pos hya]; exact .inr hb
    · rw [if_neg hya]; exact (h.blocks y hy).imp_left fun hE => ⟨hE, hya⟩
  · by_cases hca : c.number = a
    · refine .inl ⟨hX, ?_⟩
      cases hs : c.state with
      | opened => exact absurd hs (ha c hc hca)
      | closing => rfl
      | closed => exact absurd hs hk
    · refine (h.held c hc hk hx h0).imp_right fun hh => ?_
      obtain ⟨y, hy, hyc⟩ := List.any_eq_true.1 hh
      have hyc' := of_decide_eq_true hyc
      refine List.any_eq_true.2 ⟨_, List.mem_map_of_mem hy, ?_⟩
      rw [if_neg (by rw [hyc']; exact hca)]; exact hyc
end
end Sys2Proof.Machine

/-! PROOF. The footing of a READY store where records leave it: removals, reclaims, and the records that a close leaves empty
(R95, R99). -/

namespace Sys2Proof.Machine

/-- A write stands while its record and the blocks stay. -/
theorem WriteStands.stays {s t : State} {w : WWrite} (h : WriteStands s w) (hs : t.store.state = s.store.state)
    (hb : t.intake.buffer = s.intake.buffer) (hc : ∀ c ∈ s.store.index, c.number = w.clip → c ∈ t.store.index) :
    WriteStands t w := by
  obtain ⟨hr, c, hm, hn, hk⟩ := h
  refine ⟨hs.trans hr, c, hc c hm hn, hn, ?_⟩
  rw [hb]; exact hk

theorem dropClip_keeps_ready {s : State} {c : Clip} (h : Parted s.store) (hc : c ∈ s.store.index)
    (hu : ∀ d ∈ s.store.index, d.number = c.number → d = c) : Parted (dropClip c s).store := by
  have hk := fun {α : Type} (f : State → α) (hf : ∀ s : State, f s.stock = f s) => State.stock_keeps f hf (stock_dropClip c s)
  exact (h.dropped hc hu).of_eq (hk (fun s => s.store.extents) fun _ => rfl) (hk (fun s => s.store.free) fun _ => rfl)
    (hk (fun s => s.store.index) fun _ => rfl) (hk (fun s => s.store.count) fun _ => rfl)

section
variable {E : Nat → Prop} {X I : Prop} {W : List WWrite} {s : State} (h : Footing E X I W s)
include h

/-! ### A record leaves -/

/-- A record that is not OPEN, with its blocks excused and no write, leaves the store. -/
theorem Footing.dropClip {c : Clip} (hc : c ∈ s.store.index) (ho : c.state ≠ .opened)
    (hE : ∀ b ∈ s.intake.buffer, b.clip = c.number → E c.number) (hW : ∀ w ∈ W, w.clip ≠ c.number) :
    Footing E X I W (dropClip c s) := by
  have hd := shed_dropClip c s
  have hu : ∀ d ∈ s.store.index, d.number = c.number → d = c := fun d hm hn => h.ledger.unique hm hc hn
  have hh : ∀ n, (Machine.dropClip c s).intake.holds n = s.intake.holds n := fun n => by unfold Intake.holds; rw [hd.buffer]
  refine ⟨ledger_dropClip h.ledger c, fun hr => dropClip_keeps_ready (h.placed (hd.state ▸ hr)) hc hu, fun b hb => ?_,
    h.record.imp_right fun hr r hrm => ?_, fun d hm hk hx h0 => ?_, fun w hw => ?_, fun k hk => ?_⟩
  · rw [hd.buffer] at hb
    by_cases hn : b.clip = c.number
    · rw [hn]; exact .inl (hE b hb hn)
    · exact (h.blocks b hb).imp_right fun ⟨d, hm, hdn, hk⟩ => ⟨d, hd.stays d hm (by rw [hdn]; exact hn), hdn, hk⟩
  · rw [hd.record] at hrm
    obtain ⟨d, hm, hn, hdo⟩ := hr r hrm
    exact ⟨d, hd.stays d hm fun he => ho (hu d hm he ▸ hdo), hn, hdo⟩
  · rw [hh]; exact h.held d (hd.mem hm) hk hx h0
  · exact (h.writes w hw).stays hd.state hd.buffer fun d hm hn => hd.stays d hm fun he => hW w hw (hn.symm.trans he)
  · rw [hd.scan] at hk; rw [hd.count]; exact h.scan k hk

/-- A CLOSED record leaves the store. -/
theorem Footing.dropClosed {c : Clip} (hc : c ∈ s.store.index) (hk : c.state = .closed) :
    Footing E X I W (Machine.dropClip c s) := by
  have hu : ∀ d ∈ s.store.index, d.number = c.number → d.state = .closed := fun d hm hn => h.ledger.unique hm hc hn ▸ hk
  refine h.dropClip hc (by rw [hk]; nofun) (fun b hb hn => ?_) fun w hw hn => ?_
  · rw [← hn]
    exact (h.blocks b hb).resolve_right fun ⟨d, hm, hdn, hl⟩ => hl (hu d hm (hdn.trans hn))
  · obtain ⟨-, d, hm, hdn, hl, -⟩ := h.writes w hw
    exact hl (hu d hm (hdn.trans hn))

theorem Footing.reclaim {c : Clip} (hc : s.store.oldestReclaimable = some c) : Footing E X I W (reclaim c s) := by
  obtain ⟨hm, hk, -⟩ := oldestReclaimable_mem hc
  exact (h.dropClosed hm hk).congr rfl

theorem Footing.reclaimUntil (w k : Nat) : Footing E X I W (reclaimUntil w k s) := by
  induction k generalizing s with
  | zero => exact h
  | succ k ih =>
    unfold Machine.reclaimUntil; split
    · split
      · next c hc => exact ih (h.reclaim hc)
      · exact h
    · exact h

theorem Footing.openingTest : Footing E X I W (openingTest s).2 := by
  unfold Machine.openingTest; dsimp only; split
  · split
    · next c hc => exact h.reclaim hc
    · exact h
  · exact h

/-! ### What the clauses do not look at -/

theorem Footing.report (p : Payload) : Footing E X I W (report p s) := h.congr (stock_report s p)
theorem Footing.judgeHold : Footing E X I W (judgeHold s) := h.congr (stock_judgeHold s)
theorem Footing.judgeStore : Footing E X I W (judgeStore s) := h.congr (stock_judgeStore s)
theorem Footing.countFlush (f : Flush → Flush) : Footing E X I W (countFlush f s) := h.congr rfl

theorem Footing.removeClip {c : Clip} (hc : c ∈ s.store.index) (ho : c.state ≠ .opened)
    (hE : ∀ b ∈ s.intake.buffer, b.clip = c.number → E c.number) (hW : ∀ w ∈ W, w.clip ≠ c.number) :
    Footing E X I W (removeClip c.number s) := by
  have hr := stock_report s (.clipClosed c.number (c.reason.getD .stop) c.flags c.extentCount c.dataBlocks c.duration true)
  have hi := State.stock_keeps (fun s => s.store.index) (fun _ => rfl) hr
  have hb := State.stock_keeps (fun s => s.intake.buffer) (fun _ => rfl) hr
  unfold Machine.removeClip
  rw [h.ledger.find_eq hc]
  exact ((h.congr hr).dropClip (hi ▸ hc) ho (hb ▸ hE) hW).congr rfl
end

/-! ### Empty records -/

/-- Record `c` is CLOSING without a written or buffered block. -/
def EmptyClosing (s : State) (c : Clip) : Prop := c.state = .closing ∧ c.dataBlocks = 0 ∧ s.intake.holds c.number = false

theorem mem_emptyClosing {s : State} {n : Nat} : n ∈ emptyClosing s ↔ ∃ c ∈ s.store.index, c.number = n ∧ EmptyClosing s c := by
  unfold emptyClosing EmptyClosing
  simp only [List.mem_map, List.mem_filter, Bool.and_eq_true, decide_eq_true_eq, beq_iff_eq, Bool.not_eq_true', and_assoc]
  exact ⟨fun ⟨c, hc, h1, h2, h3, hn⟩ => ⟨c, hc, hn, h1, h2, h3⟩, fun ⟨c, hc, hn, h1, h2, h3⟩ => ⟨c, hc, h1, h2, h3, hn⟩⟩

section
variable {E : Nat → Prop} {X I : Prop} {W : List WWrite} {s : State}

theorem not_mem_of_not_holds {i : Intake} {n : Nat} (h : i.holds n = false) {b : Block} (hb : b ∈ i.buffer) : b.clip ≠ n := by
  simpa using List.any_eq_false.1 h b hb

/-- A record without blocks has nothing written, where every empty record stands on its blocks. -/
theorem Footing.unwritten_empty (h : Footing E False I W s) {c : Clip} (hc : c ∈ s.store.index) (he : EmptyClosing s c) :
    ∀ w ∈ W, w.clip ≠ c.number := by
  obtain ⟨hk, h0, hh⟩ := he
  intro w hw hn
  obtain ⟨hr, d, hm, hdn, hl, hwd⟩ := h.writes w hw
  obtain rfl := h.ledger.unique hm hc (hdn.trans hn)
  have hlast : ∀ e, d.lastExtent = some e → False := fun e he => by
    obtain hf | hh' := h.held d hm hl ((h.placed hr).extents_pos hm he) h0
    · exact hf.1
    · rw [hh] at hh'; cases hh'
  cases w with
  | openTrailer a b => exact hlast _ hwd
  | fullTrailer a b => exact hlast _ hwd
  | weakTrailer a b => exact hlast _ hwd
  | burst a b p k hd x y => exact hlast _ hwd.1
  | finalTrailer a b => have := hwd.2.1; omega

/-- Removals of empty records, of each of which nothing is written. -/
theorem Footing.reap (h : Footing E X I W s) (ns : List Nat)
    (hn : ∀ n ∈ ns, ∀ c ∈ s.store.index, c.number = n → EmptyClosing s c)
    (hW : ∀ n ∈ ns, ∀ w ∈ W, w.clip ≠ n) : Footing E X I W (ns.foldl (fun s n => Machine.removeClip n s) s) := by
  induction ns generalizing s with
  | nil => exact h
  | cons n ns ih =>
    have hd := shed_removeClip n s
    have hh : ∀ m, (Machine.removeClip n s).intake.holds m = s.intake.holds m := fun m => by unfold Intake.holds; rw [hd.buffer]
    refine ih ?_ (fun m hm c hc hcn => ?_) fun m hm => hW m (List.mem_cons_of_mem _ hm)
    · cases hf : s.store.find n with
      | none =>
        have hr : Machine.removeClip n s = s := by unfold Machine.removeClip; rw [hf]
        dsimp only; rw [hr]; exact h
      | some c =>
        obtain ⟨hc, rfl⟩ := find_mem hf
        obtain ⟨hk, -, he⟩ := hn _ List.mem_cons_self c hc rfl
        exact h.removeClip hc (by rw [hk]; nofun) (fun b hb hbc => absurd hbc (not_mem_of_not_holds he hb)) (hW _ List.mem_cons_self)
    · obtain ⟨h1, h2, h3⟩ := hn m (List.mem_cons_of_mem _ hm) c (hd.mem hc) hcn
      exact ⟨h1, h2, (hh _).trans h3⟩

/-- A record of number `n` that leaves by `ns` is gone. -/
theorem gone_of_reap (ns : List Nat) (s : State) {n : Nat} (hn : n ∈ ns) :
    ∀ c ∈ (ns.foldl (fun s n => removeClip n s) s).store.index, c.number ≠ n := by
  have hsub : ∀ (ns : List Nat) (s : State), (ns.foldl (fun s n => removeClip n s) s).store.index.Sublist s.store.index := by
    intro ns
    induction ns with
    | nil => exact fun s => .refl _
    | cons m ns ih => exact fun s => (ih _).trans (shed_removeClip m s).sublist
  induction ns generalizing s with
  | nil => cases hn
  | cons m ns ih =>
    obtain rfl | hn := List.mem_cons.1 hn
    · intro c hc hcn
      have hc : c ∈ (removeClip n s).store.index := (hsub ns _).subset hc
      unfold removeClip at hc
      split at hc
      · next d hd =>
        have hi : (countFlush (fun f => { f with removed := f.removed + 1 }) (dropClip d (reportClosed d true s))).store.index =
          (dropClip d (reportClosed d true s)).store.index := rfl
        rw [hi, dropClip_index] at hc
        have := (List.mem_filter.1 hc).2
        rw [(find_mem hd).2] at this
        simp [hcn] at this
      · next hf => exact List.find?_eq_none.1 hf c hc (by simpa using hcn)
    · exact ih _ hn

/-- With the empty records removed, every live record that has an extent stands on its blocks. -/
theorem Footing.reapEmpty (h : Footing E X I W s) (hXW : X → W = []) : Footing E False I W (reapEmpty s) := by
  have hW : ∀ n ∈ emptyClosing s, ∀ w ∈ W, w.clip ≠ n := fun n hn w hw => by
    obtain ⟨c, hc, rfl, he⟩ := mem_emptyClosing.1 hn
    by_cases hX : X
    · rw [hXW hX] at hw; cases hw
    · exact Footing.unwritten_empty (h.loosen (fun _ => id) hX id fun _ => id) hc he w hw
  have ht := h.reap (emptyClosing s) (fun n hn c hc hcn => by
    obtain ⟨d, hd, hdn, he⟩ := mem_emptyClosing.1 hn
    rw [h.ledger.unique hc hd (hcn.trans hdn.symm)]; exact he) hW
  have hshed := shed_reapEmpty s
  refine ⟨ht.ledger, ht.placed, ht.blocks, ht.record, fun c hc hl hx h0 => ?_, ht.writes, ht.scan⟩
  refine .inr ((ht.held c hc hl hx h0).elim (fun hXc => ?_) id)
  by_contra hh
  refine gone_of_reap (emptyClosing s) s (mem_emptyClosing.2 ⟨c, hshed.mem hc, rfl, hXc.2, h0, ?_⟩) c hc rfl
  have hb : (Machine.reapEmpty s).intake.holds c.number = s.intake.holds c.number := by unfold Intake.holds; rw [hshed.buffer]
  rw [← hb]; exact Bool.eq_false_iff.2 hh

theorem frozen_restWriter (s : State) : (restWriter s).frozen = s.frozen := by
  have hj : ∀ t : State, (judgeHold t).frozen = t.frozen := fun t => State.frozen_of_stock (stock_judgeHold t)
  unfold restWriter; split
  · rfl
  · split
    · rfl
    · rw [hj]; split
      · exact (State.frozen_of_stock (stock_report _ _)).trans rfl
      · rfl
    · rfl

theorem Footing.restWriter (h : Footing E X I W s) : Footing E X I W (restWriter s) :=
  h.carry (ledger_restWriter h.ledger) (frozen_restWriter s)

/-- What follows a close. -/
theorem Footing.afterClose (h : Footing E X I W s) (hXW : X → W = []) : Footing E False I W (afterClose s) :=
  (h.reapEmpty hXW).restWriter.judgeHold.judgeStore
end
end Sys2Proof.Machine

/-! PROOF. The footing of a READY store through the closes of its OPEN record and the opening of records (R71, R84, R97 to R99,
R108). -/

namespace Sys2Proof.Machine

/-! ### The writes in flight and waiting stay -/

section
variable (s : State)
@[simp] theorem report_writes (p : Payload) : (report p s).writes = s.writes :=
  State.stock_keeps State.writes (fun _ => rfl) (stock_report s p)
@[simp] theorem judgeStore_writes : (judgeStore s).writes = s.writes :=
  State.stock_keeps State.writes (fun _ => rfl) (stock_judgeStore s)
@[simp] theorem judgeHold_writes : (judgeHold s).writes = s.writes :=
  State.stock_keeps State.writes (fun _ => rfl) (stock_judgeHold s)
@[simp] theorem dropClip_writes (c : Clip) : (dropClip c s).writes = s.writes := (shed_dropClip c s).writes
@[simp] theorem completePacking_writes (m : Nat) : (completePacking m s).writes = s.writes := by
  unfold completePacking; split <;> rfl
@[simp] theorem restWriter_writes : (restWriter s).writes = s.writes := by
  unfold restWriter; split
  · rfl
  · split
    · rfl
    · rw [judgeHold_writes]; split
      · exact report_writes _ _
      · rfl
    · rfl
@[simp] theorem afterClose_writes : (afterClose s).writes = s.writes := by
  unfold afterClose
  rw [judgeStore_writes, judgeHold_writes, restWriter_writes, (shed_reapEmpty s).writes]
@[simp] theorem closeOpen_writes (r : CloseReason) : (closeOpen r s).writes = s.writes := by
  unfold closeOpen; split
  · exact completePacking_writes _ _
  · rfl
@[simp] theorem openingTest_writes : (openingTest s).2.writes = s.writes := by
  unfold openingTest; dsimp only; split
  · split
    · exact dropClip_writes s _
    · rfl
  · rfl
theorem openRecord_writes (t : Nat) (w : ClipState) (k : Bool) (r : Option CloseReason) :
    (openRecord t w k r s).writes = s.writes := report_writes _ _
theorem stopRecording_writes (r : CloseReason) : (stopRecording r s).writes = s.writes := by
  unfold stopRecording; split
  · exact (afterClose_writes _).trans (closeOpen_writes s r)
  · rfl
theorem enterEmergency_writes (r : CloseReason) : (enterEmergency r s).writes = s.writes := by
  unfold enterEmergency; split
  · exact (afterClose_writes _).trans ((judgeHold_writes _).trans (closeOpen_writes _ r))
  · rfl
theorem startRecording_writes (t : Nat) : (startRecording t s).2.writes = s.writes := by
  unfold startRecording
  split_ifs
  · rfl
  · rfl
  · rfl
  · dsimp only; split
    · exact (judgeStore_writes _).trans ((openRecord_writes _ _ _ _ _).trans (openingTest_writes s))
    · exact (judgeStore_writes _).trans (openingTest_writes s)
end

/-! ### The OPEN record closes -/

/-- The completed last block does not wait for the record's change. -/
theorem completePacking_updateClip (n m : Nat) (f : Clip → Clip) (s : State) :
    completePacking n (updateClip m f s) = updateClip m f (completePacking n s) := by
  unfold completePacking
  by_cases hp : s.intake.packing.isEmpty = true
  · rw [if_pos hp, if_pos (c := (updateClip m f s).intake.packing.isEmpty = true) hp]
  · rw [if_neg hp, if_neg (c := (updateClip m f s).intake.packing.isEmpty = true) hp]; rfl

section
variable {E : Nat → Prop} {X I : Prop} {W : List WWrite} {s : State} (h : Footing E X I W s)
include h

theorem Footing.mapCounters (f : Counters → Counters) : Footing E X I W (s.mapCounters f) := h.congr rfl

theorem Footing.completePacking {c : Clip} (hc : c ∈ s.store.index) (ho : c.state = .opened) :
    Footing E X I W (completePacking c.number s) := by
  unfold Machine.completePacking; split
  · exact h
  · exact h.push (l := [⟨c.number, _⟩]) ⟨c, hc, rfl, ho⟩ rfl (fun b hb => by rw [List.mem_singleton.1 hb]) rfl

theorem Footing.closeOpen (r : CloseReason) : Footing E X False W (closeOpen r s) := by
  unfold Machine.closeOpen; split
  · next c hc =>
    obtain ⟨hm, ho⟩ := openClip_mem hc
    rw [completePacking_updateClip]
    refine ((h.completePacking hm ho).setClosing ?_ (by rw [ho]; nofun) r).endIntake
    rw [completePacking_store]; exact hm
  · exact h.endIntake

/-- The writer moves where the ledger allows it. -/
theorem Footing.setWriter {w : WriterState} (hl : Ledger False False (setWriter w s)) : Footing E X I W (setWriter w s) :=
  h.carry hl rfl
end

section
variable {E : Nat → Prop} {W : List WWrite} {s : State} (h : Footing E False False W s) (r : CloseReason)
include h

theorem Footing.stopRecording : Footing E False False W (stopRecording r s) := by
  unfold Machine.stopRecording; split
  · next hw =>
    have hc := h.closeOpen r
    have hrun : (Machine.closeOpen r s).store.writer ≠ .idle := by rw [closeOpen_writer, hw]; exact nofun
    exact (hc.setWriter (w := .stopping) (hc.ledger.moveWriter (h.ledger.noneOpen_closeOpen r) hrun nofun nofun)).afterClose
      False.elim
  · exact h

theorem Footing.enterEmergency : Footing E False False W (enterEmergency r s) := by
  unfold Machine.enterEmergency; split
  · next hw =>
    have hk := h.mapCounters fun c => { c with emergencyCloses := satAdd c.emergencyCloses 1 }
    have hrun : (s.mapCounters fun c => { c with emergencyCloses := satAdd c.emergencyCloses 1 }).store.writer ≠ .idle := by
      show s.store.writer ≠ .idle
      obtain hw | hw := hw
      · rw [hw]; exact nofun
      · rw [hw]; exact nofun
    dsimp only
    generalize (s.mapCounters fun c => { c with emergencyCloses := satAdd c.emergencyCloses 1 }) = u at hk hrun
    have hc := hk.closeOpen r
    have hs := hc.setWriter (w := .emergency) (hc.ledger.moveWriter (hk.ledger.noneOpen_closeOpen r)
      (by rw [closeOpen_writer]; exact hrun) nofun nofun)
    generalize Machine.setWriter .emergency (Machine.closeOpen r u) = v at hs
    exact (Footing.congr (t := v.mapStore fun st => { st with flush := some ⟨st.tab.flushLimit, r, 0, 0, 0, 0, 0⟩ }) hs
      rfl).judgeHold.afterClose False.elim
  · exact h
end

/-! ### A record opens -/

/-- The record that opens. -/
def newRecord (t : Nat) (w : ClipState) (k : Bool) (r : Option CloseReason) (s : State) : Clip :=
  { number := s.store.nextClip, state := w, locked := false, flags := { ClipFlags.empty with continued := k }, start := t,
    openTime := some s.partTime, firstPts := none, duration := 0, firstExtent := none, lastExtent := none, extentCount := 0,
    dataBlocks := 0, markers := [], reason := r, phase := .none, finalBegun := false }

section
variable (t : Nat) (w : ClipState) (k : Bool) (r : Option CloseReason) (s : State)
theorem stock_openRecord : (openRecord t w k r s).stock =
    (s.mapStore fun st => { st with index := st.index ++ [newRecord t w k r s], nextClip := st.nextClip + 1 }).stock :=
  stock_report _ _
theorem openRecord_index : (openRecord t w k r s).store.index = s.store.index ++ [newRecord t w k r s] :=
  State.stock_keeps (fun s => s.store.index) (fun _ => rfl) (stock_openRecord t w k r s)
theorem newRecord_mem : newRecord t w k r s ∈ (openRecord t w k r s).store.index := by
  rw [openRecord_index]; exact List.mem_append_right _ (List.mem_singleton_self _)
end

section
variable {E : Nat → Prop} {X I : Prop} {W : List WWrite} {s : State} (h : Footing E X I W s)
include h

theorem Footing.openRecord {t : Nat} {w : ClipState} {k : Bool} {r : Option CloseReason}
    (hlen : s.store.index.length < Config.indexSize) (hw : s.store.writer ≠ .idle)
    (ho : w = .opened → s.store.writer = .recording ∧ s.store.noneOpen) : Footing E X I W (openRecord t w k r s) := by
  have hl := h.ledger.open (c := newRecord t w k r s) hlen rfl ho hw rfl fun hn => hn.elim
  have hmem : ∀ c ∈ s.store.index, c ∈ s.store.index ++ [newRecord t w k r s] := fun c hc => List.mem_append_left _ hc
  refine Footing.congr (s := s.mapStore fun st =>
    { st with index := st.index ++ [newRecord t w k r s], nextClip := st.nextClip + 1 })
    ⟨hl, fun hr => ?_, fun b hb => (h.blocks b hb).imp_right fun ⟨c, hc, hn⟩ => ⟨c, hmem c hc, hn⟩,
      h.record.imp_right fun hr r hrm => ?_, fun c hc hk hx h0 => ?_, fun w hw => ?_, h.scan⟩ (stock_openRecord t w k r s)
  · exact Parted.append (c := newRecord t w k r s) (h.placed hr) rfl rfl rfl rfl rfl rfl rfl
  · obtain ⟨c, hc, hn⟩ := hr r hrm
    exact ⟨c, hmem c hc, hn⟩
  · obtain hc | hc := List.mem_append.1 hc
    · exact h.held c hc hk hx h0
    · rw [List.mem_singleton.1 hc] at hx; cases hx
  · exact (h.writes w hw).stays rfl rfl fun c hc _ => hmem c hc

theorem Footing.startStall : Footing E X I W (startStall s) := h.congr rfl

theorem Footing.freshIntake {n : Nat} (hn : ∃ c ∈ s.store.index, c.number = n ∧ c.state = .opened) :
    Footing E X False W (freshIntake n s) := h.newIntake hn rfl fun r hr => by
  obtain rfl := Option.some.inj hr; rfl
end

section
variable {E : Nat → Prop} {X : Prop} {W : List WWrite} {s : State}

theorem Footing.startRecording (h : Footing E X False W s) (t : Nat) : Footing E X False W (startRecording t s).2 := by
  unfold Machine.startRecording
  split
  · exact h
  · next hs =>
    split
    · exact h
    · next hu =>
      split
      · exact h
      · next hb =>
        have hf := h.openingTest
        obtain ⟨-, hd⟩ := ledger_openingTest h.ledger
        dsimp only; split
        · next ht =>
          have hr := openingTest_room ht
          generalize (Machine.openingTest s).2 = u at hf hd hr
          have hidle : u.store.writer = .idle := by
            rw [hd.writer]; cases hw : s.store.writer <;> simp_all
          have hb := hf.setWriter (hf.ledger.begin (by rw [hd.state]; simpa using hs) (by rw [hd.supply, hd.tier]; tauto))
          have ho := hb.openRecord (t := t) (w := .opened) (k := false) (r := none) hr nofun
            (fun _ => ⟨rfl, fun c hc => by rw [hf.ledger.closed_of_idle hidle hc]; nofun⟩)
          have hsw : (Machine.setWriter .recording (Machine.openRecord t .opened false none u)).stock =
              (Machine.openRecord t .opened false none (Machine.setWriter .recording u)).stock := by
            rw [stock_setWriter_congr (stock_openRecord t .opened false none u), stock_openRecord]; rfl
          refine ((ho.congr hsw).freshIntake ⟨newRecord t .opened false none u, ?_, rfl, rfl⟩).startStall.judgeStore
          exact newRecord_mem t .opened false none u
        · exact hf.judgeStore
end
end Sys2Proof.Machine

/-! PROOF. The footing of a READY store through markers, locks, clip packets and the Trigger Unit's actions (R69, R77, R101, R103,
R137). -/

namespace Sys2Proof.Machine

section
variable {E : Nat → Prop} {X I : Prop} {W : List WWrite} {s : State} (h : Footing E X I W s)
include h

/-- Records change in nothing that the clauses look at. -/
theorem Footing.touch {m : Nat} {f : Clip → Clip} (hn : ∀ c, (f c).number = c.number := by intro _; rfl)
    (hs : ∀ c, (f c).state = c.state := by intro _; rfl) (hx : ∀ c, (f c).extentCount = c.extentCount := by intro _; rfl)
    (hf : ∀ c, (f c).firstExtent = c.firstExtent := by intro _; rfl) (hl : ∀ c, (f c).lastExtent = c.lastExtent := by intro _; rfl)
    (hb : ∀ c, (f c).dataBlocks = c.dataBlocks := by intro _; rfl) : Footing E X I W (updateClip m f s) := by
  refine h.amend (h.ledger.reindex _ (fun c _ => ?_) False.elim)
    (fun c _ _ => ⟨hn c, hx c, hf c, hl c, (hb c).ge, .inl (hs c)⟩) fun c _ _ => hs c
  split
  · exact ⟨hn c, .inl (hs c)⟩
  · exact .refl c

theorem Footing.mapCard {f : Card → Card} (hf : (f s.card).updates.length ≤ Config.updateLimit) : Footing E X I W (s.mapCard f) :=
  h.carry (ledger_mapCard h.ledger hf) rfl

theorem Footing.updateIntake {f : IntakeRec → IntakeRec} (hf : ∀ r, (f r).clip = r.clip := by intro _; rfl) :
    Footing E X I W (updateIntake f s) where
  ledger := ledger_updateIntake h.ledger f
  placed := h.placed
  blocks := h.blocks
  record := h.record.imp_right fun hr r hrm => by
    obtain ⟨q, hq, rfl⟩ := Option.map_eq_some_iff.1 hrm
    rw [hf]; exact hr q hq
  held := h.held
  writes w hw := (h.writes w hw).stays rfl rfl fun _ hc _ => hc
  scan := h.scan

/-! ### Markers and locks -/

theorem Footing.addMarker (k : Nat) : Footing E X I W (addMarker k s).2.2 := by
  unfold Machine.addMarker; split
  · exact h
  · dsimp only; split
    · exact h
    · exact h.touch

theorem Footing.enqueueUpdate {m : Nat} (ht : s.card.takes m = true) : Footing E X I W (enqueueUpdate m s) := by
  refine h.carry (ledger_enqueueUpdate h.ledger ht) ?_
  unfold Machine.enqueueUpdate; split <;> rfl

theorem Footing.setLock {c : Clip} {v : Bool} (ht : (c.needsRewrite && !s.card.takes c.number) = false) :
    Footing E X I W (setLock c v s) := by
  have hu : Footing E X I W (updateClip c.number (fun c => { c with locked := v }) s) := h.touch
  unfold Machine.setLock; dsimp only
  split
  · next hn =>
    rw [hn, Bool.true_and, Bool.not_eq_false'] at ht
    exact (hu.enqueueUpdate ht).judgeStore
  · exact hu.judgeStore

theorem Footing.lockRecord (c : Clip) : Footing E X I W (lockRecord c s).2 := by
  unfold Machine.lockRecord; split
  · exact h
  · split
    · exact h.report _
    · split
      · exact h
      · next ht => exact h.setLock (by simpa using ht)

theorem Footing.unlockRecord (c : Clip) : Footing E X I W (unlockRecord c s).2 := by
  unfold Machine.unlockRecord; split
  · exact h
  · split
    · exact h
    · next ht => exact h.setLock (by simpa using ht)

theorem Footing.lockPart (c : Clip) : Footing E X I W (lockPart c s).2 := by
  unfold Machine.lockPart; split
  · exact h
  · exact h.lockRecord c

/-! ### Clip packets -/

theorem Footing.dropPacket (r : IntakeRec) (st : Stream) (pts : Nat) : Footing E X I W (dropPacket r st pts s) := by
  have hc : Footing E X I W (updateClip r.clip (fun c => { c with flags := { c.flags with gap := true } })
      (s.mapCounters fun c => { c with packetsDropped := satAdd c.packetsDropped 1 })) := (h.mapCounters _).touch
  unfold Machine.dropPacket; dsimp only; split
  · exact hc
  · exact hc.updateIntake.report _

/-- A packet of an OPEN record is packed or dropped. -/
theorem Footing.packOrDrop {r : IntakeRec} (hr : ∃ c ∈ s.store.index, c.number = r.clip ∧ c.state = .opened) (st : Stream)
    (f : Byte) (pts : Nat) (p : Bytes) : Footing E X I W (packOrDrop r st f pts p s) := by
  unfold Machine.packOrDrop; dsimp only; split
  · have hp : Footing E X I W (s.mapIntake fun i => i.pack r.clip (storedHeader st f p.length pts ++ p)) :=
      h.push hr rfl (fun b hb => by obtain ⟨_, -, rfl⟩ := List.mem_map.1 hb; rfl) rfl
    refine Footing.judgeHold ?_
    split
    · exact hp.updateIntake.touch
    · exact hp
  · exact h.dropPacket r st pts
end

section
variable {E : Nat → Prop} {W : List WWrite} {s : State} (h : Footing E False False W s)
include h

theorem Footing.opened_of_record {r : IntakeRec} (hr : s.intake.record = some r) :
    ∃ c ∈ s.store.index, c.number = r.clip ∧ c.state = .opened := h.record.resolve_left id r hr

theorem Footing.splitClip {c : Clip} (hc : s.store.openClip = some c) : Footing E False False W (splitClip c s).2 := by
  obtain ⟨hm, hs⟩ := openClip_mem hc
  have hp := h.completePacking hm hs
  have hm' : c ∈ (Machine.completePacking c.number s).store.index := by rw [completePacking_store]; exact hm
  have hwr : (Machine.completePacking c.number s).store.writer = .recording := by
    rw [completePacking_store]; exact h.ledger.recording hm hs
  have hu := hp.setClosing hm' (by rw [hs]; nofun) .split
  have hno := hp.ledger.noneOpen_setClosing hm' hs .split
  have hcl : ∀ d ∈ (updateClip c.number (Machine.setClosing .split) (Machine.completePacking c.number s)).store.index,
      d.number = c.number → d.state = .closing := fun d hd hn => by
    obtain ⟨-, hne⟩ | ⟨b, -, -, rfl⟩ := mem_updateClip hd
    · exact absurd hn hne
    · rfl
  unfold Machine.splitClip; dsimp only
  generalize hv : updateClip c.number (Machine.setClosing .split) (Machine.completePacking c.number s) = v at hu hno hcl
  have hwv : v.store.writer = .recording := by rw [← hv]; exact hwr
  obtain ⟨-, ho⟩ := ledger_openingTest hu.ledger
  have hroom := openingTest_room (s := v)
  have ht := hu.openingTest
  generalize Machine.openingTest v = test at ht ho hroom
  obtain ⟨pass, t⟩ := test
  dsimp only at ht ho hroom ⊢
  have hw : t.store.writer = .recording := ho.writer.trans hwv
  cases pass with
  | true =>
    exact ((ht.openRecord (hroom rfl) (by rw [hw]; nofun) fun _ => ⟨hw, ho.noneOpen hno⟩).freshIntake
      ⟨newRecord c.start .opened false none t, newRecord_mem c.start .opened false none t, rfl, rfl⟩).judgeStore
  | false =>
    have hd : ∀ d ∈ t.store.index, d.number = c.number → d.state = .closing := fun d hd => hcl d (ho.mem hd)
    have hf := ht.amend (m := c.number) (f := Machine.setClosing .full)
      (ledger_updateClip ht.ledger fun d hd' hn => ⟨rfl, .inl (hd d hd' hn).symm⟩)
      (fun d hd' hn => ⟨rfl, rfl, rfl, rfl, Nat.le_refl _, .inl (hd d hd' hn).symm⟩) fun d hd' hn => (hd d hd' hn).symm
    have he := hf.endIntake
    refine (he.setWriter (w := .stopping) (he.ledger.moveWriter (fun d hd' => ?_) ?_ nofun nofun)).afterClose False.elim
    · obtain ⟨hd', -⟩ | ⟨b, -, -, rfl⟩ := mem_updateClip hd'
      · exact ho.noneOpen hno d hd'
      · nofun
    · show t.store.writer ≠ _
      rw [hw]; nofun

theorem Footing.takeClipPacket (st : ClipStream) (f : Byte) (pts : Nat) (p : Bytes) :
    Footing E False False W (takeClipPacket st f pts p s) := by
  unfold Machine.takeClipPacket; split
  · next c r hc hr =>
    split
    · have hs := h.startStall
      have ht := Footing.splitClip (c := c) hs hc
      unfold acceptPacket; dsimp only
      generalize Machine.splitClip c (Machine.startStall s) = t at ht
      split
      · split
        · split
          · next r' hr' => exact ht.packOrDrop (ht.opened_of_record hr') _ _ _ _
          · exact ht
        · exact ht.congr rfl
      · exact hs.packOrDrop (h.opened_of_record hr) _ _ _ _
    · exact h.congr rfl
  · exact h.congr rfl

theorem Footing.motionPacket (t : Trailer) : Footing E False False W (motionPacket t s) := by
  unfold Machine.motionPacket; split
  · next r _ hr =>
    split
    · exact h.packOrDrop (h.opened_of_record hr) _ _ _ _
    · exact h
  · exact h

/-! ### The Trigger Unit's actions -/

theorem Footing.fire (i : Nat) (e : TrigEntry) : Footing E False False W (fire i e s) := by
  unfold Machine.fire reportFiring
  split
  · refine Footing.report ?_ _
    unfold actMark; split
    · exact h
    · exact h.addMarker _
  · refine Footing.report ?_ _
    unfold actLock; dsimp only; split
    · exact h
    · have ha := fun c => h.lockPart c
      split
      · split
        · exact ha _
        · exact (ha _).lockPart _
      · exact ha _
  · refine Footing.report ?_ _
    unfold actSplit; split
    · exact h
    · split
      · exact h
      · split
        · exact h
        · exact h.updateIntake
  · refine Footing.report ?_ _
    unfold actStop; split
    · exact h.stopRecording _
    · exact h
  · refine Footing.report ?_ _
    unfold actStart; split
    · exact h
    · exact h.startRecording _
end

/-! ### The writes stay -/

section
variable (s : State)
theorem addMarker_writes (k : Nat) : (addMarker k s).2.2.writes = s.writes := by
  unfold addMarker; split
  · rfl
  · dsimp only; split <;> rfl
theorem setLock_writes (c : Clip) (v : Bool) : (setLock c v s).writes = s.writes := by
  have hs : ∀ t : State, (enqueueUpdate c.number t).writes = t.writes := fun t => by unfold enqueueUpdate; split <;> rfl
  unfold setLock; dsimp only; split
  · exact (judgeStore_writes _).trans (hs _)
  · exact judgeStore_writes _
theorem lockRecord_writes (c : Clip) : (lockRecord c s).2.writes = s.writes := by
  unfold lockRecord; split_ifs
  · rfl
  · exact report_writes s _
  · rfl
  · exact setLock_writes s c true
theorem unlockRecord_writes (c : Clip) : (unlockRecord c s).2.writes = s.writes := by
  unfold unlockRecord; split_ifs
  · rfl
  · rfl
  · exact setLock_writes s c false
theorem lockPart_writes (c : Clip) : (lockPart c s).2.writes = s.writes := by
  unfold lockPart; split
  · rfl
  · exact lockRecord_writes s c
theorem fire_writes (i : Nat) (e : TrigEntry) : (fire i e s).writes = s.writes := by
  unfold fire reportFiring
  split <;> rw [report_writes]
  · unfold actMark; split
    · rfl
    · exact addMarker_writes s _
  · unfold actLock; dsimp only; split
    · rfl
    · split
      · split
        · exact lockPart_writes s _
        · exact (lockPart_writes _ _).trans (lockPart_writes s _)
      · exact lockPart_writes s _
  · unfold actSplit; split
    · rfl
    · split_ifs <;> rfl
  · unfold actStop; split
    · exact stopRecording_writes s _
    · rfl
  · unfold actStart; split
    · rfl
    · exact startRecording_writes s _
theorem dropPacket_writes (r : IntakeRec) (st : Stream) (pts : Nat) : (dropPacket r st pts s).writes = s.writes := by
  unfold dropPacket; dsimp only; split
  · rfl
  · exact report_writes _ _
theorem packOrDrop_writes (r : IntakeRec) (st : Stream) (f : Byte) (pts : Nat) (p : Bytes) :
    (packOrDrop r st f pts p s).writes = s.writes := by
  unfold packOrDrop; dsimp only; split
  · rw [judgeHold_writes]; split <;> rfl
  · exact dropPacket_writes s r st pts
theorem splitClip_writes (c : Clip) : (splitClip c s).2.writes = s.writes := by
  have ht := (openingTest_writes (updateClip c.number (setClosing .split) (completePacking c.number s))).trans
    (completePacking_writes s c.number)
  unfold splitClip; dsimp only
  generalize openingTest (updateClip c.number (setClosing .split) (completePacking c.number s)) = t at ht
  split
  · exact (judgeStore_writes _).trans ((openRecord_writes t.2 c.start .opened false none).trans ht)
  · exact (afterClose_writes _).trans ht
theorem takeClipPacket_writes (st : ClipStream) (f : Byte) (pts : Nat) (p : Bytes) :
    (takeClipPacket st f pts p s).writes = s.writes := by
  unfold takeClipPacket; split
  · next c r _ _ =>
    have ht := splitClip_writes (startStall s) c
    split
    · unfold acceptPacket; dsimp only; split
      · split
        · split
          · exact (packOrDrop_writes _ _ _ _ _ _).trans ht
          · exact ht
        · exact ht
      · exact packOrDrop_writes (startStall s) _ _ _ _ _
    · rfl
  · rfl
theorem motionPacket_writes (t : Trailer) : (motionPacket t s).writes = s.writes := by
  unfold motionPacket; split
  · split
    · exact packOrDrop_writes s _ _ _ _ _
    · rfl
  · rfl
end
end Sys2Proof.Machine

/-! PROOF. The footing of a READY store through the closes that an allocation makes, the cut of a flush, and the chained extent
(R94, R100, R106, R109). -/

namespace Sys2Proof.Machine

/-- With the buffer emptied no write is of a discarded burst. -/
theorem WriteStands.emptied {s t : State} {w : WWrite} (h : WriteStands s w) (hs : t.store.state = s.store.state)
    (hi : t.store.index = s.store.index) (hb : t.intake.buffer = [])
    (hw : w.isBurst = true → ∀ b ∈ s.intake.buffer.head?, b.clip ≠ w.clip) : WriteStands t w := by
  obtain ⟨hr, c, hm, hn, hl, hk⟩ := h
  refine ⟨hs.trans hr, c, hi ▸ hm, hn, hl, ?_⟩
  rw [hb]
  cases w with
  | openTrailer a e => exact hk
  | fullTrailer a e => exact hk
  | weakTrailer a e => exact hk
  | finalTrailer a e => exact ⟨hk.1, hk.2.1, nofun⟩
  | burst a e p n hd x d =>
    obtain ⟨hk1, hk2, hk3⟩ := hk
    refine ⟨hk1, ?_, by rw [List.take_nil]; nofun⟩
    cases n with
    | zero => exact Nat.le_refl _
    | succ n =>
      cases hbuf : s.intake.buffer with
      | nil => rw [hbuf] at hk2; exact hk2
      | cons b bs =>
        rw [hbuf] at hk3 hw
        exact absurd ((hk3 b List.mem_cons_self).trans hn) (hw rfl b rfl)

section
variable {s : State}

theorem frozen_afterClose (s : State) : (afterClose s).frozen = (reapEmpty s).frozen := by
  have h1 := State.frozen_of_stock (stock_judgeStore (judgeHold (restWriter (reapEmpty s))))
  have h2 := State.frozen_of_stock (stock_judgeHold (restWriter (reapEmpty s)))
  exact h1.trans (h2.trans (frozen_restWriter _))

/-- A write whose record stays after a close stands. -/
theorem WriteStands.afterClose {w : WWrite} (h : WriteStands s w) (hu : (s.store.index.map Clip.number).Nodup)
    (hf : (afterClose s).store.find w.clip ≠ none) : WriteStands (afterClose s) w := by
  have hk := fun {α : Type} (f : State → α) hf => State.frozen_keeps (α := α) f hf (frozen_afterClose s)
  have hd := shed_reapEmpty s
  refine h.stays ((hk (fun s => s.store.state) fun _ => rfl).trans hd.state)
    ((hk (fun s => s.intake.buffer) fun _ => rfl).trans hd.buffer) fun c hc hn => ?_
  obtain ⟨d, hd'⟩ := Option.ne_none_iff_exists'.1 hf
  obtain ⟨hm, hdn⟩ := find_mem hd'
  have hi : (Machine.afterClose s).store.index = (reapEmpty s).store.index := hk (fun s => s.store.index) fun _ => rfl
  have hds : d ∈ s.store.index := hd.mem (hi ▸ hm)
  have hcd : d = c := List.inj_on_of_nodup_map hu hds hc (hdn.trans hn.symm)
  exact hcd ▸ hm
end

section
variable {E : Nat → Prop} {X I : Prop} {W : List WWrite} {s : State} (h : Footing E X I W s)
include h

theorem Footing.discardPacking : Footing E X I W (discardPacking s) := h.congr rfl

/-- Everything buffered is discarded where no record is OPEN. -/
theorem Footing.emptyBuffer (hX : X) (hn : s.store.noneOpen) :
    Footing E X I [] (s.mapIntake fun i => { i with buffer := [] }) := by
  refine ⟨ledger_mapIntake h.ledger _, h.placed, nofun, h.record, fun c hc hl _ _ => .inl ⟨hX, ?_⟩, nofun, h.scan⟩
  cases hs : c.state with
  | opened => exact absurd hs (hn c hc)
  | closing => rfl
  | closed => exact absurd hs hl

theorem Footing.stopWriter (ho : s.store.noneOpen) : Footing E X I W (stopWriter s) := by
  refine h.carry (ledger_stopWriter h.ledger ho) ?_
  unfold Machine.stopWriter; split <;> rfl
end

/-! ### The closes of an allocation -/

section
variable {X : Prop} {s : State}

/-- A record and its blocks go: CLOSING, with its blocks discarded. -/
theorem Footing.closeDiscard {I : Prop} (h : Footing noClip X I [] s) (hX : X) {c : Clip} (hc : c ∈ s.store.index)
    (hk : c.state ≠ .closed) (r : CloseReason) :
    Footing noClip X (I ∨ c.state = .opened) [] (discardBlocks c.number (updateClip c.number (Machine.setClosing r) s)) := by
  refine ((h.setClosing hc hk r).discard hX fun d hd hn => ?_).loosen (fun _ hE => hE.1) id id fun _ => id
  obtain ⟨-, hne⟩ | ⟨b, -, -, rfl⟩ := mem_updateClip hd
  · exact absurd hn hne
  · nofun

theorem Footing.closeBehind (h : Footing noClip X False [] s) (hX : X) : Footing noClip X False [] (closeBehind s) := by
  unfold Machine.closeBehind; split
  · next o ho =>
    obtain ⟨hm, hs⟩ := openClip_mem ho
    exact (h.closeDiscard hX hm (by rw [hs]; nofun) .full).discardPacking.endIntake
  · exact h

/-- The intake of a clip that closes for want of room ends, or a clip OPEN behind it closes, and the writer stops. -/
theorem Footing.closeFor (c : Clip) (h : Footing noClip X (c.state = .opened) [] s) (hX : X)
    (ho : c.state = .opened → s.store.noneOpen) : Footing noClip False False []
      (Machine.afterClose (Machine.stopWriter (if c.state = .opened then Machine.endIntake (Machine.discardPacking s)
        else Machine.closeBehind s))) := by
  by_cases hs : c.state = .opened
  · rw [if_pos hs]
    exact (h.discardPacking.endIntake.stopWriter (ho hs)).afterClose fun _ => rfl
  · rw [if_neg hs]
    have hb : Footing noClip X False [] s := h.loosen (fun _ => id) id hs fun _ => id
    exact ((hb.closeBehind hX).stopWriter h.ledger.noneOpen_closeBehind).afterClose fun _ => rfl
end

section
variable {s : State} (h : Footing noClip False False [] s)
include h

theorem Footing.fullClose {c : Clip} (hc : c ∈ s.store.index) (hk : c.state ≠ .closed) :
    Footing noClip False False [] (fullClose c s) := by
  have hX : Footing noClip True False [] s := h.loosen (fun _ => id) False.elim id fun _ => id
  have hd := (hX.closeDiscard trivial hc hk .full).loosen (I' := c.state = .opened) (fun _ => id) id
    (fun hI => hI.resolve_left id) fun _ => id
  exact Footing.closeFor c hd trivial fun ho => h.ledger.noneOpen_setClosing hc ho .full

theorem Footing.quotaClose {c : Clip} (hc : c ∈ s.store.index) (hk : c.state ≠ .closed) :
    Footing noClip False False [] (quotaClose c s) := by
  have hu : Footing (fun n => n = c.number) True (c.state = .opened) []
      (updateClip c.number (Machine.setClosing .lockQuota) s) :=
    (h.setClosing hc hk .lockQuota).loosen (fun _ => False.elim) False.elim (fun hI => hI.resolve_left id) fun _ => id
  have hcm : Machine.setClosing .lockQuota c ∈ (updateClip c.number (Machine.setClosing .lockQuota) s).store.index := by
    have := List.mem_map_of_mem (f := fun d => if d.number = c.number then Machine.setClosing .lockQuota d else d) hc
    rw [if_pos rfl] at this; exact this
  have hcl : ∀ d ∈ (updateClip c.number (Machine.setClosing .lockQuota) s).store.index, d.number = c.number →
      d.state ≠ .opened := fun d hd hn => by
    obtain ⟨-, hne⟩ | ⟨b, -, -, rfl⟩ := mem_updateClip hd
    · exact absurd hn hne
    · nofun
  have hno := fun ho : c.state = .opened => h.ledger.noneOpen_setClosing hc ho .lockQuota
  unfold Machine.quotaClose; dsimp only
  generalize hue : updateClip c.number (Machine.setClosing .lockQuota) s = u at hu hcm hcl hno
  have huw : u.store.writer = s.store.writer ∧ u.store.nextClip = s.store.nextClip := by rw [← hue]; exact ⟨rfl, rfl⟩
  have hv : Footing (fun n => n = c.number) True (c.state = .opened) []
      (if c.extentCount = 0 then Machine.removeClip c.number u else u) ∧ ∃ p, Shed p u (if c.extentCount = 0 then
        Machine.removeClip c.number u else u) := by
    split
    · exact ⟨hu.removeClip (c := Machine.setClosing .lockQuota c) hcm nofun (fun _ _ _ => rfl) nofun, _, shed_removeClip _ _⟩
    · exact ⟨hu, fun _ => False, .refl _ _⟩
  generalize (if c.extentCount = 0 then Machine.removeClip c.number u else u) = v at hv
  obtain ⟨hv, p, hd⟩ := hv
  obtain ⟨-, ho⟩ := ledger_openingTest hv.ledger
  have ht := hv.openingTest
  have hroom := openingTest_room (s := v)
  generalize Machine.openingTest v = test at ht ho hroom
  obtain ⟨pass, t⟩ := test
  dsimp only at ht ho hroom ⊢
  have hw : t.store.writer = s.store.writer := ho.writer.trans (hd.writer.trans huw.1)
  have htc : ∀ d ∈ t.store.index, d.number = c.number → d.state ≠ .opened := fun d hd' => hcl d (hd.mem (ho.mem hd'))
  have htn : c.state = .opened → t.store.noneOpen := fun hco => ho.noneOpen (hd.noneOpen (hno hco))
  cases pass with
  | true =>
    rw [if_pos rfl]
    have hr := ht.openRecord (t := c.start) (w := c.state) (k := true) (r := c.reason) (hroom rfl)
      (by rw [hw]; exact h.ledger.running hc hk) fun hco => ⟨by rw [hw]; exact h.ledger.recording hc hco, htn hco⟩
    have hnew := newRecord_mem c.start c.state true c.reason t
    have hne : t.store.nextClip ≠ c.number := by
      rw [ho.nextClip, hd.nextClip, huw.2]; exact (h.ledger.below hc).ne'
    have hg := (hr.retag (a := c.number) (b := t.store.nextClip) trivial (fun d hd' hn => by
      rw [openRecord_index] at hd'
      obtain hd' | hd' := List.mem_append.1 hd'
      · exact htc d hd' hn
      · rw [List.mem_singleton.1 hd'] at hn; exact absurd hn hne) ⟨_, hnew, rfl, hk⟩).loosen (E' := noClip) (X' := True)
        (I' := c.state = .opened) (W' := []) (fun _ hE => hE.2 hE.1) id id fun _ => id
    split
    · next hco =>
      refine Footing.afterClose (X := True) (Footing.touch ?_) fun _ => rfl
      exact hg.newIntake ⟨_, hnew, rfl, hco⟩ rfl fun r hrm => by obtain rfl := Option.some.inj hrm; rfl
    · next hco => exact (hg.loosen (fun _ => id) id hco fun _ => id).afterClose fun _ => rfl
  | false =>
    rw [if_neg Bool.false_ne_true]
    have hf : Footing noClip True (c.state = .opened) [] (updateClip c.number (fun c =>
        { c with flags := { c.flags with truncated := true } }) (Machine.discardBlocks c.number t)) :=
      Footing.touch ((ht.discard trivial htc).loosen (fun _ hE => hE.2 hE.1) id id fun _ => id)
    refine Footing.closeFor c hf trivial fun hco d hd' => ?_
    obtain ⟨hd', -⟩ | ⟨b, hb, -, rfl⟩ := mem_updateClip hd'
    · exact htn hco d hd'
    · exact htn hco b hb
end

/-! ### The cut of a flush -/

section
variable {s : State} {w : WWrite} (hf : s.card.writing = false)
include hf

/-- With no write in flight the writes are the retry. -/
theorem mem_writes_idle : w ∈ s.writes ↔ s.store.retry = some w := by
  refine mem_writes.trans (or_iff_left fun ⟨o, ho, hs⟩ => ?_)
  unfold Card.writing at hf
  rw [ho] at hf; simp [hs] at hf

theorem mem_writes_cancelBurst {n : Nat} (hw : w ∈ (cancelBurst n s).writes) :
    w ∈ s.writes ∧ (w.isBurst = true → w.clip ≠ n) := by
  have hr := (mem_writes_idle (s := cancelBurst n s) hf).1 hw
  have hr : (if s.store.retry.any (fun w => w.isBurst && w.clip = n) then none else s.store.retry) = some w := hr
  split at hr
  · cases hr
  · next hn =>
    refine ⟨(mem_writes_idle hf).2 hr, fun hb he => hn ?_⟩
    rw [hr]; simp [hb, he]

theorem mem_writes_dropOrphan (hw : w ∈ (dropOrphan s).writes) : w ∈ s.writes ∧ s.store.find w.clip ≠ none := by
  have hr := (mem_writes_idle (s := dropOrphan s) hf).1 hw
  have hr : (if s.store.retry.any (fun w => (s.store.find w.clip).isNone) then none else s.store.retry) = some w := hr
  split at hr
  · cases hr
  · next hn =>
    refine ⟨(mem_writes_idle hf).2 hr, fun he => hn ?_⟩
    rw [hr]; simp [he]
end

section
variable {E : Nat → Prop} {X I : Prop} {W : List WWrite} {s : State} (h : Footing E X I W s)
include h
theorem Footing.cancelBurst (n : Nat) : Footing E X I W (cancelBurst n s) := h.carry (ledger_mapStore h.ledger) rfl
theorem Footing.dropOrphan : Footing E X I W (dropOrphan s) := h.carry (ledger_mapStore h.ledger) rfl
end

/-- A flush that is cut while no write is in flight leaves the part sound. -/
theorem Sound.cutFlush {s : State} (h : Sound s) (hw : s.store.writer = .emergency) (hf : s.card.writing = false) :
    Sound (cutFlush s) := by
  unfold Machine.cutFlush; dsimp only; split
  · exact h
  · next b hb =>
    have h1 : Footing noClip False False s.writes (Machine.countFlush (fun f =>
        { f with truncated := f.truncated + 1, discarded := f.discarded + s.intake.buffer.length })
        (updateClip b.clip (fun c => { c with flags := { c.flags with truncated := true } }) s)) :=
      (Footing.touch h).countFlush _
    generalize hu : Machine.countFlush (fun f =>
        { f with truncated := f.truncated + 1, discarded := f.discarded + s.intake.buffer.length })
        (updateClip b.clip (fun c => { c with flags := { c.flags with truncated := true } }) s) = u at h1
    have hus : u.writes = s.writes := by rw [← hu]; rfl
    have huf : u.card.writing = false := by rw [← hu]; exact hf
    have hub : u.intake.buffer = s.intake.buffer := by rw [← hu]; rfl
    have huw : u.store.writer = .emergency := by rw [← hu]; exact hw
    have h2 := (h1.cancelBurst b.clip).loosen (X' := True) (fun _ => id) False.elim id fun _ => id
    have h3 := h2.emptyBuffer trivial (h2.ledger.noneOpen (by show u.store.writer ≠ .recording; rw [huw]; nofun))
    have h4 := (h3.afterClose fun _ => rfl).dropOrphan
    generalize hv : (Machine.cancelBurst b.clip u).mapIntake (fun i => { i with buffer := [] }) = v at h3 h4
    have hvf : v.card.writing = false := by rw [← hv]; exact huf
    have htf : (Machine.afterClose v).card.writing = false := by
      unfold Card.writing; rw [afterClose_op]; exact hvf
    refine ⟨h4.ledger, h4.placed, h4.blocks, h4.record, h4.held, fun w hwm => ?_, h4.scan⟩
    obtain ⟨hwm, hfind⟩ := mem_writes_dropOrphan htf hwm
    rw [afterClose_writes] at hwm
    have hwc : w ∈ (Machine.cancelBurst b.clip u).writes := by rw [← hv] at hwm; exact hwm
    obtain ⟨hwu, hburst⟩ := mem_writes_cancelBurst huf hwc
    have hwv : WriteStands v w := by
      refine WriteStands.emptied (s := u) (h1.writes w (hus ▸ hwu)) ?_ ?_ ?_ fun hbu x hx => ?_
      · rw [← hv]; rfl
      · rw [← hv]; rfl
      · rw [← hv]; rfl
      · rw [hub, hb] at hx
        obtain rfl := Option.some.inj hx
        exact (hburst hbu).symm
    exact (hwv.afterClose h3.ledger.numbers_nodup hfind).stays rfl rfl fun _ hc _ => hc

/-! ### Allocation -/

section
variable {X I : Prop} {s : State}

/-- The Free List's head joins the chain of a record that has blocks buffered. -/
theorem Footing.chainExtent (h : Footing noClip X I [] s) {c : Clip} (hc : c ∈ s.store.index)
    (hb : s.intake.holds c.number = true) {e : Nat} {fs : List Nat} (hf : s.store.free = e :: fs) :
    Footing noClip X I [] (chainExtent c e s) := by
  have hu : ∀ d ∈ s.store.index, d.number = c.number → d = c := fun d hd hn => h.ledger.unique hd hc hn
  have hl := ledger_chainExtent h.ledger hc False.elim e
  have hp := fun hr => (h.placed hr).chained hc hu hf
  rw [chainExtent_eq] at hl hp ⊢
  have hmem : ∀ d ∈ s.store.index, (if d.number = c.number then d.chained e else d) ∈
      s.store.index.map fun d => if d.number = c.number then d.chained e else d := fun d hd => List.mem_map_of_mem hd
  have hsame : ∀ d : Clip, (if d.number = c.number then d.chained e else d).number = d.number ∧
      (if d.number = c.number then d.chained e else d).state = d.state ∧
      (if d.number = c.number then d.chained e else d).dataBlocks = d.dataBlocks := fun d => by
    split <;> exact ⟨rfl, rfl, rfl⟩
  refine ⟨hl, hp, fun b hbm => (h.blocks b hbm).imp_right fun hs => ?_, h.record.imp_right fun hr r hrm => ?_,
    fun d hd hk hx h0 => ?_, nofun, h.scan⟩
  · obtain ⟨d, hd, hn, hk⟩ := hs
    exact ⟨_, hmem d hd, (hsame d).1.trans hn, by rw [(hsame d).2.1]; exact hk⟩
  · obtain ⟨d, hd, hn, ho⟩ := hr r hrm
    exact ⟨_, hmem d hd, (hsame d).1.trans hn, (hsame d).2.1.trans ho⟩
  · obtain ⟨a, ha, rfl⟩ := List.mem_map.1 hd
    rw [(hsame a).1]
    rw [(hsame a).2.1] at hk ⊢
    rw [(hsame a).2.2] at h0
    by_cases hn : a.number = c.number
    · rw [hn]; exact .inr hb
    · rw [if_neg hn] at hx
      exact h.held a ha hk hx h0
end

section
variable (c : Clip) (s : State)
theorem closeBehind_writes : (closeBehind s).writes = s.writes := by unfold closeBehind; split <;> rfl
theorem stopWriter_writes : (stopWriter s).writes = s.writes := by unfold stopWriter; split <;> rfl
theorem closeFor_writes : (afterClose (stopWriter (if c.state = .opened then endIntake (discardPacking s)
    else closeBehind s))).writes = s.writes := by
  rw [afterClose_writes, stopWriter_writes]
  split
  · rfl
  · exact closeBehind_writes s
theorem fullClose_writes : (fullClose c s).writes = s.writes := closeFor_writes c _
theorem quotaClose_writes : (quotaClose c s).writes = s.writes := by
  have hv : (if c.extentCount = 0 then removeClip c.number (updateClip c.number (setClosing .lockQuota) s)
      else updateClip c.number (setClosing .lockQuota) s).writes = s.writes := by
    split
    · exact (shed_removeClip _ _).writes
    · rfl
  unfold quotaClose; dsimp only
  have ht := (openingTest_writes _).trans hv
  generalize openingTest (if c.extentCount = 0 then removeClip c.number (updateClip c.number (setClosing .lockQuota) s)
      else updateClip c.number (setClosing .lockQuota) s) = t at ht
  split
  · rw [afterClose_writes]
    have hr := (openRecord_writes t.2 c.start c.state true c.reason).trans ht
    split
    · exact hr
    · exact hr
  · exact (closeFor_writes c _).trans ht
theorem chainExtent_writes (e : Nat) : (chainExtent c e s).writes = s.writes := by rw [chainExtent_eq]; rfl
end

/-- The allocation that is due leaves the part sound. -/
theorem Sound.allocate {s : State} (h : Sound s) {c : Clip} (hd : allocationDue s = some c) : Sound (allocate c s) := by
  obtain ⟨hfree, hretry, -, hh, hk, -⟩ := allocationDue_some hd
  have hf : s.card.writing = false := by
    unfold writerFree at hfree; simp at hfree; exact hfree.2
  obtain ⟨hc, b, hb, hbc⟩ := headClip_mem hh
  have hholds : s.intake.holds c.number = true :=
    List.any_eq_true.2 ⟨b, List.mem_of_mem_head? hb, decide_eq_true hbc⟩
  have hn : s.writes = [] := writes_nil hretry hf
  have h0 : Footing noClip False False [] s := Footing.unwritten h
  have hr := h0.reclaimUntil 1 s.store.index.length
  have hsh := h0.ledger.shed_reclaimUntil 1 s.store.index.length
  have hcr := hsh.stays c hc hk
  have hrw := hsh.writes.trans hn
  have hsub : ∀ {t : State}, t.writes = [] → ∀ w ∈ t.writes, w ∈ ([] : List WWrite) := fun ht w hw => ht ▸ hw
  unfold Machine.allocate; split
  · split
    · next hw => exact h.cutFlush hw hf
    · exact (h0.quotaClose hc hk).sound (hsub ((quotaClose_writes c s).trans hn))
  · dsimp only
    generalize reclaimUntil 1 s.store.index.length s = u at hr hsh hcr hrw
    split
    · split
      · next hw =>
        exact (hr.sound (hsub hrw)).cutFlush hw (by unfold Card.writing; rw [hsh.op]; exact hf)
      · exact (hr.fullClose hcr hk).sound (hsub ((fullClose_writes c u).trans hrw))
    · next e fs hfr =>
      have hx := (hr.chainExtent hcr (by unfold Intake.holds; rw [hsh.buffer]; exact hholds) hfr).judgeStore
      have hxw := (judgeStore_writes _).trans ((chainExtent_writes c u e).trans hrw)
      refine (hx.reclaimUntil _ _).sound (hsub ?_)
      exact (hx.ledger.shed_reclaimUntil _ _).writes.trans hxw
end Sys2Proof.Machine

/-! PROOF. The writes that the writer starts stand, and the other claims leave the part sound (R93, R96, R118 to R125). -/

namespace Sys2Proof.Machine

/-! ### The due write -/

theorem retry_writes {s : State} {w : WWrite} (h : s.store.retry = some w) : w ∈ s.writes := mem_writes.2 (.inl h)

section
variable {s : State} {c : Clip} (hr : s.store.state = .ready) (hc : c ∈ s.store.index) (hk : c.state ≠ .closed) {w : WWrite}
include hr hc hk

/-- The burst formed of the head clip's blocks stands. -/
theorem formBurst_stands {e : Nat} (he : c.lastExtent = some e) (h : formBurst c e s = some w) : WriteStands s w := by
  have hpre : ∀ k, ((s.intake.buffer.takeWhile fun b => b.clip = c.number).take k) <+: s.intake.buffer := fun k =>
    (List.take_prefix ..).trans (List.takeWhile_prefix _)
  unfold formBurst at h
  split at h
  · cases h
  · dsimp only at h
    rw [Option.ite_none_left_eq_some, Option.some.injEq] at h
    obtain ⟨-, rfl⟩ := h
    refine ⟨hr, c, hc, rfl, hk, he, (hpre _).length_le, fun b hb => ?_⟩
    rw [← List.prefix_iff_eq_take.1 (hpre _)] at hb
    simpa using List.mem_takeWhile_imp (List.mem_of_mem_take hb)

/-- The write that a live record's last extent calls for stands. -/
theorem phaseWrite_stands (h : phaseWrite c s = some w) : WriteStands s w := by
  unfold phaseWrite at h
  split at h
  · cases h
  · next e he =>
    split at h
    · cases h; exact ⟨hr, c, hc, rfl, hk, he⟩
    · cases h; exact ⟨hr, c, hc, rfl, hk, he⟩
    · cases h; exact ⟨hr, c, hc, rfl, hk, he⟩
    · exact formBurst_stands hr hc hk he h
    · cases h
end

theorem finalDue_some {s : State} {c : Clip} (h : finalDue s = some c) :
    c ∈ s.store.index ∧ c.state = .closing ∧ 0 < c.dataBlocks ∧ s.intake.holds c.number = false := by
  have hp := List.find?_some h
  simp only [Bool.and_eq_true, decide_eq_true_eq, Bool.not_eq_true'] at hp
  exact ⟨List.mem_of_find?_eq_some h, hp.1.1, hp.1.2, hp.2⟩

/-- The due write stands. -/
theorem Sound.dueWrite {s : State} (h : Sound s) {w : WWrite} (hd : dueWrite s = some w) : WriteStands s w := by
  unfold Machine.dueWrite at hd
  split at hd
  · cases hd
  · next hf =>
    have hr : s.store.state = .ready := by
      unfold writerFree at hf; simp at hf; exact hf.1.1
    split at hd
    · next x hx => cases hd; exact h.writes w (retry_writes hx)
    · split at hd
      · next c hc =>
        obtain ⟨hm, hs, h0, hh⟩ := finalDue_some hc
        have hk : c.state ≠ .closed := by rw [hs]; nofun
        unfold endingWrite at hd
        split at hd
        · exact phaseWrite_stands hr hm hk hd
        · obtain ⟨e, -, rfl⟩ := Option.map_eq_some_iff.1 hd
          exact ⟨hr, c, hm, rfl, hk, hs, h0, fun b hb => not_mem_of_not_holds hh hb⟩
      · split at hd
        · next c hc =>
          obtain ⟨hm, b, hb, hbc⟩ := headClip_mem hc
          obtain ⟨d, hdm, hdn, hk⟩ := (h.blocks b (List.mem_of_mem_head? hb)).resolve_left id
          obtain rfl := h.ledger.unique hdm hm (hdn.trans hbc)
          exact phaseWrite_stands hr hm hk hd
        · obtain ⟨c, hc, hp⟩ := Option.bind_eq_some_iff.1 hd
          obtain ⟨hm, ho⟩ := openClip_mem hc
          exact phaseWrite_stands hr hm (by rw [ho]; nofun) hp

/-! ### Operations start -/

section
variable {E : Nat → Prop} {X I : Prop} {W : List WWrite} {s : State} (h : Footing E X I W s)
include h

/-- A write that stands joins the others. -/
theorem Footing.add {w : WWrite} (hw : WriteStands s w) : Footing E X I (w :: W) s :=
  ⟨h.ledger, h.placed, h.blocks, h.record, h.held, fun x hx => by
    obtain rfl | hx := List.mem_cons.1 hx
    · exact hw
    · exact h.writes x hx, h.scan⟩

theorem Footing.clearRetry : Footing E X I W (clearRetry s) := h.carry (ledger_clearRetry h.ledger) rfl
theorem Footing.startOp (o : OpSource) (c : Nat) (k : OpKind) (x m : Nat) (d : Bytes) :
    Footing E X I W (startOp o c k x m d s) := h.mapCard h.ledger.bounded.2
theorem Footing.countRetry (b : Bool) : Footing E X I W (countRetry b s) := by
  unfold Machine.countRetry; split
  · exact h.mapCounters _
  · exact h
theorem Footing.startTrailer (w : WWrite) (c m e d : Nat) (f : Bool) : Footing E X I W (startTrailer w c m e d f s) := by
  unfold Machine.startTrailer; split
  · exact h.clearRetry
  · exact h.startOp _ _ _ _ _ _
theorem Footing.startWriter (c : Nat) (w : WWrite) : Footing E X I W (startWriter c w s) := by
  have hc := h.countRetry s.store.retry.isSome
  unfold Machine.startWriter; dsimp only; split
  · exact hc.startTrailer _ _ _ _ _ _
  · exact hc.startTrailer _ _ _ _ _ _
  · exact hc.startTrailer _ _ _ _ _ _
  · exact Footing.startTrailer hc.touch _ _ _ _ _ _
  · exact hc.startOp _ _ _ _ _ _
theorem Footing.popUpdate : Footing E X I W (popUpdate s) :=
  h.mapCard (by rw [List.length_drop]; have := h.ledger.bounded.2; omega)
theorem Footing.startUpdate : Footing E X I W (startUpdate s) := by
  unfold Machine.startUpdate; split
  · exact h
  · next u us hu =>
    split
    · exact h.popUpdate
    · split
      · exact h.popUpdate
      · have hb := h.ledger.bounded.2
        rw [hu] at hb
        exact ((h.mapCard hb).countRetry _).startOp _ _ _ _ _ _
theorem Footing.startScan : Footing E X I W (startScan s) := by
  unfold Machine.startScan; split
  · exact h
  · exact (h.countRetry _).startOp _ _ _ _ _ _
theorem Footing.startPass : Footing E X I W (startPass s) := by
  unfold Machine.startPass; split
  · exact h
  · split
    · exact h.congr (stock_passAnswer s _ _)
    · exact (h.mapCard h.ledger.bounded.2).startOp _ _ _ _ _ _
end

section
variable {s : State} {x : WWrite}

/-- The writes after an operation's start are the retry and the operation's own. -/
theorem mem_writes_startOp {o : OpSource} {c : Nat} {k : OpKind} {a m : Nat} {d : Bytes}
    (h : x ∈ (startOp o c k a m d s).writes) : x ∈ s.writes ∨ o = .writer x := by
  obtain hr | ⟨p, hp, hs⟩ := mem_writes.1 h
  · exact .inl (retry_writes hr)
  · cases hp; exact .inr hs

theorem mem_writes_startTrailer {w : WWrite} {c m e d : Nat} {f : Bool} (h : x ∈ (startTrailer w c m e d f s).writes) :
    x ∈ s.writes ∨ x = w := by
  unfold startTrailer at h
  split at h
  · obtain hr | ho := mem_writes.1 h
    · cases hr
    · exact .inl (mem_writes.2 (.inr ho))
  · exact (mem_writes_startOp h).imp_right fun he => by cases he; rfl

theorem countRetry_writes (b : Bool) (s : State) : (countRetry b s).writes = s.writes := by unfold countRetry; split <;> rfl

theorem mem_writes_startWriter {w : WWrite} {c : Nat} (h : x ∈ (startWriter c w s).writes) : x ∈ s.writes ∨ x = w := by
  have hc := countRetry_writes s.store.retry.isSome s
  unfold startWriter at h; dsimp only at h
  generalize countRetry s.store.retry.isSome s = u at h hc
  rw [← hc]
  split at h
  · exact mem_writes_startTrailer h
  · exact mem_writes_startTrailer h
  · exact mem_writes_startTrailer h
  · next n e =>
    have ht : (updateClip n (fun c => { c with finalBegun := true }) u).writes = u.writes := rfl
    rw [← ht]; exact mem_writes_startTrailer h
  · exact (mem_writes_startOp h).imp_right fun he => (OpSource.writer.inj he).symm

theorem mem_writes_startUpdate (h : x ∈ (startUpdate s).writes) : x ∈ s.writes := by
  unfold startUpdate at h
  split at h
  · exact h
  · split at h
    · exact h
    · split at h
      · exact h
      · have h := (mem_writes_startOp h).resolve_right nofun
        rw [countRetry_writes] at h; exact h

theorem mem_writes_startScan (h : x ∈ (startScan s).writes) : x ∈ s.writes := by
  unfold startScan at h
  split at h
  · exact h
  · have h := (mem_writes_startOp h).resolve_right nofun
    rw [countRetry_writes] at h; exact h

theorem mem_writes_startPass (h : x ∈ (startPass s).writes) : x ∈ s.writes := by
  unfold startPass at h
  split at h
  · exact h
  · split at h
    · rw [State.stock_keeps State.writes (fun _ => rfl) (stock_passAnswer s _ _)] at h; exact h
    · exact (mem_writes_startOp h).resolve_right nofun
end

theorem Sound.startClaim {s : State} (h : Sound s) : Sound (startClaim s) := by
  unfold Machine.startClaim; split
  · exact h
  · exact (Footing.startUpdate h).sound fun w => mem_writes_startUpdate
  · exact (Footing.startScan h).sound fun w => mem_writes_startScan
  · exact (Footing.startPass h).sound fun w => mem_writes_startPass
  · split
    · next w hw =>
      refine ((Footing.add h (h.dueWrite hw)).startWriter _ w).sound fun x hx => ?_
      obtain hx | rfl := mem_writes_startWriter hx
      · exact List.mem_cons_of_mem _ hx
      · exact List.mem_cons_self
    · exact h

/-- Every step of the due work leaves the part sound. -/
theorem Sound.pumpStep {s t : State} (h : Sound s) (ht : pumpStep s = some t) : Sound t := by
  unfold Machine.pumpStep at ht
  split at ht
  · cases ht
    exact (Footing.afterClose h False.elim).sound fun w hw => (afterClose_writes s).symm ▸ hw
  · split at ht
    · next hf =>
      cases ht
      unfold flushSpent at hf
      simp only [Bool.and_eq_true, decide_eq_true_eq, Bool.not_eq_true'] at hf
      exact h.cutFlush hf.1.1.1 hf.1.1.2
    · split at ht
      · next c hc => cases ht; exact h.allocate hc
      · split at ht
        · cases ht; exact h.startClaim
        · cases ht
end Sys2Proof.Machine

/-! PROOF. The endings of the writer's writes and of trailer updates leave the part sound (R93, R96, R99, R121, R124). -/

namespace Sys2Proof.Machine

section
variable {E : Nat → Prop} {X I : Prop} {W : List WWrite} {s : State} (h : Footing E X I W s)
include h

/-! ### Entries and chains -/

/-- An entry changes in nothing that its place looks at. -/
theorem Footing.updateOwned (i : Nat) {f : Owned → Owned} (hf : ∀ o : Owned, o.linked (f o)) : Footing E X I W (updateOwned i f s) := by
  refine ⟨ledger_updateOwned h.ledger i f, fun hr => ?_, h.blocks, h.record, h.held, fun w hw =>
    (h.writes w hw).stays rfl rfl fun _ hc _ => hc, h.scan⟩
  refine (h.placed hr).relink id (List.map_id _).symm (fun _ _ => rfl) (fun _ _ => rfl) (fun _ _ => rfl) (fun _ _ => rfl)
    (List.length_modify ..) rfl rfl (extents_updateOwned_free i f s) (fun j o hj => ?_) fun j o hj => ?_
  · rw [owned_updateOwned, hj]
    split
    · exact ⟨f o, rfl, hf o⟩
    · exact ⟨o, rfl, rfl, rfl, rfl⟩
  · rw [owned_updateOwned] at hj
    split at hj
    · obtain ⟨x, hx, rfl⟩ := Option.map_eq_some_iff.1 hj
      exact ⟨x, hx, hf x⟩
    · exact ⟨o, hj, rfl, rfl, rfl⟩

/-- A record's last extent leaves its chain while nothing is to be written. -/
theorem Footing.leaveChain {c : Clip} (hc : c ∈ s.store.index) (hr : s.store.state = .ready) {e : Nat}
    (he : c.lastExtent = some e) : Footing E X I [] (leaveChain c.number e s) := by
  have hl := ledger_leaveChain h.ledger c.number e
  rw [leaveChain_some (h.ledger.find_eq hc)] at hl ⊢
  generalize ({ s.store with extents := s.store.unlinked (s.store.prevOf c e) e } : Store).phaseAfter (s.store.prevOf c e) = p
    at hl ⊢
  have hg : ∀ d : Clip, (if d.number = c.number then d.unchained (s.store.prevOf c e) p else d).number = d.number ∧
      (if d.number = c.number then d.unchained (s.store.prevOf c e) p else d).state = d.state ∧
      (if d.number = c.number then d.unchained (s.store.prevOf c e) p else d).dataBlocks = d.dataBlocks ∧
      (if d.number = c.number then d.unchained (s.store.prevOf c e) p else d).extentCount ≤ d.extentCount := fun d => by
    split
    · exact ⟨rfl, rfl, rfl, Nat.sub_le _ _⟩
    · exact ⟨rfl, rfl, rfl, Nat.le_refl _⟩
  have hmem : ∀ d ∈ s.store.index, (if d.number = c.number then d.unchained (s.store.prevOf c e) p else d) ∈
      s.store.index.map fun d => if d.number = c.number then d.unchained (s.store.prevOf c e) p else d := fun d hd =>
    List.mem_map_of_mem hd
  refine Footing.carry (s := s.mapStore fun st => { st with
    extents := st.unlinked (s.store.prevOf c e) e
    index := st.index.map fun d => if d.number = c.number then d.unchained (s.store.prevOf c e) p else d })
    ⟨hl.congr (stock_judgeStore _).symm, fun _ => (h.placed hr).unchained hc (fun d hd hn => h.ledger.unique hd hc hn) he p,
      fun b hb => (h.blocks b hb).imp_right fun hs => ?_, h.record.imp_right fun hrs r hrm => ?_, fun d hd hk hx h0 => ?_,
      nofun, h.scan⟩ hl (State.frozen_of_stock (stock_judgeStore _))
  · obtain ⟨d, hd, hn, hk⟩ := hs
    exact ⟨_, hmem d hd, (hg d).1.trans hn, by rw [(hg d).2.1]; exact hk⟩
  · obtain ⟨d, hd, hn, ho⟩ := hrs r hrm
    exact ⟨_, hmem d hd, (hg d).1.trans hn, (hg d).2.1.trans ho⟩
  · obtain ⟨a, ha, rfl⟩ := List.mem_map.1 hd
    obtain ⟨h1, h2, h3, h4⟩ := hg a
    rw [h1]
    rw [h2] at hk ⊢
    rw [h3] at h0
    exact h.held a ha hk (hx.trans_le h4) h0

/-! ### A record closes -/

/-- A CLOSING record without buffered blocks becomes CLOSED. -/
theorem Footing.closeClip {c : Clip} (hc : c ∈ s.store.index) (ho : c.state ≠ .opened)
    (hb : ∀ b ∈ s.intake.buffer, b.clip ≠ c.number) : Footing E X I [] (closeClip c.number s) := by
  have hl : Ledger False False (updateClip c.number (fun c => { c with state := .closed }) s) :=
    ledger_updateClip h.ledger fun c _ _ => ⟨rfl, .inr (.inl rfl)⟩
  have hmem : ∀ d ∈ s.store.index, d.number ≠ c.number →
      d ∈ (updateClip c.number (fun c => { c with state := .closed }) s).store.index := fun d hd hn =>
    List.mem_map.2 ⟨d, hd, if_neg hn⟩
  have hu : Footing E X I [] (updateClip c.number (fun c => { c with state := .closed }) s) := by
    refine ⟨hl, fun hr => ?_, fun b hbm => (h.blocks b hbm).imp_right fun hs => ?_, h.record.imp_right fun hr r hrm => ?_,
      fun d hd hk hx h0 => ?_, nofun, h.scan⟩
    · refine (h.placed hr).relink _ rfl (fun d _ => ?_) (fun d _ => ?_) (fun d _ => ?_) (fun d _ => ?_) rfl rfl rfl
        (fun _ => Iff.rfl) (fun i o hio => ⟨o, hio, rfl, rfl, rfl⟩) fun i o hio => ⟨o, hio, rfl, rfl, rfl⟩
      all_goals split <;> rfl
    · obtain ⟨d, hd, hn, hk⟩ := hs
      exact ⟨d, hmem d hd (by rw [hn]; exact hb b hbm), hn, hk⟩
    · obtain ⟨d, hd, hn, hdo⟩ := hr r hrm
      exact ⟨d, hmem d hd fun he => ho (h.ledger.unique hd hc he ▸ hdo), hn, hdo⟩
    · obtain ⟨hd, -⟩ | ⟨b, -, -, rfl⟩ := mem_updateClip hd
      · exact h.held d hd hk hx h0
      · exact absurd rfl hk
  unfold Machine.closeClip; dsimp only; split
  · exact (hu.report _).countFlush _
  · exact hu
end

/-! ### Endings of writer writes -/

section
variable {s : State} {W : List WWrite}

theorem Footing.burstDone (h : Footing noClip False False W s) {m e n : Nat} {hd k : Bool}
    (hb : ∀ b ∈ s.intake.buffer.take n, b.clip = m) :
    Footing noClip False False [] (burstDone m e n hd k s) := by
  have h1 : Footing noClip False False W (updateClip m (fun c => { c with dataBlocks := c.dataBlocks + n }) s) :=
    h.amend (ledger_amend h.ledger) (fun c _ _ => ⟨rfl, rfl, rfl, rfl, Nat.le_add_right _ _, .inl rfl⟩) fun _ _ _ => rfl
  have h2 := (h1.updateOwned e (f := fun o => { o with data := o.data + n + (if hd then 1 else 0) }) fun o => ⟨rfl, rfl, rfl⟩).drop
    (n := m) (k := n) hb fun d hd' hdn h0 => by
      obtain ⟨-, hne⟩ | ⟨a, -, -, rfl⟩ := mem_updateClip (f := fun c => { c with dataBlocks := c.dataBlocks + n }) hd'
      · exact absurd hdn hne
      · have h0 : a.dataBlocks + n = 0 := h0
        omega
  unfold Machine.burstDone; dsimp only
  have hcomm : updateClip m (fun c => { c with dataBlocks := c.dataBlocks + n })
      (Machine.updateOwned e (fun o => { o with data := o.data + n + (if hd then 1 else 0) })
        (s.mapIntake fun i => { i with buffer := i.buffer.drop n })) =
      (Machine.updateOwned e (fun o => { o with data := o.data + n + (if hd then 1 else 0) })
        (updateClip m (fun c => { c with dataBlocks := c.dataBlocks + n }) s)).mapIntake
          fun i => { i with buffer := i.buffer.drop n } := rfl
  rw [hcomm]
  generalize (Machine.updateOwned e (fun o => { o with data := o.data + n + (if hd then 1 else 0) })
    (updateClip m (fun c => { c with dataBlocks := c.dataBlocks + n }) s)).mapIntake
      (fun i => { i with buffer := i.buffer.drop n }) = u at h2
  have h3 : Footing noClip False False [] (if Config.dataPositions ≤ u.store.dataOf e then setPhase m .fullDue u else u) := by
    split
    · exact h2.touch
    · exact h2
  refine Footing.judgeHold ?_
  split
  · exact h3.countFlush _
  · exact h3

/-- The ending of a write that stands leaves everything in its place. -/
theorem Footing.writerOk (h : Footing noClip False False W s) {w : WWrite} (hw : WriteStands s w) :
    Footing noClip False False [] (writerOk w s) := by
  have h0 := h.clearRetry
  obtain ⟨hr, c, hc, hn, hk, hx⟩ := hw
  unfold Machine.writerOk
  cases w with
  | openTrailer a e => exact Footing.touch h0.unwritten
  | fullTrailer a e => exact Footing.touch h0.unwritten
  | weakTrailer a e => exact Footing.touch h0.unwritten
  | burst a e p k hd x d =>
    have hn : c.number = a := hn
    obtain ⟨-, -, hb⟩ := hx
    rw [← hn]; exact h0.burstDone hb
  | finalTrailer a e =>
    have hn : c.number = a := hn
    obtain ⟨hs, -, hb⟩ := hx
    rw [← hn]; exact (h0.closeClip hc (by rw [hs]; nofun) hb).afterClose False.elim

theorem Footing.setCardFlag {E : Nat → Prop} {X I : Prop} (h : Footing E X I W s) (n : Nat) :
    Footing E X I W (setCardFlag n s) := h.touch

/-- A write that stands, given up, leaves everything in its place. -/
theorem Footing.giveUp (h : Footing noClip False False W s) {w : WWrite} (hw : WriteStands s w) :
    Footing noClip False False [] (giveUp w s) := by
  have h0 := h.clearRetry
  obtain ⟨hr, c, hc, hn, hk, hx⟩ := hw
  unfold Machine.giveUp
  cases w with
  | openTrailer a e =>
    have hn : c.number = a := hn
    rw [← hn]; exact h0.leaveChain hc hr hx
  | fullTrailer a e => exact Footing.touch (h0.unwritten.setCardFlag _)
  | weakTrailer a e => exact Footing.touch (h0.unwritten.setCardFlag _)
  | burst a e p k hd x d =>
    have hn : c.number = a := hn
    obtain ⟨he, -, -⟩ := hx
    dsimp only
    split
    · rw [← hn]; exact h0.leaveChain hc hr he
    · exact Footing.touch (h0.unwritten.updateOwned e (f := fun o => { o with weak := true }) fun o => ⟨rfl, rfl, rfl⟩)
  | finalTrailer a e =>
    have hn : c.number = a := hn
    obtain ⟨hs, -, hb⟩ := hx
    have hf : Footing noClip False False W (Machine.setCardFlag c.number (Machine.clearRetry s)) := h0.setCardFlag _
    have hcm : { c with flags := { c.flags with card := true } } ∈
        (Machine.setCardFlag c.number (Machine.clearRetry s)).store.index := by
      have := List.mem_map_of_mem (f := fun d : Clip => if d.number = c.number then
        { d with flags := { d.flags with card := true } } else d) hc
      rw [if_pos rfl] at this; exact this
    rw [← hn]
    exact (hf.closeClip hcm (by show c.state ≠ _; rw [hs]; nofun) hb).afterClose False.elim
end

/-! ### Endings -/

section
variable (s : State)
theorem closeClip_writes (m : Nat) : (closeClip m s).writes = s.writes := by
  unfold closeClip; dsimp only; split
  · exact report_writes _ _
  · rfl
theorem leaveChain_writes (m e : Nat) : (leaveChain m e s).writes = s.writes := by
  cases hf : s.store.find m with
  | none => unfold leaveChain; rw [hf]
  | some c => rw [leaveChain_some hf]; exact judgeStore_writes _
theorem burstDone_writes (m e n : Nat) (hd k : Bool) : (burstDone m e n hd k s).writes = s.writes := by
  have hp : ∀ u : State, (if Config.dataPositions ≤ u.store.dataOf e then setPhase m .fullDue u else u).writes = u.writes :=
    fun u => by split <;> rfl
  unfold burstDone; dsimp only
  rw [judgeHold_writes, apply_ite State.writes]
  exact (ite_self _).trans (hp _)
theorem writerOk_writes (w : WWrite) : (writerOk w s).writes = (clearRetry s).writes := by
  unfold writerOk
  cases w with
  | openTrailer a e => rfl
  | fullTrailer a e => rfl
  | weakTrailer a e => rfl
  | burst a e p k hd x d => exact burstDone_writes _ _ _ _ _ _
  | finalTrailer a e => exact (afterClose_writes _).trans (closeClip_writes _ _)
theorem giveUp_writes (w : WWrite) : (giveUp w s).writes = (clearRetry s).writes := by
  unfold giveUp
  cases w with
  | openTrailer a e => exact leaveChain_writes _ _ _
  | fullTrailer a e => rfl
  | weakTrailer a e => rfl
  | burst a e p k hd x d =>
    dsimp only; split
    · exact leaveChain_writes _ _ _
    · rfl
  | finalTrailer a e => exact (afterClose_writes _).trans (closeClip_writes _ _)
end

/-- The part is sound with no operation in flight where its footing covers what it stood on. -/
theorem sound_ofIdle {s t : State} (ht : Footing noClip False False s.writes t) (hw : t.writes = (cardIdle s).writes) :
    Sound t := ht.sound fun x hx => by
  rw [hw] at hx
  obtain hr | ⟨p, hp, -⟩ := mem_writes.1 hx
  · exact mem_writes.2 (.inl hr)
  · cases hp

section
variable {s : State} {o : CardOp} (h : Sound s) (ho : s.card.op = some o)
include h

theorem Sound.cardIdle : Footing noClip False False s.writes (cardIdle s) := Footing.mapCard h h.ledger.bounded.2

include ho

theorem Sound.writerOk {w : WWrite} (hs : o.source = .writer w) : Sound (writerOk w (Machine.cardIdle s)) := by
  have hw : w ∈ s.writes := mem_writes.2 (.inr ⟨o, ho, hs⟩)
  refine (h.cardIdle.writerOk (h.cardIdle.writes w hw)).sound fun x hx => ?_
  rw [writerOk_writes] at hx; exact hx

theorem Sound.writerError {w : WWrite} (hs : o.source = .writer w) : Sound (writerError w (Machine.cardIdle s)) := by
  have hw : w ∈ s.writes := mem_writes.2 (.inr ⟨o, ho, hs⟩)
  unfold Machine.writerError; split
  · refine (h.cardIdle.giveUp (h.cardIdle.writes w hw)).sound fun x hx => ?_
    rw [giveUp_writes] at hx; exact hx
  · refine (h.cardIdle.carry (t := (Machine.cardIdle s).mapStore fun st => { st with retry := some w })
      (ledger_mapStore h.cardIdle.ledger) rfl).sound fun x hx => ?_
    have hx : x ∈ [w] := hx
    rw [List.mem_singleton.1 hx]; exact hw

omit ho in
theorem Sound.popUpdate : Sound (popUpdate (Machine.cardIdle s)) := sound_ofIdle h.cardIdle.popUpdate rfl

omit ho in
theorem Sound.updateError : Sound (updateError (Machine.cardIdle s)) := by
  unfold Machine.updateError; split
  · exact sound_ofIdle h.cardIdle rfl
  · next u us hu =>
    split
    · exact h.popUpdate
    · split
      · exact sound_ofIdle (Footing.setCardFlag h.cardIdle.popUpdate _) rfl
      · have hb := h.cardIdle.ledger.bounded.2
        rw [hu] at hb
        exact sound_ofIdle (h.cardIdle.mapCard hb) rfl

omit ho in
theorem Sound.endPass (c : AnswerCode) (d : Bytes) : Sound (endPass c d (Machine.cardIdle s)) :=
  Sound.congr (sound_ofIdle h.cardIdle rfl) (stock_endPass _ c d)
end
end Sys2Proof.Machine

/-! PROOF. The scan, MOUNT, UNMOUNT, the store's entry to FAULT and a selected page leave the part sound (R79, R85 to R90). -/

namespace Sys2Proof.Machine

/-! ### Stores without live records -/

/-- A store with every record CLOSED and nothing buffered or recorded has its footing. -/
theorem footing_bare {t : State} (hl : Ledger False False t) (hc : ∀ c ∈ t.store.index, c.state = .closed)
    (hb : t.intake.buffer = []) (hr : t.intake.record = none) (hp : t.store.state = .ready → Parted t.store)
    (hs : ScanStands t) : Footing noClip False False [] t where
  ledger := hl
  placed := hp
  blocks b hm := by rw [hb] at hm; cases hm
  record := .inr fun r hm => by rw [hr] at hm; cases hm
  held c hm hk := absurd (hc c hm) hk
  writes := nofun
  scan := hs

section
variable {s : State} (h : Sound s) (hw : s.store.writer = .idle)
include h hw

/-- Nothing is written while the writer is IDLE. -/
theorem Sound.still {t : State} (hl : Ledger False False t) (hc : ∀ c ∈ t.store.index, c.state = .closed)
    (hi : t.intake = s.intake) (hwr : t.writes = s.writes) (hp : t.store.state = .ready → Parted t.store) (hs : ScanStands t) :
    Sound t := by
  have hcl : ∀ c ∈ s.store.index, c.state = .closed := fun c hm => h.ledger.closed_of_idle hw hm
  have hn := Footing.idle_writes h hcl
  refine (footing_bare hl hc (hi ▸ Footing.idle_buffer h hcl) (hi ▸ Footing.idle_record h id hcl) hp hs).sound fun w hm => ?_
  rw [hwr, hn] at hm; exact hm

theorem Sound.toUnmounted : Sound (toUnmounted s) := by
  have hl : Ledger False False (s.mapStore fun st =>
      { st with state := .unmounted, count := 0, generation := 0, extents := [], free := [], index := [], quota := 0,
                quotaEff := 0, scan := none }) := (ledger_toUnmounted h.ledger hw).congr (stock_judgeStore _).symm
  exact (h.still hw hl (fun _ hm => absurd hm List.not_mem_nil) rfl rfl nofun nofun).congr (stock_judgeStore _)

theorem Sound.rebuild {found : List Finding} (hf : found.length = s.store.count) : Sound (rebuild found s) := by
  have hl := ledger_rebuild h.ledger hw found
  rw [rebuild_eq] at hl ⊢
  have hs := (stock_judgeStore _).trans (stock_report (s.mapStore (Store.rebuilt found)) (.mountDone (rebuiltIndex found).length
    (freeFrom 0 (rebuiltMap found)).length (s.store.rebuilt found).badCount (s.store.rebuilt found).lockedExtents
      ((rebuiltIndex found).countP fun c => c.flags.unfinished)))
  refine (h.still hw (hl.congr hs.symm) (fun c hc => ?_) rfl rfl (fun _ => parted_rebuilt hf) nofun).congr hs
  exact rebuiltIndex_closed (by rw [State.mapStore_store, rebuilt_index] at hc; exact hc)

/-- A scan goes on with one finding for each extent read. -/
theorem Sound.scanNext (hk : s.store.scan ≠ none) {k : Scan} (hf : k.found.length = k.ext) (hc : k.ext < s.store.count) :
    Sound (s.mapStore fun st => { st with scan := some k }) := by
  have hst := h.ledger.scanning hk
  refine h.still hw (ledger_scanNext h.ledger hk k) (fun c hm => h.ledger.closed_of_idle hw hm) rfl rfl (fun hr => ?_)
    fun q hq => ?_
  · have hr : s.store.state = .ready := hr
    rw [hst] at hr; cases hr
  · obtain rfl := Option.some.inj hq
    exact ⟨hf, hc⟩
end

/-! ### The scan -/

section
variable {s : State} (h : Sound s)
include h

theorem Sound.scanFound (f : Finding) : Sound (scanFound f s) := by
  unfold Machine.scanFound; split
  · exact h
  · next k hk =>
    have hw := h.ledger.idle_of_scan hk
    obtain ⟨hf, hc⟩ := h.scan k hk
    dsimp only; split
    · next hle => exact h.rebuild hw (by rw [List.length_append, List.length_singleton]; omega)
    · next hlt =>
      refine h.scanNext hw (by rw [hk]; nofun) ?_ (Nat.lt_of_not_le hlt)
      rw [List.length_append, List.length_singleton, hf]

theorem Sound.scanOk (d : Bytes) : Sound (scanOk d s) := by
  unfold Machine.scanOk; split
  · exact h
  · next k hk =>
    split
    · exact h.toUnmounted (h.ledger.idle_of_scan hk)
    · exact h.scanFound _

theorem Sound.scanError : Sound (scanError s) := by
  unfold Machine.scanError; split
  · exact h
  · next k hk =>
    have hw := h.ledger.idle_of_scan hk
    obtain ⟨hf, hc⟩ := h.scan k hk
    split
    · exact h.toUnmounted hw
    · split
      · exact h.scanFound _
      · exact h.scanNext hw (by rw [hk]; nofun) hf hc

theorem Sound.stopScan (hw : s.store.writer = .idle) : Sound (stopScan s) := by
  unfold Machine.stopScan; split
  · cases hk : s.store.scan with
    | none => exact h.congr (by simp [State.stock, hk])
    | some k =>
      obtain ⟨hf, hc⟩ := h.scan k hk
      exact (h.scanNext hw (by rw [hk]; nofun) (k := { k with abandoned := true }) hf hc).congr (by simp [State.stock, hk])
  · exact h.toUnmounted hw

/-! ### MOUNT -/

omit h in
/-- A blank area has every extent free. -/
theorem parted_mountBlank (a m g : Nat) (st : Store) : Parted (mountBlank a m g st) := by
  have hget : ∀ i, (List.replicate m Extent.free)[i]? = some Extent.free ↔ i < m := fun i => by
    rw [List.getElem?_replicate]; simp
  refine ⟨List.length_replicate, List.nodup_range, fun i => List.mem_range.trans (hget i).symm,
    fun c hc => absurd hc List.not_mem_nil, fun i o hi => ?_⟩
  have hi : (List.replicate m Extent.free)[i]? = some (.owned o) := owned_iff.1 hi
  rw [List.getElem?_replicate] at hi
  split at hi <;> cases hi

theorem Sound.mountBlank (a m g : Nat) (hs : s.store.state = .unmounted) : Sound (s.mapStore (mountBlank a m g)) :=
  h.still (h.ledger.idle_of_notReady (by rw [hs]; nofun)) (ledger_mountBlank h.ledger hs a m g)
    (fun _ hm => absurd hm List.not_mem_nil) rfl rfl (fun _ => parted_mountBlank a m g s.store) nofun

theorem Sound.mountScan (a m g : Nat) (hs : s.store.state = .unmounted) (hm : 0 < m) : Sound (s.mapStore (mountScan a m g)) :=
  h.still (h.ledger.idle_of_notReady (by rw [hs]; nofun)) (ledger_mountScan h.ledger hs a m g)
    (fun _ hm => absurd hm List.not_mem_nil) rfl rfl nofun fun k hk => by
      obtain rfl := Option.some.inj hk
      exact ⟨rfl, hm⟩

/-! ### FAULT and the STORE table -/

theorem Sound.selectStore (t : StoreTab) : Sound (selectStore t s) := by
  have hs : (Machine.selectStore t s).frozen = s.frozen := (State.frozen_of_stock ((stock_judgeStore _).trans (stock_judgeHold _))).trans rfl
  refine (Footing.carry h (ledger_selectStore h.ledger t) hs).sound fun w hw => ?_
  have hw' : (Machine.selectStore t s).writes = s.writes := (judgeStore_writes _).trans ((judgeHold_writes _).trans rfl)
  exact hw' ▸ hw
end

theorem faultRecord_op (s : State) (m : Nat) : (faultRecord s m).card.op = s.card.op := by
  unfold faultRecord; dsimp only; split
  · split
    · exact (shed_removeClip _ _).op
    · exact report_op _ _
  · rfl

theorem foldl_faultRecord_op (ms : List Nat) (s : State) : (ms.foldl faultRecord s).card.op = s.card.op := by
  induction ms generalizing s with
  | nil => rfl
  | cons m ms ih => exact (ih _).trans (faultRecord_op s m)

/-- With no operation in flight the store's entry to FAULT leaves the part sound. -/
theorem Sound.enterFault {s : State} (h : Sound s) (ho : s.card.op = none) (c : FaultCause) : Sound (enterFault c s) := by
  have hl := ledger_enterFault h.ledger c
  unfold Machine.enterFault at hl ⊢
  split at hl
  · next hs =>
    rw [if_pos hs]
    dsimp only at hl ⊢
    have hf : Ledger False False (s.mapStore fun st => { st with flush := none }) := ledger_mapStore h.ledger
    have hzo : (s.mapStore fun st => { st with flush := none }).card.op = none := ho
    generalize (s.mapStore fun st => { st with flush := none }) = z at hl hf hzo ⊢
    obtain ⟨-, hcl⟩ := ledger_foldl_faultRecord hf ((z.store.index.filter Clip.live).map Clip.number) fun c hc hs =>
      List.mem_map.2 ⟨c, List.mem_filter.2 ⟨hc, live_iff.2 hs⟩, rfl⟩
    have hop := (foldl_faultRecord_op ((z.store.index.filter Clip.live).map Clip.number) z).trans hzo
    generalize List.foldl faultRecord z ((z.store.index.filter Clip.live).map Clip.number) = u at hl hcl hop ⊢
    generalize hv : ((Machine.endIntake (u.mapIntake fun i => { i with buffer := [], packing := [] })).mapStore fun st =>
      { st with state := .fault, writer := .idle, scan := none, retry := none }).mapCard (fun c => { c with updates := [] }) = v
      at hl ⊢
    have hst := (stock_judgeStore _).trans ((stock_judgeHold _).trans (stock_report v (.storeFault c s.store.state)))
    have hfoot : Footing noClip False False [] v := by
      refine footing_bare (hl.congr hst.symm) ?_ ?_ ?_ ?_ ?_
      · rw [← hv]; exact hcl
      · rw [← hv]; rfl
      · rw [← hv]; rfl
      · rw [← hv]; exact nofun
      · rw [← hv]; exact nofun
    have hnil : v.writes = [] := by
      refine writes_nil (by rw [← hv]; rfl) ?_
      unfold Card.writing
      have : v.card.op = none := by rw [← hv]; exact hop
      rw [this]
    exact (hfoot.sound fun w hw => hnil ▸ hw).congr hst
  · next hs => rw [if_neg hs]; exact h

/-! ### Every operation of the store -/

theorem sound_reset : Sound State.reset := by
  refine (footing_bare (ledger_reset False False) (fun c hc => absurd hc List.not_mem_nil) rfl rfl
    (fun hr => absurd (show StoreState.unmounted = .ready from hr) nofun) fun k hk => ?_).sound fun w hw => hw
  exact absurd (show none = some k from hk) nofun

theorem tended_sound : Tended Sound where
  congr h ht := h.congr ht
  reset := sound_reset
  idle h := h.ledger.idle_of_notReady
  fire i e h := (Footing.fire h i e).sound fun w hw => (fire_writes _ i e) ▸ hw
  pump h ht := h.pumpStep ht
  packet st f pts p h := (Footing.takeClipPacket h st f pts p).sound fun w hw => takeClipPacket_writes _ st f pts p ▸ hw
  motion t h := (Footing.motionPacket h t).sound fun w hw => motionPacket_writes _ t ▸ hw
  stop r h := (Footing.stopRecording h r).sound fun w hw => stopRecording_writes _ r ▸ hw
  start t h := (Footing.startRecording h t).sound fun w hw => startRecording_writes _ t ▸ hw
  mark k h := (Footing.addMarker h k).sound fun w hw => addMarker_writes _ k ▸ hw
  lock h _ := (Footing.lockRecord h _).sound fun w hw => lockRecord_writes _ _ ▸ hw
  unlock h _ := (Footing.unlockRecord h _).sound fun w hw => unlockRecord_writes _ _ ▸ hw
  delete h hc hk := (Footing.dropClosed h hc hk).sound fun w hw => dropClip_writes _ _ ▸ hw
  blank a m g h hs := h.mountBlank a m g hs
  scan a m g h hs hm := h.mountScan a m g hs hm
  unmount h hw := h.toUnmounted hw
  abandon h hw := h.stopScan hw
  withdraw h := (Footing.mapCard h (Nat.zero_le _)).sound fun w hw => hw
  ok {s o} d h ho := by
    unfold tellOk; split
    · next w hw => exact h.writerOk ho hw
    · exact h.popUpdate
    · exact (sound_ofIdle h.cardIdle rfl).scanOk d
    · exact h.endPass _ _
  error {s o} h ho := by
    unfold tellError; split
    · next w hw => exact h.writerError ho hw
    · exact h.updateError
    · exact (sound_ofIdle h.cardIdle rfl).scanError
    · exact h.endPass _ _
  gone {s t} c h ht := by
    have hi : Sound (s.mapCard fun k => { k with op := none }) :=
      sound_ofIdle (s := s) (Footing.mapCard h h.ledger.bounded.2) rfl
    exact (hi.congr ht).enterFault (State.stock_keeps (fun s => s.card.op) (fun _ => rfl) ht) c
  page t h := h.selectStore t
  calmer f h _ := (Footing.carry (t := State.mapThermal f _) h ⟨h.ledger.bounded, h.ledger.ordered, False.elim, False.elim⟩ rfl).sound fun w hw => hw
  emergency {s t} f r h ht := by
    have hf : Sound (s.mapThermal f) :=
      (Footing.carry (t := State.mapThermal f _) h ⟨h.ledger.bounded, h.ledger.ordered, False.elim, False.elim⟩ rfl).sound fun w hw => hw
    exact (Footing.enterEmergency (hf.congr ht) r).sound fun w hw => enterEmergency_writes _ r ▸ hw

/-- Settles O59: every operation of the store leaves what stands on the records and the extents' places as they must be. -/
theorem stepKeepsExtentsPlaced : Obligations.StepKeepsExtentsPlaced := by
  intro s t hb ho hs hp hst
  obtain ⟨-, -, hs', hp'⟩ := sound_iff.1 (tended_step tended_sound hst (sound_iff.2 ⟨hb, ho, hs, hp⟩))
  exact ⟨hs', hp'⟩
end Sys2Proof.Machine
